-- ==== Sys2Proof/Word.lean ====
section
/-! DEFINITION. The plain words of the M82: a bus word, a host tag, and the numbers of slots and groups (00_scope.md 1.6, 1.7). -/

namespace Sys2Proof

/-- A 32-bit word of the register window (10_register_window_and_formats.md 10.1). -/
abbrev Word := BitVec 32

/-- A host tag, 0 to 255 (00_scope.md 1.5). -/
abbrev Tag := BitVec 8

/-- A rank slot, 0 to 7. -/
abbrev Slot := Fin 8

/-- A calibration group, 0 to 3. -/
abbrev GroupId := Fin 4

/-- A thermal band, 0 to 3. -/
abbrev Band := Fin 4

/-- A temperature in quarter degrees (00_scope.md 1.6). -/
abbrev Temp := Int

end Sys2Proof
end

