-- ==== Sys2Proof/Syntax.lean ====
section
/-! DEFINITION. The commands of the M82: one constructor of `Instr` per row of opcode_table.json, with the operands the row's
rule gives it. Fields of host commands have the width the command record of 10.4 gives them, so every value a host can write is
an operand. -/

namespace Sys2Proof

/-- The two memory channels. -/
inductive Chan where
  | a | b
deriving DecidableEq, Repr

/-- The kinds of calibration (R73). -/
inductive CalKind where
  | short | long
deriving DecidableEq, Repr

/-- What a group's result line reads: high is OK, low is FAIL (R157). -/
inductive CalResult where
  | ok | fail
deriving DecidableEq, Repr

/-- The fifteen timing fields of a SET_TIMING record (10.4). -/
structure TimingFields where
  napExit : BitVec 8
  napEntry : BitVec 8
  refreshBusy : BitVec 8
  deepEntry : BitVec 8
  baseInterval : BitVec 12
  calLong : BitVec 12
  windowBudget : BitVec 13
  deepSettle : BitVec 11
  grantWait : BitVec 14
  releaseWait : BitVec 14
  urgentGrantWait : BitVec 17
  calShort : BitVec 10
  tokenHold : BitVec 17
  deepExit : BitVec 9
  calPeriod : BitVec 30
deriving DecidableEq, Repr

/-- The five fields of a SET_REFRESH_POLICY record (10.4). -/
structure PolicyFields where
  postponeLimit : BitVec 8
  advanceLimit : BitVec 8
  urgentAt : BitVec 8
  gatherThreshold : BitVec 8
  advanceEnable : BitVec 8
deriving DecidableEq, Repr

/-- The eight fields of a SET_THERMAL record (10.4). -/
structure ThermalFields where
  rise1 : BitVec 16
  rise2 : BitVec 16
  rise3 : BitVec 16
  hyst : BitVec 8
  fallbackBand : BitVec 8
  pollPeriod : BitVec 24
  calDrift : BitVec 8
  busSpeed : BitVec 8
deriving DecidableEq, Repr

/-- The seventeen commands a record can hold (R170, 10.4), without the tag. -/
inductive HostCommand where
  | configureRank (slot channel group : BitVec 8) (address : BitVec 7) (present : Bool)
  | removeRank (slot : BitVec 8)
  | bringOnline (slot : BitVec 8)
  | takeOffline (slot : BitVec 8)
  | queryRank (slot : BitVec 8)
  | setBand (slot band : BitVec 8)
  | setTiming (fields : TimingFields)
  | setRefreshPolicy (fields : PolicyFields)
  | setThermal (fields : ThermalFields)
  | flushHost (channel : BitVec 8)
  | resetChannel (channel : BitVec 8)
  | refreshNow (slot count : BitVec 8)
  | calibrate (slot kind : BitVec 8)
  | napEnter (slot : BitVec 8)
  | napExit (slot : BitVec 8)
  | deepEnter (slot : BitVec 8)
  | deepExit (slot : BitVec 8)
deriving DecidableEq, Repr

/-- The seventeen command kinds, as an outstanding entry and a completion name them (R171, R175). -/
inductive CommandKind where
  | configureRank | removeRank | bringOnline | takeOffline | queryRank | setBand | setTiming | setRefreshPolicy
  | setThermal | flushHost | resetChannel | refreshNow | calibrate | napEnter | napExit | deepEnter | deepExit
deriving DecidableEq, Repr

/-- A snapshot the register window holds a copy of (R186). -/
inductive SnapshotId where
  | rank (slot : Slot)
  | group (group : GroupId)
deriving DecidableEq, Repr

/-- What the M82 finds on the sensor bus when a read attempt ends (R49, R50): whether a bus fault occurred, whether the address
was acknowledged, the two data bytes, how many TU beyond the attempt's bit periods it took, and the level of the data line at that
moment. `stretch` is the time the M82 waited for the clock, and in a bus fault, which can come at any bit, the whole time since the
attempt's start (entry 9). -/
structure AttemptEnding where
  fault : Bool
  ack : Bool
  word : BitVec 16
  stretch : Nat
  sda : Bool
deriving DecidableEq, Repr

/-- The levels of a channel's two input lines (R132). -/
structure LineLevels where
  qgnt : Bool
  qrcl : Bool
deriving DecidableEq, Repr

/-- The fields of a CONTROL write beside its soft-reset bit (10.2). -/
structure ControlFields where
  enable : Bool
  threshold : BitVec 7
deriving DecidableEq, Repr

/-- A write of the register window: the word, and the level of the sensor bus's data line then, which a soft reset whose drain ends with
the write looks at (R69). -/
structure WindowWrite where
  word : Word
  sda : Bool
deriving DecidableEq, Repr

/-- The lines an engine's completion finds: the result line of the task's group (R157), and the data line of the sensor bus, which the end
of a soft-reset drain looks at (R69). -/
structure CompletionLines where
  result : CalResult
  sda : Bool
deriving DecidableEq, Repr

/-- The commands, one constructor per row of opcode_table.json. -/
inductive Instr where
  /-- CONFIGURE_RANK (R6 to R8). -/
  | configureRank (tag : Tag) (slot channel group : BitVec 8) (address : BitVec 7) (present : Bool)
  /-- REMOVE_RANK (R9). -/
  | removeRank (tag : Tag) (slot : BitVec 8)
  /-- BRING_ONLINE (R10). -/
  | bringOnline (tag : Tag) (slot : BitVec 8)
  /-- TAKE_OFFLINE (R11 to R14). -/
  | takeOffline (tag : Tag) (slot : BitVec 8)
  /-- QUERY_RANK (R20). -/
  | queryRank (tag : Tag) (slot : BitVec 8)
  /-- SET_BAND (R64). -/
  | setBand (tag : Tag) (slot band : BitVec 8)
  /-- SET_TIMING (R173). -/
  | setTiming (tag : Tag) (fields : TimingFields)
  /-- SET_REFRESH_POLICY (R43, R44). -/
  | setRefreshPolicy (tag : Tag) (fields : PolicyFields)
  /-- SET_THERMAL (R66, R67). -/
  | setThermal (tag : Tag) (fields : ThermalFields)
  /-- FLUSH_HOST (R124, R125). -/
  | flushHost (tag : Tag) (channel : BitVec 8)
  /-- RESET_CHANNEL (R174). -/
  | resetChannel (tag : Tag) (channel : BitVec 8)
  /-- REFRESH_NOW (R36, R119). -/
  | refreshNow (tag : Tag) (slot count : BitVec 8)
  /-- CALIBRATE (R79). -/
  | calibrate (tag : Tag) (slot kind : BitVec 8)
  /-- NAP_ENTER (R97). -/
  | napEnter (tag : Tag) (slot : BitVec 8)
  /-- NAP_EXIT (R99). -/
  | napExit (tag : Tag) (slot : BitVec 8)
  /-- DEEP_ENTER (R100). -/
  | deepEnter (tag : Tag) (slot : BitVec 8)
  /-- DEEP_EXIT (R104). -/
  | deepExit (tag : Tag) (slot : BitVec 8)
  /-- A submission whose word 0 holds no command code (R170). -/
  | unknownCommand (word0 : Word)
  /-- A CONTROL write with the soft-reset bit set and these other fields, with the level of the sensor bus's data line then (R69, R184,
  10.2). -/
  | softReset (fields : ControlFields) (sda : Bool)
  /-- A CONTROL write of the interrupt enable bit, its IntThreshold field 0, which is ignored (R181, R183). -/
  | interruptEnable (enable : Bool)
  /-- A CONTROL write of IntThreshold, with the enable bit the same write carries (R183). -/
  | intThreshold (enable : Bool) (threshold : BitVec 7)
  /-- A read of POP3 (R180, R185). -/
  | pop
  /-- A read of word 0 of a snapshot (R186). -/
  | snapshotCapture (snapshot : SnapshotId)
  /-- A write at a byte offset of the register window (R183). -/
  | registerWrite (offset : BitVec 12) (write : WindowWrite)
  /-- RESET_N asserted (R3, 10.7). -/
  | powerOnReset
  /-- Settled rise of QGNT (R132, R135, R138, R139, R144). -/
  | qgntRise (channel : Chan)
  /-- Settled fall of QGNT (R144, R145). -/
  | qgntFall (channel : Chan)
  /-- Settled rise of QRCL (R141). -/
  | qrclRise (channel : Chan)
  /-- Settled fall of QRCL (R141). -/
  | qrclFall (channel : Chan)
  /-- Expiry of a rank's interval timer (R25). -/
  | intervalExpiry (slot : Slot)
  /-- Expiry of a rank's settle timer (R106). -/
  | settleExpiry (slot : Slot)
  /-- Expiry of a group's token-hold timer (R85). -/
  | tokenHoldExpiry (group : GroupId)
  /-- Expiry of a rank's periodic calibration timer (R89). -/
  | periodicExpiry (slot : Slot)
  /-- Expiry of a negotiator's grant timer (R137). -/
  | grantTimerExpiry (channel : Chan)
  /-- Expiry of a negotiator's release timer (R145). -/
  | releaseTimerExpiry (channel : Chan)
  /-- Expiry of an engine's completion timer, with the lines it finds then (R69, R157, R161). -/
  | taskCompletion (channel : Chan) (lines : CompletionLines)
  /-- The timed sample of the result line during a calibration of a napping rank (R157, R158). -/
  | calResultSample (channel : Chan) (line : CalResult)
  /-- Expiry of the poll timer, with the levels of the sensor bus lines then (R49, R52). -/
  | pollTimerExpiry (scl sda : Bool)
  /-- End of a sensor read attempt (R50, R54). -/
  | attemptEnd (ending : AttemptEnding)
  /-- A clock held low for longer than 25 ms (R49, R60, R61): how many TU after the start of the attempt, pulse or stop condition the
  M82 released the clock line, and the level of the data line when the 25 ms have run. -/
  | clockStretchTimeout (released : Nat) (sda : Bool)
  /-- End of a bus recovery clock pulse or of recovery's stop condition, the clock having risen: the TU the M82 waited for the clock,
  and the level of the data line then (R61). -/
  | recoveryPulse (stretch : Nat) (sda : Bool)
  /-- One microsecond of the timestamp counter (R183). -/
  | timestampTick
  /-- RESET_N rises, with the levels of QGNT and QRCL of both channels (R132, 10.7). -/
  | resetNRise (levelsA levelsB : LineLevels)
deriving DecidableEq, Repr

end Sys2Proof
end

