-- ==== Sys2Proof/Config.lean ====
section
/-! DEFINITION. What the part fixes: capacities and the reset values of its parameters (00_scope.md 1.7). -/

namespace Sys2Proof

/-- Timing parameters, in TU (00_scope.md 1.7). -/
structure Timing where
  baseInterval : Nat
  refreshBusy : Nat
  calShort : Nat
  calLong : Nat
  napExit : Nat
  napEntry : Nat
  deepEntry : Nat
  deepExit : Nat
  deepSettle : Nat
  windowBudget : Nat
  grantWait : Nat
  urgentGrantWait : Nat
  releaseWait : Nat
  tokenHold : Nat
  calPeriod : Nat
deriving DecidableEq, Repr

/-- Refresh policy (00_scope.md 1.7). -/
structure Policy where
  postponeLimit : Nat
  advanceLimit : Nat
  urgentAt : Nat
  gatherThreshold : Nat
  advanceEnable : Bool
deriving DecidableEq, Repr

/-- The two speeds of the sensor bus (R49). -/
inductive BusSpeed where
  | khz100 | khz400
deriving DecidableEq, Repr

/-- Thermal settings; temperatures in quarter degrees (00_scope.md 1.7). -/
structure Thermal where
  rise1 : Temp
  rise2 : Temp
  rise3 : Temp
  hyst : Nat
  pollPeriod : Nat
  fallbackBand : Band
  calDrift : Nat
  busSpeed : BusSpeed
deriving DecidableEq, Repr

namespace Config

/-- Tasks a channel queue can hold. -/
def queueCapacity : Nat := 32

/-- REFRESH_NOW tasks a channel's host refresh pool can hold. -/
def hostPool : Nat := 8

/-- Slots each configured rank reserves in its channel's queue (R117). -/
def slotsPerRank : Nat := 3

/-- Entries of the outstanding-command table. -/
def outstandingCapacity : Nat := 16

/-- Records the report queue can hold. -/
def reportCapacity : Nat := 64

/-- Largest lost-notice count. -/
def lostMax : Nat := 255

/-- Largest overrun count. -/
def overrunMax : Nat := 65535

/-- Consecutive failed reads that make a sensor FAILED (R55). -/
def sensorFailureLimit : Nat := 3

/-- Consecutive calibration failures that fault a rank (R16). -/
def calFailureLimit : Nat := 2

/-- Revocations an entry survives (R85). -/
def revocationLimit : Nat := 2

/-- Clock pulses of one bus recovery (R61). -/
def recoveryPulses : Nat := 9

/-- The longest wait for the sensor bus clock, 25 ms (R49). -/
def clockStretchLimit : Nat := 2500000

/-- TU between two ticks of the timestamp counter (R183). -/
def timestampPeriod : Nat := 100

/-- Bit periods of a complete attempt without clock stretching (R50). -/
def attemptBits : Nat := 29

/-- Bit periods of an attempt that ends NO_ACK (R50). -/
def noAckBits : Nat := 11

/-- The identifier word (10.1). -/
def identifier : Word := 0x0082B510#32

/-- Lowest and highest temperature a sample may have, −40.00 °C and +127.75 °C (R50). -/
def tempMin : Temp := -160
def tempMax : Temp := 511

/-- The timing parameters after reset. -/
def timing : Timing :=
  { baseInterval := 780, refreshBusy := 26, calShort := 64, calLong := 256, napExit := 3, napEntry := 2, deepEntry := 5,
    deepExit := 20, deepSettle := 52, windowBudget := 400, grantWait := 200, urgentGrantWait := 1000, releaseWait := 50,
    tokenHold := 2000, calPeriod := 12800000 }

/-- The refresh policy after reset. -/
def policy : Policy :=
  { postponeLimit := 5, advanceLimit := 2, urgentAt := 3, gatherThreshold := 2, advanceEnable := true }

/-- The thermal settings after reset. -/
def thermal : Thermal :=
  { rise1 := 340, rise2 := 380, rise3 := 420, hyst := 8, pollPeriod := 100000, fallbackBand := 2, calDrift := 40,
    busSpeed := .khz100 }

end Config

/-- One bit period of the sensor bus (R49). -/
def BusSpeed.bitPeriod : BusSpeed → Nat
  | .khz100 => 1000
  | .khz400 => 250

/-- The longest duration a queued task can have (00_scope.md 1.7). -/
def maxTask (t : Timing) (postponeLimit : Nat) : Nat :=
  max (max (t.napExit + t.calLong + t.napEntry) (t.napExit + postponeLimit * t.refreshBusy + t.deepEntry))
    (max (t.napExit + 8 * t.refreshBusy + t.napEntry) t.deepExit)

end Sys2Proof
end

