-- ==== Sys2Proof/WellFormed.lean ====
section
/-! DEFINITION. Which commands are well formed. The operands of almost every command may hold any value (a value out of range is
answered by a completion, R5, R176); three rows name only part of what their operands could spell. -/

namespace Sys2Proof

/-- The command codes of 10.4 are 0x01 to 0x11. -/
def isCommandCode (code : BitVec 8) : Bool := decide (1 ≤ code.toNat) && decide (code.toNat ≤ 17)

/-- Every access of the register window is an aligned word (10.1). -/
def isAligned (offset : BitVec 12) : Bool := decide (offset.toNat % 4 = 0)

/-- CONTROL and SUBMIT: their writes are rows of their own (10.1). -/
def hasOwnWriteRow (offset : BitVec 12) : Bool := offset == 0x008#12 || offset == 0x010#12

/-- A command is well formed when its row of the table is the one that names it: an unknown command holds no command code
(R170), and a register write is aligned and is a write neither of CONTROL nor of SUBMIT (R183). -/
def WellFormed : Instr → Bool
  | .unknownCommand word0 => !isCommandCode (word0.extractLsb' 0 8)
  | .registerWrite offset _ => isAligned offset && !hasOwnWriteRow offset
  | .configureRank .. | .removeRank .. | .bringOnline .. | .takeOffline .. | .queryRank .. | .setBand .. | .setTiming ..
  | .setRefreshPolicy .. | .setThermal .. | .flushHost .. | .resetChannel .. | .refreshNow .. | .calibrate .. | .napEnter ..
  | .napExit .. | .deepEnter .. | .deepExit .. | .softReset .. | .interruptEnable .. | .intThreshold .. | .pop
  | .snapshotCapture .. | .powerOnReset | .qgntRise .. | .qgntFall .. | .qrclRise .. | .qrclFall .. | .intervalExpiry ..
  | .settleExpiry .. | .tokenHoldExpiry .. | .periodicExpiry .. | .grantTimerExpiry .. | .releaseTimerExpiry ..
  | .taskCompletion .. | .calResultSample .. | .pollTimerExpiry .. | .attemptEnd .. | .clockStretchTimeout ..
  | .recoveryPulse .. | .timestampTick | .resetNRise .. => true

end Sys2Proof
end

