-- ==== Sys2Proof/Decode.lean ====
section
/-! DEFINITION. Reading and writing the command record of the eight staging words (10_register_window_and_formats.md 10.4).
opcode_table.json gives no row any bits, so no word spells a command of the table by itself: `decodeTableWord` answers none. -/

namespace Sys2Proof

/-- The command a table word spells: the table gives no row bits. -/
def decodeTableWord (_nbits _w : Nat) : Option Instr := none

/-- A field of a word: `n` bits from bit `lo` up. -/
def field (w : Word) (lo n : Nat) : BitVec n := w.extractLsb' lo n

/-- The eight staging words. -/
abbrev Record := Vector Word 8

namespace HostCommand

/-- The kind of a command. -/
def kind : HostCommand → CommandKind
  | configureRank .. => .configureRank
  | removeRank .. => .removeRank
  | bringOnline .. => .bringOnline
  | takeOffline .. => .takeOffline
  | queryRank .. => .queryRank
  | setBand .. => .setBand
  | setTiming .. => .setTiming
  | setRefreshPolicy .. => .setRefreshPolicy
  | setThermal .. => .setThermal
  | flushHost .. => .flushHost
  | resetChannel .. => .resetChannel
  | refreshNow .. => .refreshNow
  | calibrate .. => .calibrate
  | napEnter .. => .napEnter
  | napExit .. => .napExit
  | deepEnter .. => .deepEnter
  | deepExit .. => .deepExit

/-- The slot byte of a record that names a slot. -/
def slotByte : HostCommand → Option (BitVec 8)
  | configureRank slot .. | removeRank slot | bringOnline slot | takeOffline slot | queryRank slot | setBand slot _
  | refreshNow slot _ | calibrate slot _ | napEnter slot | napExit slot | deepEnter slot | deepExit slot => some slot
  | setTiming _ | setRefreshPolicy _ | setThermal _ | flushHost _ | resetChannel _ => none

/-- The channel byte of a record that names a channel. -/
def channelByte : HostCommand → Option (BitVec 8)
  | configureRank _ channel .. | flushHost channel | resetChannel channel => some channel
  | removeRank _ | bringOnline _ | takeOffline _ | queryRank _ | setBand .. | refreshNow .. | calibrate .. | napEnter _
  | napExit _ | deepEnter _ | deepExit _ | setTiming _ | setRefreshPolicy _ | setThermal _ => none

end HostCommand

/-- The command codes (10.4). -/
def CommandKind.code : CommandKind → BitVec 8
  | .configureRank => 0x01#8
  | .removeRank => 0x02#8
  | .bringOnline => 0x03#8
  | .takeOffline => 0x04#8
  | .queryRank => 0x05#8
  | .setBand => 0x06#8
  | .setTiming => 0x07#8
  | .setRefreshPolicy => 0x08#8
  | .setThermal => 0x09#8
  | .flushHost => 0x0A#8
  | .resetChannel => 0x0B#8
  | .refreshNow => 0x0C#8
  | .calibrate => 0x0D#8
  | .napEnter => 0x0E#8
  | .napExit => 0x0F#8
  | .deepEnter => 0x10#8
  | .deepExit => 0x11#8

/-- Word 0 of every record (10.4). A field the command does not name is written 0. -/
def recordWord0 (tag : Tag) (c : HostCommand) : Word :=
  (c.channelByte.getD 0 ++ c.slotByte.getD 0 ++ tag ++ c.kind.code : BitVec 32)

/-- Word 1 of a CONFIGURE_RANK record: group 7:0, sensor address 14:8, sensor present 15. -/
def configureWord (group : BitVec 8) (address : BitVec 7) (present : Bool) : Word :=
  ((0 : BitVec 16) ++ BitVec.ofBool present ++ address ++ group : BitVec 32)

/-- A word that holds one byte in bits 7:0. -/
def byteWord (b : BitVec 8) : Word := ((0 : BitVec 24) ++ b : BitVec 32)

/-- Words 1 to 7 of a SET_TIMING record. -/
def timingWords (f : TimingFields) : List (Nat × Word) :=
  [(1, (f.deepEntry ++ f.refreshBusy ++ f.napEntry ++ f.napExit : BitVec 32)),
   (2, ((0 : BitVec 8) ++ f.calLong ++ f.baseInterval : BitVec 32)),
   (3, ((0 : BitVec 8) ++ f.deepSettle ++ f.windowBudget : BitVec 32)),
   (4, ((0 : BitVec 4) ++ f.releaseWait ++ f.grantWait : BitVec 32)),
   (5, ((0 : BitVec 5) ++ f.calShort ++ f.urgentGrantWait : BitVec 32)),
   (6, ((0 : BitVec 6) ++ f.deepExit ++ f.tokenHold : BitVec 32)),
   (7, ((0 : BitVec 2) ++ f.calPeriod : BitVec 32))]

/-- Words 1 and 2 of a SET_REFRESH_POLICY record. -/
def policyWords (f : PolicyFields) : List (Nat × Word) :=
  [(1, (f.gatherThreshold ++ f.urgentAt ++ f.advanceLimit ++ f.postponeLimit : BitVec 32)), (2, byteWord f.advanceEnable)]

/-- Words 1 to 4 of a SET_THERMAL record. -/
def thermalWords (f : ThermalFields) : List (Nat × Word) :=
  [(1, (f.rise2 ++ f.rise1 : BitVec 32)),
   (2, (f.fallbackBand ++ f.hyst ++ f.rise3 : BitVec 32)),
   (3, (f.calDrift ++ f.pollPeriod : BitVec 32)),
   (4, byteWord f.busSpeed)]

/-- The words of a record beyond word 0, with their numbers (10.4). -/
def parameterWords : HostCommand → List (Nat × Word)
  | .configureRank _ _ group address present => [(1, configureWord group address present)]
  | .setBand _ band => [(1, byteWord band)]
  | .refreshNow _ count => [(1, byteWord count)]
  | .calibrate _ kind => [(1, byteWord kind)]
  | .setTiming f => timingWords f
  | .setRefreshPolicy f => policyWords f
  | .setThermal f => thermalWords f
  | .removeRank _ | .bringOnline _ | .takeOffline _ | .queryRank _ | .flushHost _ | .resetChannel _ | .napEnter _
  | .napExit _ | .deepEnter _ | .deepExit _ => []

/-- The staging words after the host has written a record into them: word 0 and the words the record has parameters in are
written, the others keep what they held. -/
def stageRecord (tag : Tag) (c : HostCommand) (words : Record) : Record :=
  (parameterWords c).foldl (fun v p => v.setIfInBounds p.1 p.2) (words.setIfInBounds 0 (recordWord0 tag c))

/-- The fields of a SET_TIMING record. -/
def readTiming (w : Record) : TimingFields :=
  { napExit := field w[1] 0 8, napEntry := field w[1] 8 8, refreshBusy := field w[1] 16 8, deepEntry := field w[1] 24 8,
    baseInterval := field w[2] 0 12, calLong := field w[2] 12 12, windowBudget := field w[3] 0 13, deepSettle := field w[3] 13 11,
    grantWait := field w[4] 0 14, releaseWait := field w[4] 14 14, urgentGrantWait := field w[5] 0 17, calShort := field w[5] 17 10,
    tokenHold := field w[6] 0 17, deepExit := field w[6] 17 9, calPeriod := field w[7] 0 30 }

/-- The fields of a SET_REFRESH_POLICY record. -/
def readPolicy (w : Record) : PolicyFields :=
  { postponeLimit := field w[1] 0 8, advanceLimit := field w[1] 8 8, urgentAt := field w[1] 16 8, gatherThreshold := field w[1] 24 8,
    advanceEnable := field w[2] 0 8 }

/-- The fields of a SET_THERMAL record. -/
def readThermal (w : Record) : ThermalFields :=
  { rise1 := field w[1] 0 16, rise2 := field w[1] 16 16, rise3 := field w[2] 0 16, hyst := field w[2] 16 8,
    fallbackBand := field w[2] 24 8, pollPeriod := field w[3] 0 24, calDrift := field w[3] 24 8, busSpeed := field w[4] 0 8 }

/-- The tag a record holds. -/
def recordTag (w : Record) : Tag := field w[0] 8 8

/-- The command a record holds, by its command code; none when the code is none of the seventeen (R170). -/
def decodeRecord (w : Record) : Option HostCommand :=
  let slot := field w[0] 16 8
  let channel := field w[0] 24 8
  match (field w[0] 0 8).toNat with
  | 0x01 => some (.configureRank slot channel (field w[1] 0 8) (field w[1] 8 7) (w[1].getLsbD 15))
  | 0x02 => some (.removeRank slot)
  | 0x03 => some (.bringOnline slot)
  | 0x04 => some (.takeOffline slot)
  | 0x05 => some (.queryRank slot)
  | 0x06 => some (.setBand slot (field w[1] 0 8))
  | 0x07 => some (.setTiming (readTiming w))
  | 0x08 => some (.setRefreshPolicy (readPolicy w))
  | 0x09 => some (.setThermal (readThermal w))
  | 0x0A => some (.flushHost channel)
  | 0x0B => some (.resetChannel channel)
  | 0x0C => some (.refreshNow slot (field w[1] 0 8))
  | 0x0D => some (.calibrate slot (field w[1] 0 8))
  | 0x0E => some (.napEnter slot)
  | 0x0F => some (.napExit slot)
  | 0x10 => some (.deepEnter slot)
  | 0x11 => some (.deepExit slot)
  | _ => none

end Sys2Proof
end

