-- ==== Sys2Proof/Machine/State.lean ====
section
/-! DEFINITION. The state of the M82: every register, record, queue, timer, mark and line the spec gives it, as plain data, the
queue of waiting commands, and the state after reset. A timer is the time of its expiry, or none when it is stopped. -/

namespace Sys2Proof.Machine

/-- Why a step stops with a fault. The spec gives the M82 no fault that stops it (INVENTORY.md, Faults), so there is none. -/
inductive Fault where
deriving DecidableEq, Repr

/-- Why a step is refused. -/
inductive Refusal where
  /-- A command without a meaning yet. No arm of exec answers it. Safe: a refusal claims nothing. -/
  | notModelled (mnemonic : String)
deriving DecidableEq, Repr

/-- One value for each channel. -/
structure PerChan (α : Type) where
  a : α
  b : α
deriving DecidableEq, Repr

/-- The value of a channel. -/
def PerChan.get {α : Type} (p : PerChan α) : Chan → α
  | .a => p.a
  | .b => p.b

/-- The values with one channel's replaced. -/
def PerChan.set {α : Type} (p : PerChan α) (c : Chan) (x : α) : PerChan α :=
  match c with
  | .a => { p with a := x }
  | .b => { p with b := x }

/-! ### Ranks -/

/-- The seven states of a slot (R1, R4). -/
inductive RankState where
  | absent | offline | online | nap | deep | settling | faulted
deriving DecidableEq, Repr

/-- Calibration status (R19). -/
inductive CalStatus where
  | never | valid | stale
deriving DecidableEq, Repr

/-- Where a band comes from (R1). -/
inductive BandSource where
  | sensor | host | fallback
deriving DecidableEq, Repr

/-- Sensor record status (R47); `absent` is the spec's NONE. -/
inductive SensorStatus where
  | absent | unread | good | failed
deriving DecidableEq, Repr

/-- A running interval timer: when it was last started, the length it was started with (R24), and the length the running interval has,
which a band rise changes (R27). -/
structure Interval where
  started : Nat
  full : Nat
  length : Nat
deriving DecidableEq, Repr

/-- The record of one slot (R1), its sensor record (R47) and its timers (R24, R89, R105). -/
structure Rank where
  state : RankState
  channel : Option Chan
  group : Option GroupId
  sensor : Option (BitVec 7)
  calStatus : CalStatus
  failures : Nat
  calTemp : Option Temp
  balance : Int
  overruns : Nat
  urgent : Bool
  band : Band
  bandSource : BandSource
  interval : Option Interval
  periodic : Option Nat
  settle : Option Nat
  sensorStatus : SensorStatus
  lastTemp : Option Temp
  sensorFailures : Nat
deriving DecidableEq, Repr

/-- A slot's record after reset and after REMOVE_RANK (R3, R47). -/
def Rank.initial : Rank :=
  { state := .absent, channel := none, group := none, sensor := none, calStatus := .never, failures := 0, calTemp := none,
    balance := 0, overruns := 0, urgent := false, band := 0, bandSource := .host, interval := none, periodic := none,
    settle := none, sensorStatus := .absent, lastTemp := none, sensorFailures := 0 }

/-! ### Queues -/

/-- What the engine is to do (R113). -/
inductive TaskKind where
  | refresh | refreshNow | calShort | calLong | napEnter | napExit | deepEnter | deepExit
deriving DecidableEq, Repr

/-- Precedence in queue order (R115). -/
inductive TaskClass where
  | urgent | cal | power | routine
deriving DecidableEq, Repr

/-- The source of a calibration request or entry (R73). -/
inductive CalOrigin where
  | host | online | periodic | drift | exit | retry | reset
deriving DecidableEq, Repr

/-- The source of a task (R113). -/
inductive TaskOrigin where
  | planner | host | thermal | online | periodic | drift | exit | retry | reset
deriving DecidableEq, Repr

/-- A task record (R113). -/
structure Task where
  seq : BitVec 16
  rank : Slot
  kind : TaskKind
  cls : TaskClass
  count : Option Nat
  tag : Option Tag
  origin : TaskOrigin
  executing : Bool
deriving DecidableEq, Repr

/-- A channel's maintenance queue: its tasks in arrival order and its sequence counter (R113, R114). -/
structure Queue where
  tasks : List Task
  seq : BitVec 16
deriving DecidableEq, Repr

/-- The empty queue (R131). -/
def Queue.initial : Queue := { tasks := [], seq := 0 }

/-! ### Calibration groups -/

/-- A waiting-list entry (R73). -/
structure Entry where
  rank : Slot
  kind : CalKind
  origin : CalOrigin
  tag : Option Tag
  revocations : Nat
deriving DecidableEq, Repr

/-- The stages of a group's token (R70). -/
inductive GroupState where
  | free | held | calibrating
deriving DecidableEq, Repr

/-- A group record (R70). -/
structure CalGroup where
  state : GroupState
  holder : Option Slot
  heldEntry : Option Entry
  waiting : List Entry
  tokenTimer : Option Nat
  discard : Bool
deriving DecidableEq, Repr

/-- A group after reset (R70). -/
def CalGroup.initial : CalGroup :=
  { state := .free, holder := none, heldEntry := none, waiting := [], tokenTimer := none, discard := false }

/-! ### Negotiators -/

/-- The stages of the handshake (R133); `opened` is the spec's OPEN. -/
inductive NegState where
  | idle | requesting | stalled | opened | draining | releasing
deriving DecidableEq, Repr

/-- Why a RELEASING period began (R133). -/
inductive ReleaseCause where
  | done | recall | reset | drain
deriving DecidableEq, Repr

/-- A window negotiator with its four lines (R132, R133). -/
structure Negotiator where
  state : NegState
  qreq : Bool
  qurg : Bool
  qgnt : Bool
  qrcl : Bool
  grantTimer : Option Nat
  escalated : Bool
  releaseTimer : Option Nat
  releaseMark : Bool
  lost : Bool
  cause : ReleaseCause
deriving DecidableEq, Repr

/-- A negotiator after reset, with the settled levels of its two input lines (R132, R133). -/
def Negotiator.initial (l : LineLevels) : Negotiator :=
  { state := .idle, qreq := false, qurg := false, qgnt := l.qgnt, qrcl := l.qrcl, grantTimer := none, escalated := false,
    releaseTimer := none, releaseMark := false, lost := false, cause := .done }

/-! ### Engines -/

/-- The states of an engine (R150). -/
inductive EngineState where
  | standby | active | busy
deriving DecidableEq, Repr

/-- The operations of the maintenance command lines (R156). -/
inductive MaintOp where
  | refresh | calShort | calLong | napIn | napOut | deepIn | deepOut
deriving DecidableEq, Repr

/-- The kind of a task in flight: a queued task's own kind, or FILL (R150). -/
inductive FlightKind where
  | task (kind : TaskKind)
  | fill
deriving DecidableEq, Repr

/-- The task in flight (R150): its rank, kind, refreshes and duration, the operations driven for it so far and whether the
closing NAP_IN of a calibration on a napping rank is still held back (R156, R158). -/
structure Flight where
  rank : Slot
  kind : FlightKind
  n : Nat
  duration : Nat
  ops : List MaintOp
  napInHeld : Bool
deriving DecidableEq, Repr

/-- A channel engine (R150), with the time of the result sample of a calibration on a napping rank (R157). -/
structure Engine where
  state : EngineState
  budget : Nat
  flight : Option Flight
  completion : Option Nat
  sample : Option Nat
  sampled : Option CalResult
  pointer : Slot
  resetMark : Bool
deriving DecidableEq, Repr

/-- An engine after reset (R150). -/
def Engine.initial : Engine :=
  { state := .standby, budget := 0, flight := none, completion := none, sample := none, sampled := none, pointer := 0,
    resetMark := false }

/-! ### Thermal monitor -/

/-- The sensor bus (R48). -/
inductive BusState where
  | idle | read | retry | recovery
deriving DecidableEq, Repr

/-- The polling state (R48), with the speed a read runs at (R53), the start of the attempt, pulse or stop condition in progress, and
the progress of bus recovery (R61): the pulses given, and whether it is at its stop condition, the wait for the clock before it
included. `polling` is true in RUNNING. `abandonStop` says what the M82 drove when the last reset took the monitor's state away: a stop
condition for the read it abandoned, or nothing, both lines released (R69; DESIGN CHOICE, entry 31). -/
structure Monitor where
  polling : Bool
  pollTimer : Option Nat
  cursor : Slot
  bus : BusState
  readSlot : Option Slot
  discard : Bool
  speed : BusSpeed
  phaseStart : Nat
  pulses : Nat
  stopping : Bool
  abandonStop : Bool
deriving DecidableEq, Repr

/-- The thermal monitor after reset at time `now`, with the poll timer started (R48). -/
def Monitor.initial (now : Nat) : Monitor :=
  { polling := true, pollTimer := some (now + Config.thermal.pollPeriod), cursor := 0, bus := .idle, readSlot := none,
    discard := false, speed := .khz100, phaseStart := 0, pulses := 0, stopping := false, abandonStop := false }

/-! ### Command port and reports -/

/-- The submit status (R169, R170). -/
inductive SubmitStatus where
  | none | accepted | tableFull | tagInUse | unknownCommand | resetting
deriving DecidableEq, Repr

/-- Completion statuses (R175). -/
inductive Status where
  | done | rankState | rankBusy | badParameter | outOfRange | alreadyPending | queueFull | bandCritical | aborted | calFailed
  | starved | thermal
deriving DecidableEq, Repr

/-- The slot a command carries, as its completion shows it (R175). -/
inductive SlotField where
  | absent | slot (s : Slot) | outOfRange
deriving DecidableEq, Repr

/-- The channel a command carries, as its completion shows it (R175). -/
inductive ChanField where
  | absent | chan (c : Chan) | outOfRange
deriving DecidableEq, Repr

/-- An outstanding command (R171). `removed` is the number of tasks a RESET_CHANNEL's own removal took out (R174). -/
structure OutEntry where
  tag : Tag
  kind : CommandKind
  slot : SlotField
  channel : ChanField
  removed : Nat
deriving DecidableEq, Repr

/-- A rank's part in its group (R20). -/
inductive CalPart where
  | none | waiting | held | calibrating
deriving DecidableEq, Repr

/-- The class of a rank's internal refresh task, if it has one (R20). -/
inductive RefreshPart where
  | none | routine | urgent
deriving DecidableEq, Repr

/-- The rank snapshot (R20). -/
structure Snapshot where
  state : RankState
  channel : Option Chan
  group : Option GroupId
  sensor : Option (BitVec 7)
  sensorStatus : SensorStatus
  lastTemp : Option Temp
  band : Band
  bandSource : BandSource
  calStatus : CalStatus
  failures : Nat
  calTemp : Option Temp
  balance : Int
  urgent : Bool
  overruns : Nat
  refreshTask : RefreshPart
  calibration : CalPart
  powerTask : Option TaskKind
  executing : Option FlightKind
deriving DecidableEq, Repr

/-- The detail of a completion (R176). -/
inductive Detail where
  | none
  | count (n : Nat)
  | calibration (kind : CalKind) (result : CalResult)
  | rankState (state : RankState)
  | snapshot (snapshot : Snapshot)
  | slot (slot : Slot)
  | position (bit : Nat)
deriving DecidableEq, Repr

/-- How a sensor read attempt ends (R50). -/
inductive ReadOutcome where
  | noAck | invalid | outOfRange | busFault | good (t : Temp)
deriving DecidableEq, Repr

/-- The causes of a THERMAL_EXIT notice (R108). -/
inductive ExitCause where
  | entry | deep | raised | reset | replaced
deriving DecidableEq, Repr

/-- The sixteen notices with what each carries (R177). -/
inductive Notice where
  | refreshOverrun (rank : Slot) (channel : Option Chan) (count : Nat)
  | rankUrgent (rank : Slot) (channel : Option Chan) (balance : Int)
  | bandChange (rank : Slot) (channel : Option Chan) (band : Band)
  | sensorFailed (rank : Slot) (channel : Option Chan) (outcome : ReadOutcome)
  | sensorRestored (rank : Slot) (channel : Option Chan) (t : Temp)
  | sensorBusFault (slots : Nat)
  | calFailed (rank : Slot) (group : GroupId) (failures : Nat)
  | rankFaulted (rank : Slot) (group : GroupId) (kind : CalKind)
  | calStarved (rank : Slot) (group : GroupId) (origin : CalOrigin)
  | thermalExit (rank : Slot) (channel : Option Chan) (cause : ExitCause)
  | windowTimeout (channel : Chan) (escalated : Bool)
  | windowRecovered (channel : Chan)
  | releaseTimeout (channel : Chan) (cause : ReleaseCause)
  | grantLost (channel : Chan) (kind : Option FlightKind)
  | unsolicitedGrant (channel : Chan)
  | lost (count : Nat)
deriving DecidableEq, Repr

/-- A record of the report queue (R175, R177). -/
inductive Report where
  | completion (tag : Tag) (kind : CommandKind) (status : Status) (slot : SlotField) (channel : ChanField) (detail : Detail)
      (time : Word)
  | notice (body : Notice) (time : Word)
deriving DecidableEq, Repr

/-- The copy of a rank snapshot (R186). -/
abbrev RankCopy := Vector Word 4

/-- The copy of a group snapshot (R186). -/
abbrev GroupCopy := Vector Word 2

/-- Word 1 of a rank snapshot at reset: temperature at last calibration absent (−512 in bits 31:22), band source HOST (10.6). -/
def resetPartB : Word := 0x80010000#32

/-- Word 2 of a rank snapshot at reset: last sampled temperature absent (−512 in bits 25:16) (10.6). -/
def resetPartC : Word := 0x02000000#32

/-- A rank copy at reset (R3, R186). -/
def RankCopy.initial : RankCopy := #v[0#32, resetPartB, resetPartC, 0#32]

/-- A group copy at reset: FREE, no holder (0xF in bits 5:2), empty list (R70, R186). -/
def GroupCopy.initial : GroupCopy := #v[0x0000003C#32, 0xFFFFFFFF#32]

end Sys2Proof.Machine

namespace Sys2Proof.Machine

/-- The whole machine. -/
structure State where
  now : Nat
  tickBase : Nat
  timestamp : Word
  inReset : Bool
  drain : Bool
  ranks : Vector Rank 8
  timing : Timing
  policy : Policy
  thermal : Thermal
  monitor : Monitor
  groups : Vector CalGroup 4
  queues : PerChan Queue
  negotiators : PerChan Negotiator
  engines : PerChan Engine
  staging : Record
  submitStatus : SubmitStatus
  outstanding : List OutEntry
  records : List Report
  lost : Nat
  intEnable : Bool
  intThreshold : Nat
  rankCopies : Vector RankCopy 8
  groupCopies : Vector GroupCopy 4
  readData : Word
  pending : List Instr
deriving DecidableEq, Repr

/-- Every block at its reset values at time `now`, with the settled levels of the input lines of the two channels, and the
waiting commands kept. -/
def State.initial (now : Nat) (la lb : LineLevels) (pending : List Instr) : State :=
  { now := now, tickBase := now, timestamp := 0, inReset := false, drain := false,
    ranks := Vector.replicate 8 Rank.initial,
    timing := Config.timing, policy := Config.policy, thermal := Config.thermal,
    monitor := Monitor.initial now,
    groups := Vector.replicate 4 CalGroup.initial,
    queues := { a := Queue.initial, b := Queue.initial },
    negotiators := { a := Negotiator.initial la, b := Negotiator.initial lb },
    engines := { a := Engine.initial, b := Engine.initial },
    staging := Vector.replicate 8 0, submitStatus := .none, outstanding := [], records := [], lost := 0,
    intEnable := false, intThreshold := 1,
    rankCopies := Vector.replicate 8 RankCopy.initial, groupCopies := Vector.replicate 4 GroupCopy.initial,
    readData := 0, pending := pending }

/-- The machine right after power-on reset: RESET_N has risen and every block holds its power-on values (10.7). The input lines
are taken as low (DESIGN CHOICE, entry 5). -/
def State.reset : State :=
  State.initial 0 { qgnt := false, qrcl := false } { qgnt := false, qrcl := false } []

end Sys2Proof.Machine
end

