-- ==== Sys2Proof/Machine/Ops.lean ====
section
/-! DEFINITION. The named operations over the state: reading and writing the records, time, notices and completions, and the tasks
of a channel queue. -/

namespace Sys2Proof.Machine

/-! ### Access -/

/-- The record of a slot. -/
def State.rank (s : State) (r : Slot) : Rank := s.ranks[r]

/-- A slot's record replaced. -/
def State.setRank (s : State) (r : Slot) (k : Rank) : State := { s with ranks := s.ranks.set r k }

/-- The record of a group. -/
def State.group (s : State) (g : GroupId) : CalGroup := s.groups[g]

/-- A group's record replaced. -/
def State.setGroup (s : State) (g : GroupId) (x : CalGroup) : State := { s with groups := s.groups.set g x }

/-- A channel's queue. -/
def State.queue (s : State) (c : Chan) : Queue := s.queues.get c

/-- A channel's queue replaced. -/
def State.setQueue (s : State) (c : Chan) (q : Queue) : State := { s with queues := s.queues.set c q }

/-- A channel's negotiator. -/
def State.nego (s : State) (c : Chan) : Negotiator := s.negotiators.get c

/-- A channel's negotiator replaced. -/
def State.setNego (s : State) (c : Chan) (n : Negotiator) : State := { s with negotiators := s.negotiators.set c n }

/-- A channel's engine. -/
def State.engine (s : State) (c : Chan) : Engine := s.engines.get c

/-- A channel's engine replaced. -/
def State.setEngine (s : State) (c : Chan) (e : Engine) : State := { s with engines := s.engines.set c e }

/-- The thermal monitor's polling state replaced. -/
def State.setMonitor (s : State) (m : Monitor) : State := { s with monitor := m }

/-- The slots in increasing order. -/
def allSlots : List Slot := [0, 1, 2, 3, 4, 5, 6, 7]

/-- The groups in increasing order. -/
def allGroups : List GroupId := [0, 1, 2, 3]

/-- The eight slots from `start` up, wrapping from 7 to 0 (R39, R52). -/
def slotsFrom (start : Slot) : List Slot := allSlots.map (start + ·)

/-! ### Time -/

/-- The clock brought to a time, if it has not passed it. An expiry is taken no earlier than it is due (entry 1). -/
def State.reach (s : State) (due : Nat) : State := { s with now := max s.now due }

/-! ### Reports -/

/-- Free slots of the report queue less the outstanding commands (R178). -/
def State.margin (s : State) : Nat := Config.reportCapacity - (s.records.length + s.outstanding.length)

/-- A notice written: admitted while the margin is above 0, and counted as lost otherwise (R179). -/
def State.notice (s : State) (body : Notice) : State :=
  if s.margin = 0 then { s with lost := min Config.lostMax (s.lost + 1) }
  else { s with records := s.records ++ [.notice body s.timestamp] }

/-- The outstanding command that holds a tag (R171). -/
def State.outEntry (s : State) (tag : Tag) : Option OutEntry := s.outstanding.find? (fun e => e.tag == tag)

/-- The completion record that an outstanding command ends in (R175). -/
def OutEntry.report (e : OutEntry) (status : Status) (detail : Detail) (time : Word) : Report :=
  .completion e.tag e.kind status e.slot e.channel detail time

/-- A command's completion written and its table entry freed, as one write (R171, R175, R178). -/
def State.complete (s : State) (tag : Tag) (status : Status) (detail : Detail) : State :=
  match s.outEntry tag with
  | none => s
  | some e =>
    { s with
      outstanding := s.outstanding.eraseP (fun e => e.tag == tag)
      records := s.records ++ [e.report status detail s.timestamp] }

/-- The completion of a tag that may be absent. -/
def State.completeTag (s : State) (tag : Option Tag) (status : Status) (detail : Detail) : State :=
  match tag with
  | none => s
  | some t => s.complete t status detail

/-! ### Queues -/

/-- The reserved slot or pool a task kind uses (R117). -/
inductive TaskSlot where
  | refresh | calibration | power | pool
deriving DecidableEq, Repr

/-- Where a task kind is kept (R117). -/
def TaskKind.place : TaskKind → TaskSlot
  | .refresh => .refresh
  | .refreshNow => .pool
  | .calShort | .calLong => .calibration
  | .napEnter | .napExit | .deepEnter | .deepExit => .power

/-- The task kind of a calibration (R83). -/
def calTaskKind : CalKind → TaskKind
  | .short => .calShort
  | .long => .calLong

/-- The origin a calibration task carries (R83). -/
def CalOrigin.task : CalOrigin → TaskOrigin
  | .host => .host
  | .online => .online
  | .periodic => .periodic
  | .drift => .drift
  | .exit => .exit
  | .retry => .retry
  | .reset => .reset

/-- A task inserted at the end of the arrival order with the next sequence number (R114). -/
def State.insertTask (s : State) (c : Chan) (t : Task) : State :=
  let q := s.queue c
  s.setQueue c { tasks := q.tasks ++ [{ t with seq := q.seq }], seq := q.seq + 1 }

/-- A queue's tasks that satisfy `gone` removed. -/
def State.removeTasks (s : State) (c : Chan) (gone : Task → Bool) : State :=
  s.setQueue c { s.queue c with tasks := (s.queue c).tasks.filter (fun t => !gone t) }

/-- A queue's tasks changed in place. -/
def State.mapTasks (s : State) (c : Chan) (f : Task → Task) : State :=
  s.setQueue c { s.queue c with tasks := (s.queue c).tasks.map f }

/-- Tasks by class, URGENT, CAL, POWER, ROUTINE, and by arrival within a class (R115). -/
def queueOrder (ts : List Task) : List Task :=
  ts.filter (fun t => t.cls == .urgent) ++ ts.filter (fun t => t.cls == .cal) ++ ts.filter (fun t => t.cls == .power) ++
    ts.filter (fun t => t.cls == .routine)

/-- A rank's task in one of its places of its channel's queue (R117). -/
def State.taskAt (s : State) (r : Slot) (p : TaskSlot) : Option Task :=
  match (s.rank r).channel with
  | none => none
  | some c => (s.queue c).tasks.find? (fun t => t.rank == r && t.kind.place == p)

/-- Whether a DEEP_ENTER of the rank is in its channel's queue, queued or executing (R95). -/
def State.deepEnterQueued (s : State) (r : Slot) : Bool :=
  match s.taskAt r .power with
  | none => false
  | some t => t.kind == .deepEnter

/-- REFRESH_NOW tasks in a queue, executing ones included: the pool count (R117). -/
def Queue.poolCount (q : Queue) : Nat := q.tasks.countP (fun t => t.kind == .refreshNow)

/-- The slots a channel's configured ranks reserve in its queue (R117, R118). -/
def State.reservedSlots (s : State) (c : Chan) : Nat :=
  Config.slotsPerRank * allSlots.countP (fun r => (s.rank r).channel == some c)

/-- The ABORTED completions of tasks removed together, in queue order (R115). -/
def State.abortTasks (s : State) (ts : List Task) : State :=
  (queueOrder ts).foldl (fun s t => s.completeTag t.tag .aborted .none) s

/-- Whether the channel is resetting (R166). -/
def State.resetting (s : State) (c : Chan) : Bool := (s.engine c).resetMark

/-- The kind of the task an engine is executing for a rank, if it is (R150). -/
def State.executingFor (s : State) (r : Slot) : Option FlightKind :=
  match (s.rank r).channel with
  | none => none
  | some c =>
    match (s.engine c).flight with
    | none => none
    | some f => if f.rank = r then some f.kind else none

/-- States in which the M82 refreshes and calibrates a rank (R24, R74). -/
def RankState.served : RankState → Bool
  | .online | .nap | .faulted => true
  | .absent | .offline | .deep | .settling => false

end Sys2Proof.Machine
end

