-- ==== Sys2Proof/Machine/Arbiter.lean ====
section
/-! DEFINITION. The calibration arbiter: requests, the grant scan, the token and what a calibration leaves behind
(04_calibration_groups_and_arbitration.md). -/

namespace Sys2Proof.Machine

/-- Whether an entry can use the token now (R80). -/
def State.eligible (s : State) (e : Entry) : Bool :=
  let k := s.rank e.rank
  let stateOk := k.state == .online || k.state == .nap || (k.state == .faulted && e.origin == .host)
  let channelOk := match k.channel with
    | none => false
    | some c => (s.nego c).state != .stalled && !s.resetting c
  stateOk && !s.deepEnterQueued e.rank && channelOk

/-- The calibration task of an entry that is granted (R83). -/
def Entry.toTask (e : Entry) : Task :=
  { seq := 0, rank := e.rank, kind := calTaskKind e.kind, cls := .cal, count := none, tag := e.tag, origin := e.origin.task,
    executing := false }

/-- The token granted to an entry (R83). -/
def State.grant (s : State) (g : GroupId) (e : Entry) : State :=
  let x := s.group g
  let s1 := s.setGroup g
    { x with
      state := .held, holder := some e.rank, heldEntry := some e, waiting := x.waiting.eraseP s.eligible
      tokenTimer := some (s.now + s.timing.tokenHold) }
  match (s.rank e.rank).channel with
  | none => s1
  | some c => s1.insertTask c e.toTask

/-- The grant scan of a group (R81): the first eligible entry of a FREE group takes the token. -/
def State.scanGroup (s : State) (g : GroupId) : State :=
  match (s.group g).state with
  | .free =>
    match (s.group g).waiting.find? s.eligible with
    | none => s
    | some e => s.grant g e
  | .held | .calibrating => s

/-- The grant scans of all four groups in group order (R82). -/
def State.scanAll (s : State) : State := allGroups.foldl State.scanGroup s

/-- The grant scan of a rank's group (R21, R82). -/
def State.scanRank (s : State) (r : Slot) : State :=
  match (s.rank r).group with
  | none => s
  | some g => s.scanGroup g

/-- The token released: the group FREE with no holder and no held entry (R71). -/
def State.freeGroup (s : State) (g : GroupId) : State :=
  s.setGroup g { s.group g with state := .free, holder := none, heldEntry := none, tokenTimer := none, discard := false }

/-- An entry joining the tail of a list (R73). -/
def State.joinTail (s : State) (g : GroupId) (e : Entry) : State :=
  s.setGroup g { s.group g with waiting := (s.group g).waiting ++ [e] }

/-- An entry joining the head of a list (R88). -/
def State.joinHead (s : State) (g : GroupId) (e : Entry) : State :=
  s.setGroup g { s.group g with waiting := e :: (s.group g).waiting }

/-- LONG if either is (R76, R77). -/
def joinKinds : CalKind → CalKind → CalKind
  | .short, .short => .short
  | .long, _ => .long
  | .short, .long => .long

/-- A request merged into an entry (R76, R77): the kind is never lowered, and a host request turns an untagged entry into its
own. -/
def Entry.merge (e : Entry) (kind : CalKind) (origin : CalOrigin) (tag : Option Tag) : Entry :=
  let e1 := { e with kind := joinKinds e.kind kind }
  if origin = .host ∧ e.tag = none then { e1 with origin := .host, tag := tag } else e1

/-- The kind a request is taken with: a NEVER rank, and a FAULTED rank asked for by the host, is calibrated LONG (R17, R75). -/
def Rank.requestKind (k : Rank) (kind : CalKind) (origin : CalOrigin) : CalKind :=
  if k.calStatus = .never ∨ (k.state = .faulted ∧ origin = .host) then .long else kind

/-- A request for the rank that holds the token in HELD: merged into the held entry and the queued task (R77). -/
def State.mergeHeld (s : State) (g : GroupId) (r : Slot) (kind : CalKind) (origin : CalOrigin) (tag : Option Tag) : State :=
  match (s.group g).heldEntry with
  | none => s
  | some e =>
    let e1 := e.merge kind origin tag
    let s1 := s.setGroup g { s.group g with heldEntry := some e1 }
    match (s.rank r).channel with
    | none => s1
    | some c =>
      s1.mapTasks c (fun t =>
        if t.rank = r ∧ t.kind.place = .calibration then
          { t with kind := calTaskKind e1.kind, tag := e1.tag, origin := e1.origin.task }
        else t)

/-- A request for a rank that has an entry in the list (R76). -/
def State.mergeWaiting (s : State) (g : GroupId) (r : Slot) (kind : CalKind) (origin : CalOrigin) (tag : Option Tag) : State :=
  let x := s.group g
  s.setGroup g { x with waiting := x.waiting.map (fun e => if e.rank = r then e.merge kind origin tag else e) }

/-- A request taken in its group by the rank's standing there (R75 to R78). -/
def State.requestIn (s : State) (g : GroupId) (r : Slot) (kind : CalKind) (origin : CalOrigin) (tag : Option Tag) : State :=
  let x := s.group g
  let kind := (s.rank r).requestKind kind origin
  if x.holder = some r then
    match x.state with
    | .held => s.mergeHeld g r kind origin tag
    | .free | .calibrating => s
  else if x.waiting.any (fun e => e.rank == r) then
    if origin = .host then (s.mergeWaiting g r kind origin tag).scanGroup g else s.mergeWaiting g r kind origin tag
  else (s.joinTail g { rank := r, kind := kind, origin := origin, tag := tag, revocations := 0 }).scanGroup g

/-- A request for a rank (R74). -/
def State.request (s : State) (r : Slot) (kind : CalKind) (origin : CalOrigin) (tag : Option Tag) : State :=
  match (s.rank r).group with
  | none => s
  | some g => s.requestIn g r kind origin tag

/-- An internal request: made only for a rank in ONLINE, NAP or FAULTED (R74). -/
def State.internalRequest (s : State) (r : Slot) (kind : CalKind) (origin : CalOrigin) : State :=
  if (s.rank r).state.served then s.request r kind origin none else s

/-- The drift check of a good sample (R90). -/
def State.driftCheck (s : State) (r : Slot) (t : Temp) : State :=
  let k := s.rank r
  match k.calTemp with
  | none => s
  | some t0 =>
    if s.thermal.calDrift ≠ 0 ∧ (k.state = .online ∨ k.state = .nap) ∧ k.calStatus = .valid ∧
        s.thermal.calDrift ≤ (t - t0).natAbs then
      s.internalRequest r .short .drift
    else s

/-- The holder's calibration task removed from its queue, without a record (R85). -/
def State.removeCalTask (s : State) (r : Slot) : State :=
  match (s.rank r).channel with
  | none => s
  | some c => s.removeTasks c (fun t => t.rank == r && t.kind.place == .calibration)

/-- A calibration status that leaves VALID: STALE with the periodic timer stopped (R86, R88, R89, R93). -/
def State.makeStale (s : State) (r : Slot) : State :=
  s.setRank r { s.rank r with calStatus := .stale, periodic := none }

/-- The revoked entry returned to the tail with one more revocation, or dropped as starved (R85, R86). -/
def State.requeueOrStarve (s : State) (g : GroupId) (e : Entry) : State :=
  if e.revocations < Config.revocationLimit then s.joinTail g { e with revocations := e.revocations + 1 }
  else
    let s1 := (s.makeStale e.rank).notice (.calStarved e.rank g e.origin)
    s1.completeTag e.tag .starved .none

/-- The token revoked at the end of its hold (R85). -/
def State.revoke (s : State) (g : GroupId) : State :=
  match (s.group g).heldEntry with
  | none => (s.freeGroup g).scanGroup g
  | some e => ((((s.removeCalTask e.rank).freeGroup g).requeueOrStarve g e)).scanGroup g

/-- Result OK taken by the rank's fields (R18, R87 steps 1 to 4). -/
def State.applyOk (s : State) (r : Slot) : State :=
  let k := s.rank r
  s.setRank r { k with
    calStatus := .valid, failures := 0
    calTemp := if k.sensorStatus = .good then k.lastTemp else none
    state := if k.state = .faulted then .online else k.state
    periodic := if s.timing.calPeriod = 0 then none else some (s.now + s.timing.calPeriod) }

/-- The tag of a group's held entry. -/
def CalGroup.heldTag (x : CalGroup) : Option Tag :=
  match x.heldEntry with
  | none => none
  | some e => e.tag

/-- Result FAIL taken, up to the retry entry, the fault and the completion (R16, R88). -/
def State.applyFail (s : State) (g : GroupId) (r : Slot) (kind : CalKind) : State :=
  let k := s.rank r
  let tag := (s.group g).heldTag
  let n := min Config.calFailureLimit (k.failures + 1)
  let s1 := (s.setRank r { k with failures := n }).notice (.calFailed r g n)
  if k.state = .faulted then s1.completeTag tag .calFailed (.calibration kind .fail)
  else if n < Config.calFailureLimit then
    s1.joinHead g { rank := r, kind := .long, origin := .retry, tag := tag, revocations := 0 }
  else
    let s2 := s1.setRank r { s1.rank r with state := .faulted, calStatus := .stale, periodic := none }
    (s2.notice (.rankFaulted r g kind)).completeTag tag .calFailed (.calibration kind .fail)

/-- The kind of a group's held entry, and `kind` where there is none. -/
def CalGroup.heldKind (x : CalGroup) (kind : CalKind) : CalKind :=
  match x.heldEntry with
  | none => kind
  | some e => e.kind

/-- A discarded result: the rank STALE and the calibration asked for again (R93). -/
def State.applyDiscard (s : State) (g : GroupId) (r : Slot) (kind : CalKind) : State :=
  let origin := if (s.rank r).state = .faulted then CalOrigin.host else .reset
  let x := s.group g
  (s.makeStale r).joinTail g { rank := r, kind := x.heldKind kind, origin := origin, tag := x.heldTag, revocations := 0 }

/-- A calibration's end in its group (R87, R88, R93): the result, the task out of the queue, the token released, the scan. -/
def State.finishCalibration (s : State) (g : GroupId) (r : Slot) (kind : CalKind) (result : CalResult) : State :=
  let s1 :=
    if (s.group g).discard then s.applyDiscard g r kind
    else match result with
      | .ok => (s.applyOk r).completeTag (s.group g).heldTag .done (.calibration kind .ok)
      | .fail => s.applyFail g r kind
  ((s1.removeCalTask r).freeGroup g).scanGroup g

/-- The group of a calibration that starts becomes CALIBRATING, its token-hold timer stopped (R84). -/
def State.startCalibrating (s : State) (r : Slot) : State :=
  match (s.rank r).group with
  | none => s
  | some g => s.setGroup g { s.group g with state := .calibrating, tokenTimer := none }

/-- The arbiter's part in TAKE_OFFLINE (R13): the rank's entry removed, with an ABORTED completion if it is tagged, its HELD token
released and its periodic timer stopped. The calibration task left with the queue's removal. -/
def State.withdrawCalibration (s : State) (r : Slot) : State :=
  let s1 := s.setRank r { s.rank r with periodic := none }
  match (s.rank r).group with
  | none => s1
  | some g =>
    let x := s1.group g
    let s2 := s1.setGroup g { x with waiting := x.waiting.filter (fun e => e.rank != r) }
    let s3 := match x.waiting.find? (fun e => e.rank == r) with
      | none => s2
      | some e => s2.completeTag e.tag .aborted .none
    if x.holder = some r ∧ x.state = .held then s3.freeGroup g else s3

/-- The arbiter's part in a channel reset for one group (R92, R93): a HELD token of a rank of the channel is taken back without
count, and a CALIBRATING group of such a rank is marked for discard. -/
def State.resetGroup (s : State) (c : Chan) (g : GroupId) : State :=
  let x := s.group g
  match x.heldEntry with
  | none => s
  | some e =>
    if (s.rank e.rank).channel = some c then
      match x.state with
      | .held => ((s.freeGroup g).joinTail g e).scanGroup g
      | .calibrating => s.setGroup g { x with discard := true }
      | .free => s
    else s

/-- Whether CALIBRATE is already pending for a rank: a tagged entry, or the token held with a tagged entry (R79). -/
def State.taggedCalibration (s : State) (r : Slot) : Bool :=
  match (s.rank r).group with
  | none => false
  | some g =>
    (s.group g).waiting.any (fun e => e.rank == r && e.tag.isSome) ||
      ((s.group g).holder == some r && (s.group g).heldTag.isSome)

/-- Whether the rank has a tagged entry in its group's waiting list (R100). -/
def State.taggedEntry (s : State) (r : Slot) : Bool :=
  match (s.rank r).group with
  | none => false
  | some g => (s.group g).waiting.any (fun e => e.rank == r && e.tag.isSome)

/-- Whether the rank holds its group's token (R100). -/
def State.holdsToken (s : State) (r : Slot) : Bool :=
  match (s.rank r).group with
  | none => false
  | some g => (s.group g).holder == some r

/-- A rank's part in its group, as the snapshot shows it (R20, R70). -/
def State.calPart (s : State) (r : Slot) : CalPart :=
  match (s.rank r).group with
  | none => .none
  | some g =>
    let x := s.group g
    if x.holder = some r then
      match x.state with
      | .held => .held
      | .calibrating => .calibrating
      | .free => .none
    else if x.waiting.any (fun e => e.rank == r) then .waiting else .none

end Sys2Proof.Machine
end

