-- ==== Sys2Proof/Machine/Flags.lean ====
section
/-! DEFINITION. The conditions the negotiator reads (R129), the negotiator's evaluation of them (R134, R136, R139) and INT (R181). -/

namespace Sys2Proof.Machine

/-- A rank's owed count (R35). -/
def Rank.owed (k : Rank) : Nat := (-k.balance).toNat

/-- The owed counts of the ranks with an internal refresh task in the queue, summed (R35, R129). -/
def State.owedSum (s : State) (c : Chan) : Nat :=
  (((s.queue c).tasks.filter (fun t => t.kind == .refresh)).map (fun t => (s.rank t.rank).owed)).sum

/-- Whether the queue reports its conditions at all: not while the channel resets or a drain is in progress (R129). -/
def State.reports (s : State) (c : Chan) : Bool := !s.resetting c && !s.drain

/-- Work that is worth a window by itself (R129). -/
def Task.worthWindow (t : Task) : Bool := t.cls != .routine || t.kind == .refreshNow

/-- The request condition (R129). -/
def State.requestCondition (s : State) (c : Chan) : Bool :=
  s.reports c && ((s.queue c).tasks.any Task.worthWindow || decide (s.policy.gatherThreshold ≤ s.owedSum c))

/-- The urgency condition (R129). -/
def State.urgencyCondition (s : State) (c : Chan) : Bool :=
  s.reports c && (s.queue c).tasks.any (fun t => t.cls == .urgent)

/-- A request raised: QREQ, QURG with it if work is urgent, the grant timer with GrantWait (R134). -/
def State.raiseRequest (s : State) (c : Chan) : State :=
  s.setNego c { s.nego c with
    state := .requesting, qreq := true, qurg := s.urgencyCondition c, grantTimer := some (s.now + s.timing.grantWait),
    escalated := false }

/-- What a negotiator makes of its conditions at the end of an event: a request from IDLE with QGNT low (R134), and QURG in
REQUESTING and OPEN (R136, R139). Conditions are handed on with the value they have when the event's parts are done (R130). -/
def State.settleNego (s : State) (c : Chan) : State :=
  match (s.nego c).state with
  | .idle => if s.requestCondition c && !(s.nego c).qgnt then s.raiseRequest c else s
  | .requesting | .opened => if s.urgencyCondition c then s.setNego c { s.nego c with qurg := true } else s
  | .stalled | .draining | .releasing => s

/-- The end of every event: both negotiators take their conditions. -/
def State.settle (s : State) : State := (s.settleNego .a).settleNego .b

/-- The INT line (R181): there is no latched interrupt state. -/
def State.int (s : State) : Bool := s.intEnable && decide (s.intThreshold ≤ s.records.length)

/-- The outcome of a command. -/
abbrev Result := Host.Outcome State Fault Refusal

/-- A command taken as one event: nothing while RESET_N is low (10.7, entry 4); otherwise its effect, then the conditions. -/
def State.event (s : State) (f : State → State) : Result :=
  if s.inReset then .next s else .next (f s).settle

end Sys2Proof.Machine
end

