-- ==== Sys2Proof/Machine/Planner.lean ====
section
/-! DEFINITION. The refresh planner: balances, the urgent flag, interval timers and internal refresh tasks
(02_refresh_accounting.md). -/

namespace Sys2Proof.Machine

/-- The refresh interval of a band (R24). -/
def intervalLength (t : Timing) (b : Band) : Nat := t.baseInterval / 2 ^ min b.val 2

/-- The interval timer started with a full interval for the rank's band (R24). -/
def State.startInterval (s : State) (r : Slot) : State :=
  let k := s.rank r
  let l := intervalLength s.timing k.band
  s.setRank r { k with interval := some { started := s.now, full := l, length := l } }

/-- The class an urgent flag gives (R30). -/
def refreshClass (urgent : Bool) : TaskClass := if urgent then .urgent else .routine

/-- The class of a rank's internal refresh task, queued or executing, set from its urgent flag (R30). -/
def State.setRefreshClass (s : State) (r : Slot) : State :=
  match (s.rank r).channel with
  | none => s
  | some c =>
    s.mapTasks c (fun t => if t.rank = r ∧ t.kind = .refresh then { t with cls := refreshClass (s.rank r).urgent } else t)

/-- What a balance makes of the urgent flag (R23). -/
def State.urgentFor (s : State) (r : Slot) : Bool := decide ((s.rank r).balance ≤ -(s.policy.urgentAt : Int))

/-- The urgent flag re-evaluated, for a rank in ONLINE, NAP or FAULTED, with the notice of a change to yes (R23) and the class of
the refresh task (R30). -/
def State.reevaluate (s : State) (r : Slot) : State :=
  let k := s.rank r
  if k.state.served then
    let u := s.urgentFor r
    let s1 := s.setRank r { k with urgent := u }
    let s2 := if u && !k.urgent then s1.notice (.rankUrgent r k.channel k.balance) else s1
    s2.setRefreshClass r
  else s

/-- The balance written and the urgent flag re-evaluated (R22, R23). -/
def State.writeBalance (s : State) (r : Slot) (b : Int) : State :=
  (s.setRank r { s.rank r with balance := b }).reevaluate r

/-- The balance debited, or an overrun counted at −PostponeLimit (R25). -/
def State.debit (s : State) (r : Slot) : State :=
  let k := s.rank r
  if k.balance ≤ -(s.policy.postponeLimit : Int) then
    let n := min Config.overrunMax (k.overruns + 1)
    (s.setRank r { k with overruns := n }).notice (.refreshOverrun r k.channel n)
  else s.setRank r { k with balance := k.balance - 1 }

/-- An internal refresh task created (R29). -/
def State.createRefresh (s : State) (r : Slot) : State :=
  match (s.rank r).channel with
  | none => s
  | some c =>
    s.insertTask c
      { seq := 0, rank := r, kind := .refresh, cls := refreshClass (s.rank r).urgent, count := none, tag := none,
        origin := .planner, executing := false }

/-- After a debit, a rank below 0 has an internal refresh task: its class is set, or one is created unless the channel is
resetting (R26). -/
def State.ensureRefresh (s : State) (r : Slot) : State :=
  if (s.rank r).balance < 0 then
    match s.taskAt r .refresh with
    | some _ => s.setRefreshClass r
    | none =>
      match (s.rank r).channel with
      | none => s
      | some c => if s.resetting c then s else s.createRefresh r
  else s

/-- An interval expiry taken: the debit, the restarted timer, the urgent flag and the refresh task (R25, R26). -/
def State.takeInterval (s : State) (r : Slot) : State :=
  (((s.debit r).startInterval r).reevaluate r).ensureRefresh r

/-- A band rise taken against a running interval timer (R27): where it shortens the band's interval and the new one is shorter than
the length the timer was started with, the new length is applied to the running interval (entry 10). A fall leaves the timer as it
was (R28). -/
def State.bandToPlanner (s : State) (r : Slot) (old new : Band) : State :=
  match (s.rank r).interval with
  | none => s
  | some it =>
    let l := intervalLength s.timing new
    if old < new ∧ l < intervalLength s.timing old ∧ l < it.full then
      if it.started + l ≤ s.now then s.takeInterval r
      else s.setRank r { s.rank r with interval := some { it with length := l } }
    else s

/-- The rank's internal refresh task withdrawn if it is queued and not executing (R34, R41). -/
def State.withdrawRefresh (s : State) (r : Slot) : State :=
  match (s.rank r).channel with
  | none => s
  | some c => s.removeTasks c (fun t => t.rank == r && t.kind == .refresh && !t.executing)

/-- The credit of host or fill work: the balance, the urgent flag, and the withdrawal of a debt's task that is paid (R34, R37,
R40). -/
def State.creditAhead (s : State) (r : Slot) (n : Nat) : State :=
  let s1 := s.writeBalance r ((s.rank r).balance + n)
  if 0 ≤ (s1.rank r).balance then s1.withdrawRefresh r else s1

/-- The credit of the rank's own internal refresh task (R32). -/
def State.creditOwed (s : State) (r : Slot) (n : Nat) : State := s.writeBalance r ((s.rank r).balance + n)

/-- The account closed at the start of a DEEP_ENTER (R41); the catch-up count is fixed by the engine before. -/
def State.closeAccount (s : State) (r : Slot) : State :=
  (s.setRank r { s.rank r with balance := 0, urgent := false, interval := none }).withdrawRefresh r

/-- The account opened with a balance of 0 and a full interval (R10, R42). -/
def State.openAccount (s : State) (r : Slot) : State :=
  (s.setRank r { s.rank r with balance := 0, urgent := false }).startInterval r

end Sys2Proof.Machine
end

