-- ==== Sys2Proof/Machine/Power.lean ====
section
/-! DEFINITION. The power logic: power tasks, the critical band and the end of the settle period (05_rank_power_states.md), and the
handing on of band changes (R65). -/

namespace Sys2Proof.Machine

/-- Whether the rank has a power task in its channel's queue, queued or executing (R95). -/
def State.hasPowerTask (s : State) (r : Slot) : Bool := (s.taskAt r .power).isSome

/-- A host power task inserted (R95). -/
def State.insertPower (s : State) (r : Slot) (kind : TaskKind) (tag : Tag) : State :=
  match (s.rank r).channel with
  | none => s
  | some c =>
    s.insertTask c
      { seq := 0, rank := r, kind := kind, cls := .power, count := none, tag := some tag, origin := .host, executing := false }

/-- A THERMAL DEEP_EXIT created, with its THERMAL_EXIT notice (R95, R107, R108). -/
def State.createExit (s : State) (c : Chan) (r : Slot) (cause : ExitCause) : State :=
  (s.insertTask c
    { seq := 0, rank := r, kind := .deepExit, cls := .urgent, count := none, tag := none, origin := .thermal,
      executing := false }).notice (.thermalExit r (some c) cause)

/-- A host DEEP_EXIT raised to URGENT, keeping its sequence number, origin and tag (R107, R116). -/
def State.raiseExit (s : State) (c : Chan) (r : Slot) : State :=
  (s.mapTasks c (fun t => if t.rank = r ∧ t.kind = .deepExit then { t with cls := .urgent } else t)).notice
    (.thermalExit r (some c) .raised)

/-- A rank in DEEP in band 3 brought out: an exit created where it has no power task, a waiting host DEEP_EXIT raised
otherwise (R95, R107). Nothing while the channel resets (R107, R166). -/
def State.bringOut (s : State) (r : Slot) (cause : ExitCause) : State :=
  match (s.rank r).channel with
  | none => s
  | some c =>
    if s.resetting c then s
    else match s.taskAt r .power with
      | none => s.createExit c r cause
      | some t => if t.kind = .deepExit ∧ t.executing = false ∧ t.cls = .power then s.raiseExit c r else s

/-- A queued DEEP_ENTER removed by the critical band: completion THERMAL with the rank's state, then the scan (R107). Where one event
removes several, each removal is followed by its scan before the next slot's band is handed on (DESIGN CHOICE, entry 26). -/
def State.removeDeepEnter (s : State) (r : Slot) : State :=
  match (s.rank r).channel, s.taskAt r .power with
  | some c, some t =>
    if t.kind = .deepEnter ∧ t.executing = false then
      ((s.removeTasks c (fun u => u.rank == r && u.kind == .deepEnter && !u.executing)).completeTag t.tag .thermal
        (.rankState (s.rank r).state)).scanRank r
    else s
  | _, _ => s

/-- A band that becomes 3 taken by the power logic (R107). -/
def State.criticalBand (s : State) (r : Slot) : State :=
  if (s.rank r).state = .deep then s.bringOut r .deep else s.removeDeepEnter r

/-- A band change handed on, to the planner and then to the power logic (R65). -/
def State.handBand (s : State) (r : Slot) (old new : Band) : State :=
  if old = new then s
  else
    let s1 := s.bandToPlanner r old new
    if new = 3 then s1.criticalBand r else s1

/-- A band written and, if it changed, handed on (R64, R65). -/
def State.changeBand (s : State) (r : Slot) (b : Band) : State :=
  (s.setRank r { s.rank r with band := b }).handBand r (s.rank r).band b

/-- The end of a settle period (R42, R106): ONLINE, the account opened, an EXIT request, the scan. -/
def State.endSettle (s : State) (r : Slot) : State :=
  let s1 := s.setRank r { s.rank r with state := .online, settle := none }
  ((s1.openAccount r).internalRequest r .short .exit).scanRank r

/-- The exits recreated at the end of a channel reset, for a rank of the channel in DEEP and band 3 (R111, R128); a host DEEP_EXIT
that waits there is raised (entry 12). -/
def State.exitAfterReset (s : State) (c : Chan) (r : Slot) : State :=
  if (s.rank r).channel = some c ∧ (s.rank r).state = .deep ∧ (s.rank r).band = 3 then s.bringOut r .reset else s

/-- The exit that replaces one removed without completing, for a rank in DEEP and band 3 (R109). -/
def State.replaceExit (s : State) (r : Slot) : State :=
  if (s.rank r).state = .deep ∧ (s.rank r).band = 3 then s.bringOut r .replaced else s

end Sys2Proof.Machine
end

