-- ==== Sys2Proof/Machine/Formats.lean ====
section
/-! DEFINITION. The codes and layouts of the register window: snapshots, report records, STATUS and the register reads
(10_register_window_and_formats.md). -/

namespace Sys2Proof.Machine

/-! ### Codes -/

/-- Rank state codes (10.6). -/
def RankState.code : RankState → Nat
  | .absent => 0 | .offline => 1 | .online => 2 | .nap => 3 | .deep => 4 | .settling => 5 | .faulted => 6

/-- Task kind codes (10.5); 0 is NONE. -/
def TaskKind.code : TaskKind → Nat
  | .refresh => 1 | .refreshNow => 2 | .calShort => 3 | .calLong => 4 | .napEnter => 5 | .napExit => 6 | .deepEnter => 7
  | .deepExit => 8

/-- The code of the task in flight, if there is one (10.5). -/
def flightCode : Option FlightKind → Nat
  | none => 0
  | some (.task k) => k.code
  | some .fill => 9

/-- Power task codes (10.6). -/
def powerCode : Option TaskKind → Nat
  | some .napEnter => 1
  | some .napExit => 2
  | some .deepEnter => 3
  | some .deepExit => 4
  | some .refresh | some .refreshNow | some .calShort | some .calLong | none => 0

/-- Calibration part codes (10.6). -/
def CalPart.code : CalPart → Nat
  | .none => 0 | .waiting => 1 | .held => 2 | .calibrating => 3

/-- Refresh task codes (10.6). -/
def RefreshPart.code : RefreshPart → Nat
  | .none => 0 | .routine => 1 | .urgent => 2

/-- Band source codes (10.6). -/
def BandSource.code : BandSource → Nat
  | .sensor => 0 | .host => 1 | .fallback => 2

/-- Calibration status codes (10.6). -/
def CalStatus.code : CalStatus → Nat
  | .never => 0 | .valid => 1 | .stale => 2

/-- Origin codes (10.5). -/
def CalOrigin.code : CalOrigin → Nat
  | .host => 0 | .online => 1 | .periodic => 2 | .drift => 3 | .exit => 4 | .retry => 5 | .reset => 6

/-- Calibration kind codes (10.4, 10.5). -/
def calKindCode : CalKind → Nat
  | .short => 0
  | .long => 1

/-- Completion status codes (10.5). -/
def Status.code : Status → Nat
  | .done => 0 | .rankState => 1 | .rankBusy => 2 | .badParameter => 3 | .outOfRange => 4 | .alreadyPending => 5
  | .queueFull => 6 | .bandCritical => 7 | .aborted => 8 | .calFailed => 9 | .starved => 10 | .thermal => 11

/-- Submit status codes (10.1). -/
def SubmitStatus.code : SubmitStatus → Nat
  | .none => 0 | .accepted => 1 | .tableFull => 2 | .tagInUse => 3 | .unknownCommand => 4 | .resetting => 5

/-- Negotiator state codes (10.2). -/
def NegState.code : NegState → Nat
  | .idle => 0 | .requesting => 1 | .stalled => 2 | .opened => 3 | .draining => 4 | .releasing => 5

/-- Group state codes (10.2, 10.6). -/
def GroupState.code : GroupState → Nat
  | .free => 0 | .held => 1 | .calibrating => 2

/-- Slot codes: 0xF absent, 0xE out of range (10.5). -/
def SlotField.code : SlotField → Nat
  | .absent => 0xF
  | .slot r => r.val
  | .outOfRange => 0xE

/-- Channel codes: 0 absent, 1 A, 2 B (10.5). -/
def chanCode : Option Chan → Nat
  | none => 0
  | some .a => 1
  | some .b => 2

/-- Channel codes of a completion: 3 is out of range (10.5). -/
def ChanField.code : ChanField → Nat
  | .absent => 0
  | .chan c => chanCode (some c)
  | .outOfRange => 3

/-- SENSOR_FAILED values (10.5). -/
def ReadOutcome.code : ReadOutcome → Nat
  | .noAck => 1
  | .invalid => 2
  | .outOfRange => 3
  | .busFault => 4
  | .good _ => 0

/-- THERMAL_EXIT values (10.5). -/
def ExitCause.code : ExitCause → Nat
  | .entry => 1 | .deep => 2 | .raised => 3 | .reset => 4 | .replaced => 5

/-- RELEASE_TIMEOUT values (10.5). -/
def ReleaseCause.code : ReleaseCause → Nat
  | .done => 1 | .recall => 2 | .reset => 3 | .drain => 4

/-! ### Snapshots -/

/-- The class of a rank's internal refresh task, as the snapshot shows it (R20, R29). -/
def State.refreshPart (s : State) (r : Slot) : RefreshPart :=
  match s.taskAt r .refresh with
  | none => .none
  | some t => if t.cls = .urgent then .urgent else .routine

/-- The kind of a rank's power task, if it has one (R20, R95). -/
def State.powerPart (s : State) (r : Slot) : Option TaskKind := (s.taskAt r .power).map Task.kind

/-- The rank snapshot (R20). -/
def State.snapshot (s : State) (r : Slot) : Snapshot :=
  let k := s.rank r
  { state := k.state, channel := k.channel, group := k.group, sensor := k.sensor, sensorStatus := k.sensorStatus,
    lastTemp := k.lastTemp, band := k.band, bandSource := k.bandSource, calStatus := k.calStatus, failures := k.failures,
    calTemp := k.calTemp, balance := k.balance, urgent := k.urgent, overruns := k.overruns, refreshTask := s.refreshPart r,
    calibration := s.calPart r, powerTask := s.powerPart r, executing := s.executingFor r }

/-- A temperature in ten bits, −512 where it is absent (10.6). -/
def tempBits (t : Option Temp) : BitVec 10 := BitVec.ofInt 10 (t.getD (-512))

/-- Part A of a snapshot (10.6). -/
def Snapshot.partA (x : Snapshot) : BitVec 10 :=
  (BitVec.ofBool x.urgent ++ BitVec.ofNat 2 x.calibration.code ++ BitVec.ofNat 3 (powerCode x.powerTask) ++
    BitVec.ofNat 4 (flightCode x.executing) : BitVec 10)

/-- A channel in the one bit of part B: 0 A, and 0 for an ABSENT slot (10.6). -/
def chanBit : Option Chan → Bool
  | some .b => true
  | some .a | none => false

/-- Part B of a snapshot (10.6). -/
def Snapshot.partB (x : Snapshot) : Word :=
  (tempBits x.calTemp ++ BitVec.ofNat 2 x.failures ++ BitVec.ofNat 2 x.calStatus.code ++ BitVec.ofNat 2 x.bandSource.code ++
    BitVec.ofNat 2 x.band.val ++ BitVec.ofBool (x.sensorStatus == .failed) ++ x.sensor.getD 0 ++
    BitVec.ofNat 2 ((x.group.map Fin.val).getD 0) ++ BitVec.ofBool (chanBit x.channel) ++ BitVec.ofNat 3 x.state.code : BitVec 32)

/-- Part C of a snapshot (10.6). -/
def Snapshot.partC (x : Snapshot) : Word :=
  (BitVec.ofNat 2 x.refreshTask.code ++ BitVec.ofInt 4 x.balance ++ tempBits x.lastTemp ++ BitVec.ofNat 16 x.overruns : BitVec 32)

/-- The four words of a rank snapshot captured now (10.6). -/
def State.rankWords (s : State) (r : Slot) : RankCopy :=
  let x := s.snapshot r
  #v[x.partA.setWidth 32, x.partB, x.partC, s.timestamp]

/-- Word 0 of a group snapshot (10.6). -/
def CalGroup.word0 (x : CalGroup) : Word :=
  let held := match x.heldEntry with
    | none => (0 : BitVec 6)
    | some e => (BitVec.ofNat 3 e.origin.code ++ BitVec.ofNat 1 (calKindCode e.kind) ++ BitVec.ofNat 2 e.revocations : BitVec 6)
  ((0 : BitVec 15) ++ held ++ BitVec.ofBool x.discard ++ BitVec.ofNat 4 x.waiting.length ++
    BitVec.ofNat 4 ((x.holder.map Fin.val).getD 0xF) ++ BitVec.ofNat 2 x.state.code : BitVec 32)

/-- The place of a waiting list's rank, 0xF where the list has none (10.6). -/
def CalGroup.waitingRank (x : CalGroup) (i : Nat) : BitVec 4 :=
  BitVec.ofNat 4 ((x.waiting[i]?.map (fun e => e.rank.val)).getD 0xF)

/-- Word 1 of a group snapshot (10.6). -/
def CalGroup.word1 (x : CalGroup) : Word :=
  (x.waitingRank 7 ++ x.waitingRank 6 ++ x.waitingRank 5 ++ x.waitingRank 4 ++ x.waitingRank 3 ++ x.waitingRank 2 ++
    x.waitingRank 1 ++ x.waitingRank 0 : BitVec 32)

/-- The two words of a group snapshot captured now. -/
def State.groupWords (s : State) (g : GroupId) : GroupCopy := #v[(s.group g).word0, (s.group g).word1]

/-! ### Report records -/

/-- The code of a notice (10.5). -/
def Notice.code : Notice → Nat
  | .refreshOverrun .. => 0x21
  | .rankUrgent .. => 0x22
  | .bandChange .. => 0x23
  | .sensorFailed .. => 0x24
  | .sensorRestored .. => 0x25
  | .sensorBusFault _ => 0x26
  | .calFailed .. => 0x27
  | .rankFaulted .. => 0x28
  | .calStarved .. => 0x29
  | .thermalExit .. => 0x2A
  | .windowTimeout .. => 0x2B
  | .windowRecovered _ => 0x2C
  | .releaseTimeout .. => 0x2D
  | .grantLost .. => 0x2E
  | .unsolicitedGrant _ => 0x2F
  | .lost _ => 0x30

/-- The rank field of a notice, 0xF if absent (10.5). -/
def Notice.rankCode : Notice → Nat
  | .refreshOverrun r .. | .rankUrgent r .. | .bandChange r .. | .sensorFailed r .. | .sensorRestored r .. | .calFailed r ..
  | .rankFaulted r .. | .calStarved r .. | .thermalExit r .. => r.val
  | .sensorBusFault _ | .windowTimeout .. | .windowRecovered _ | .releaseTimeout .. | .grantLost .. | .unsolicitedGrant _
  | .lost _ => 0xF

/-- The channel or group code of a notice: 4 + g for a group (10.5). -/
def Notice.placeCode : Notice → Nat
  | .refreshOverrun _ c _ | .rankUrgent _ c _ | .bandChange _ c _ | .sensorFailed _ c _ | .sensorRestored _ c _
  | .thermalExit _ c _ => chanCode c
  | .calFailed _ g _ | .rankFaulted _ g _ | .calStarved _ g _ => 4 + g.val
  | .windowTimeout c _ | .windowRecovered c | .releaseTimeout c _ | .grantLost c _ | .unsolicitedGrant c => chanCode (some c)
  | .sensorBusFault _ | .lost _ => 0

/-- The value of a notice (R177, 10.5). -/
def Notice.value : Notice → Int
  | .refreshOverrun _ _ n => n
  | .rankUrgent _ _ b => b
  | .bandChange _ _ b => b.val
  | .sensorFailed _ _ o => o.code
  | .sensorRestored _ _ t => t
  | .sensorBusFault n => n
  | .calFailed _ _ n => n
  | .rankFaulted _ _ k => calKindCode k
  | .calStarved _ _ o => o.code
  | .thermalExit _ _ c => c.code
  | .windowTimeout _ escalated => if escalated then 2 else 1
  | .windowRecovered _ => 0
  | .releaseTimeout _ c => c.code
  | .grantLost _ k => flightCode k
  | .unsolicitedGrant _ => 0
  | .lost n => n

/-- Word 1 of a completion: its detail, or part B of a snapshot (10.5). -/
def Detail.word : Detail → Word
  | .none => 0
  | .count n => BitVec.ofNat 32 n
  | .calibration k r => BitVec.ofNat 32 (calKindCode k + (if r = .fail then 2 else 0))
  | .rankState st => BitVec.ofNat 32 st.code
  | .snapshot x => x.partB
  | .slot r => BitVec.ofNat 32 r.val
  | .position p => BitVec.ofNat 32 p

/-- Bits 31:22 of a completion's word 0: the channel code in 25:22, or part A of a snapshot (10.5). -/
def Detail.high (d : Detail) (c : ChanField) : BitVec 10 :=
  match d with
  | .snapshot x => x.partA
  | .none | .count _ | .calibration .. | .rankState _ | .slot _ | .position _ => BitVec.ofNat 10 c.code

/-- Word 2 of a completion: part C of a snapshot, and 0 otherwise (10.5). -/
def Detail.word2 : Detail → Word
  | .snapshot x => x.partC
  | .none | .count _ | .calibration .. | .rankState _ | .slot _ | .position _ => 0

/-- Word 0 of a record (10.5). -/
def recordHead (high : BitVec 10) (slot status : Nat) (tag : Tag) (kind : Nat) : Word :=
  (high ++ BitVec.ofNat 4 slot ++ BitVec.ofNat 4 status ++ tag ++ BitVec.ofNat 6 kind : BitVec 32)

/-- The four words of a report record (10.5). -/
def Report.words : Report → Vector Word 4
  | .completion tag kind status slot channel detail time =>
    #v[recordHead (detail.high channel) slot.code status.code tag kind.code.toNat, detail.word, detail.word2, time]
  | .notice n time => #v[recordHead (BitVec.ofNat 10 n.placeCode) n.rankCode 0 0 n.code, BitVec.ofInt 32 n.value, 0, time]

/-- The words POP0 to POP3 read: of the head record, or 0 where the queue is empty (R185). -/
def State.popWords (s : State) : Vector Word 4 :=
  match s.records with
  | [] => #v[0, 0, 0, 0]
  | x :: _ => x.words

/-! ### Registers -/

/-- The STATUS word (10.2). -/
def State.statusWord (s : State) : Word :=
  (BitVec.ofNat 12 0 ++ BitVec.ofBool ((s.engine .b).state == .busy) ++ BitVec.ofBool ((s.engine .a).state == .busy) ++
    BitVec.ofBool (s.resetting .b) ++ BitVec.ofBool (s.resetting .a) ++ BitVec.ofBool (!s.monitor.polling) ++
    BitVec.ofNat 2 (s.group 3).state.code ++ BitVec.ofNat 2 (s.group 2).state.code ++ BitVec.ofNat 2 (s.group 1).state.code ++
    BitVec.ofNat 2 (s.group 0).state.code ++ BitVec.ofNat 3 (s.nego .b).state.code ++ BitVec.ofNat 3 (s.nego .a).state.code ++
    BitVec.ofBool s.drain : BitVec 32)

/-- The CONTROL word as it reads (10.2). -/
def State.controlWord (s : State) : Word :=
  ((0 : BitVec 17) ++ BitVec.ofNat 7 s.intThreshold ++ (0 : BitVec 6) ++ BitVec.ofBool s.intEnable ++ (0 : BitVec 1) : BitVec 32)

/-- The REPORT_COUNT word (10.1). -/
def State.reportCountWord (s : State) : Word :=
  ((0 : BitVec 9) ++ BitVec.ofNat 7 s.margin ++ (0 : BitVec 3) ++ BitVec.ofNat 5 s.outstanding.length ++ (0 : BitVec 1) ++
    BitVec.ofNat 7 s.records.length : BitVec 32)

/-- A word of a rank snapshot as it reads: word 0 as captured by the read itself, the others from the copy (R186). -/
def State.rankRead (s : State) (index word : Nat) : Word :=
  if h : index < 8 then
    if word = 0 then (s.rankWords ⟨index, h⟩)[0] else (s.rankCopies[index][word]?).getD 0
  else 0

/-- A word of a group snapshot as it reads (R186). -/
def State.groupRead (s : State) (index word : Nat) : Word :=
  if h : index < 4 then
    if word = 0 then (s.groupWords ⟨index, h⟩)[0] else (s.groupCopies[index][word]?).getD 0
  else 0

/-- What a read of the register window returns (10.1, R183, R185, R186), by byte offset. Word 0 of a snapshot and POP3 also have an
effect, which the rows SNAPSHOT_CAPTURE and POP give. -/
def State.readRegister (s : State) (offset : Nat) : Word :=
  if offset % 4 ≠ 0 then 0
  else if offset = 0x000 then Config.identifier
  else if offset = 0x004 then s.statusWord
  else if offset = 0x008 then s.controlWord
  else if offset = 0x00C then s.timestamp
  else if offset = 0x014 then BitVec.ofNat 32 s.submitStatus.code
  else if offset = 0x018 then s.reportCountWord
  else if offset = 0x01C then BitVec.ofNat 32 s.lost
  else if 0x020 ≤ offset ∧ offset ≤ 0x03C then (s.staging[(offset - 0x020) / 4]?).getD 0
  else if 0x040 ≤ offset ∧ offset ≤ 0x04C then (s.popWords[(offset - 0x040) / 4]?).getD 0
  else if 0x100 ≤ offset ∧ offset < 0x180 then s.rankRead ((offset - 0x100) / 16) ((offset - 0x100) % 16 / 4)
  else if 0x200 ≤ offset ∧ offset < 0x220 then s.groupRead ((offset - 0x200) / 8) ((offset - 0x200) % 8 / 4)
  else 0

end Sys2Proof.Machine
end

