-- ==== Sys2Proof/Machine/Operands.lean ====
section
/-! DEFINITION. The operands of host commands: slots and channels read from their bytes, the ranges of every field with the position a
BAD_PARAMETER completion names (R5, R6, R36, R43, R64, R66, R79, R124, R173, R174, R176, 10.4), and the state check (R5). -/

namespace Sys2Proof.Machine

/-- The slot a byte names, if it is 0 to 7. -/
def slotOf (b : BitVec 8) : Option Slot := if h : b.toNat < 8 then some ⟨b.toNat, h⟩ else none

/-- The channel a byte names: 0 A, 1 B (10.4). -/
def chanOf (b : BitVec 8) : Option Chan := if b = 0 then some .a else if b = 1 then some .b else none

/-- The group a byte names, if it is 0 to 3. -/
def groupOf (b : BitVec 8) : Option GroupId := if h : b.toNat < 4 then some ⟨b.toNat, h⟩ else none

/-- The band a byte names, if it is 0 to 3. -/
def bandOf (b : BitVec 8) : Option Band := if h : b.toNat < 4 then some ⟨b.toNat, h⟩ else none

/-- The calibration kind a byte names: 0 SHORT, 1 LONG (10.4). -/
def calKindOf (b : BitVec 8) : Option CalKind := if b = 0 then some .short else if b = 1 then some .long else none

/-- The slot of an outstanding entry (R171, R175). -/
def slotFieldOf : Option (BitVec 8) → SlotField
  | none => .absent
  | some b =>
    match slotOf b with
    | none => .outOfRange
    | some r => .slot r

/-- The channel of an outstanding entry: of FLUSH_HOST and RESET_CHANNEL alone (R171, R175). -/
def chanFieldOf : HostCommand → ChanField
  | .flushHost b | .resetChannel b =>
    match chanOf b with
    | none => .outOfRange
    | some c => .chan c
  | .configureRank .. | .removeRank _ | .bringOnline _ | .takeOffline _ | .queryRank _ | .setBand .. | .refreshNow ..
  | .calibrate .. | .napEnter _ | .napExit _ | .deepEnter _ | .deepExit _ | .setTiming _ | .setRefreshPolicy _
  | .setThermal _ => .absent

/-- The position of a field: 32 times its word plus its lowest bit (10.4). -/
def position (word bit : Nat) : Nat := 32 * word + bit

/-- The lowest position whose field failed; the list is in rising order of positions (R176). -/
def firstBad (checks : List (Nat × Bool)) : Option Nat := (checks.find? (fun p => !p.2)).map Prod.fst

/-- Whether a number lies in a range. -/
def within (lo hi n : Nat) : Bool := decide (lo ≤ n) && decide (n ≤ hi)

/-- The position of the slot (10.4). -/
def slotPosition : Nat := position 0 16

/-- The position of the channel (10.4). -/
def channelPosition : Nat := position 0 24

/-- The position of a CONFIGURE_RANK's sensor address (10.4). -/
def addressPosition : Nat := position 1 8

/-- The range check of a command that carries a slot alone (R5). -/
def slotChecks (slot : BitVec 8) : List (Nat × Bool) := [(slotPosition, (slotOf slot).isSome)]

/-- The range check of FLUSH_HOST and RESET_CHANNEL (R124, R174). -/
def channelChecks (channel : BitVec 8) : List (Nat × Bool) := [(channelPosition, (chanOf channel).isSome)]

/-- The range checks of CONFIGURE_RANK (R6). -/
def configureChecks (slot channel group : BitVec 8) (address : BitVec 7) (present : Bool) : List (Nat × Bool) :=
  [(slotPosition, (slotOf slot).isSome), (channelPosition, (chanOf channel).isSome), (position 1 0, (groupOf group).isSome),
   (addressPosition, !present || within 0x08 0x77 address.toNat)]

/-- The range checks of SET_BAND (R64). -/
def bandChecks (slot band : BitVec 8) : List (Nat × Bool) :=
  [(slotPosition, (slotOf slot).isSome), (position 1 0, (bandOf band).isSome)]

/-- The range checks of REFRESH_NOW (R36). -/
def countChecks (slot count : BitVec 8) : List (Nat × Bool) :=
  [(slotPosition, (slotOf slot).isSome), (position 1 0, within 1 8 count.toNat)]

/-- The range checks of CALIBRATE (R79). -/
def calibrateChecks (slot kind : BitVec 8) : List (Nat × Bool) :=
  [(slotPosition, (slotOf slot).isSome), (position 1 0, (calKindOf kind).isSome)]

/-- The timing parameters a SET_TIMING record carries. -/
def timingOf (f : TimingFields) : Timing :=
  { baseInterval := f.baseInterval.toNat, refreshBusy := f.refreshBusy.toNat, calShort := f.calShort.toNat,
    calLong := f.calLong.toNat, napExit := f.napExit.toNat, napEntry := f.napEntry.toNat, deepEntry := f.deepEntry.toNat,
    deepExit := f.deepExit.toNat, deepSettle := f.deepSettle.toNat, windowBudget := f.windowBudget.toNat,
    grantWait := f.grantWait.toNat, urgentGrantWait := f.urgentGrantWait.toNat, releaseWait := f.releaseWait.toNat,
    tokenHold := f.tokenHold.toNat, calPeriod := f.calPeriod.toNat }

/-- The ranges of SET_TIMING (R173 step 1, 00_scope.md 1.7), by position. -/
def timingChecks (t : Timing) : List (Nat × Bool) :=
  [(position 1 0, within 1 50 t.napExit), (position 1 8, within 1 50 t.napEntry), (position 1 16, within 4 200 t.refreshBusy),
   (position 1 24, within 1 200 t.deepEntry), (position 2 0, within 100 4000 t.baseInterval),
   (position 2 12, within 64 4000 t.calLong && decide (t.calShort ≤ t.calLong)), (position 3 0, within 50 8000 t.windowBudget),
   (position 3 13, within 1 2000 t.deepSettle), (position 4 0, within 10 10000 t.grantWait),
   (position 4 14, within 10 10000 t.releaseWait), (position 5 0, within 10 100000 t.urgentGrantWait),
   (position 5 17, within 16 1000 t.calShort), (position 6 0, within 100 100000 t.tokenHold),
   (position 6 17, within 1 500 t.deepExit),
   (position 7 0, t.calPeriod == 0 || within 100000 1000000000 t.calPeriod)]

/-- The position of WindowBudget (10.4). -/
def windowBudgetPosition : Nat := position 3 0

/-- The refresh policy a SET_REFRESH_POLICY record carries. -/
def policyOf (f : PolicyFields) : Policy :=
  { postponeLimit := f.postponeLimit.toNat, advanceLimit := f.advanceLimit.toNat, urgentAt := f.urgentAt.toNat,
    gatherThreshold := f.gatherThreshold.toNat, advanceEnable := f.advanceEnable == 1 }

/-- The ranges of SET_REFRESH_POLICY (R43 step 1). -/
def policyChecks (f : PolicyFields) : List (Nat × Bool) :=
  [(position 1 0, within 1 7 f.postponeLimit.toNat), (position 1 8, within 0 4 f.advanceLimit.toNat),
   (position 1 24, within 1 16 f.gatherThreshold.toNat), (position 2 0, within 0 1 f.advanceEnable.toNat)]

/-- UrgentAt against PostponeLimit (R43 step 2). -/
def urgentAtChecks (f : PolicyFields) : List (Nat × Bool) :=
  [(position 1 16, within 1 f.postponeLimit.toNat f.urgentAt.toNat)]

/-- The position of PostponeLimit (10.4). -/
def postponeLimitPosition : Nat := position 1 0

/-- The bus speed a byte names: 0 100 kHz, 1 400 kHz (10.4). -/
def busSpeedOf (b : BitVec 8) : Option BusSpeed := if b = 0 then some .khz100 else if b = 1 then some .khz400 else none

/-- The thermal settings a SET_THERMAL record carries; a FallbackBand or BusSpeed out of range does not pass the checks. -/
def thermalOf (f : ThermalFields) : Thermal :=
  { rise1 := f.rise1.toInt, rise2 := f.rise2.toInt, rise3 := f.rise3.toInt, hyst := f.hyst.toNat,
    pollPeriod := f.pollPeriod.toNat, fallbackBand := (bandOf f.fallbackBand).getD 0, calDrift := f.calDrift.toNat,
    busSpeed := (busSpeedOf f.busSpeed).getD .khz100 }

/-- Whether a temperature lies in the range of a sample (00_scope.md 1.6). -/
def tempInRange (t : Temp) : Bool := decide (Config.tempMin ≤ t) && decide (t ≤ Config.tempMax)

/-- The checks of SET_THERMAL (R66), a relation naming the field R176 gives it. -/
def thermalChecks (f : ThermalFields) : List (Nat × Bool) :=
  [(position 1 0, tempInRange f.rise1.toInt),
   (position 1 16, tempInRange f.rise2.toInt && decide (f.rise1.toInt < f.rise2.toInt)),
   (position 2 0, tempInRange f.rise3.toInt && decide (f.rise2.toInt < f.rise3.toInt)),
   (position 2 16, within 0 40 f.hyst.toNat), (position 2 24, (bandOf f.fallbackBand).isSome),
   (position 3 0, within 10000 10000000 f.pollPeriod.toNat), (position 3 24, within 0 160 f.calDrift.toNat),
   (position 4 0, (busSpeedOf f.busSpeed).isSome)]

/-- The state check (R5): none is "yes", and otherwise the status in the table's cell. -/
def stateCheck : CommandKind → RankState → Option Status
  | .configureRank, .absent | .configureRank, .offline => none
  | .configureRank, .online | .configureRank, .nap | .configureRank, .deep | .configureRank, .settling
  | .configureRank, .faulted => some .rankState
  | .removeRank, .offline | .bringOnline, .offline => none
  | .removeRank, .absent | .removeRank, .online | .removeRank, .nap | .removeRank, .deep | .removeRank, .settling
  | .removeRank, .faulted => some .rankState
  | .bringOnline, .absent | .bringOnline, .online | .bringOnline, .nap | .bringOnline, .deep | .bringOnline, .settling
  | .bringOnline, .faulted => some .rankState
  | .takeOffline, .online | .takeOffline, .nap | .takeOffline, .deep | .takeOffline, .faulted => none
  | .takeOffline, .settling => some .rankBusy
  | .takeOffline, .absent | .takeOffline, .offline => some .rankState
  | .queryRank, _ => none
  | .setBand, .absent | .setBand, .settling => some .rankState
  | .setBand, .offline | .setBand, .online | .setBand, .nap | .setBand, .deep | .setBand, .faulted => none
  | .refreshNow, .online | .refreshNow, .nap | .refreshNow, .faulted => none
  | .refreshNow, .absent | .refreshNow, .offline | .refreshNow, .deep | .refreshNow, .settling => some .rankState
  | .calibrate, .online | .calibrate, .nap | .calibrate, .faulted => none
  | .calibrate, .absent | .calibrate, .offline | .calibrate, .deep | .calibrate, .settling => some .rankState
  | .napEnter, .online => none
  | .napEnter, .absent | .napEnter, .offline | .napEnter, .nap | .napEnter, .deep | .napEnter, .settling
  | .napEnter, .faulted => some .rankState
  | .napExit, .nap => none
  | .napExit, .absent | .napExit, .offline | .napExit, .online | .napExit, .deep | .napExit, .settling
  | .napExit, .faulted => some .rankState
  | .deepEnter, .online | .deepEnter, .nap => none
  | .deepEnter, .absent | .deepEnter, .offline | .deepEnter, .deep | .deepEnter, .settling
  | .deepEnter, .faulted => some .rankState
  | .deepExit, .deep => none
  | .deepExit, .absent | .deepExit, .offline | .deepExit, .online | .deepExit, .nap | .deepExit, .settling
  | .deepExit, .faulted => some .rankState
  | .setTiming, _ | .setRefreshPolicy, _ | .setThermal, _ | .flushHost, _ | .resetChannel, _ => none

/-- A command ended by a failing field (R5 step 1, R176). -/
def State.badParameter (s : State) (tag : Tag) (pos : Nat) : State := s.complete tag .badParameter (.position pos)

/-- A rank command taken (R5, R172): its field ranges, then the rank's state, then `body`, which makes the further checks. -/
def State.rankCommand (s : State) (tag : Tag) (kind : CommandKind) (checks : List (Nat × Bool)) (slot : BitVec 8)
    (body : Slot → State → State) : State :=
  match firstBad checks with
  | some pos => s.badParameter tag pos
  | none =>
    match slotOf slot with
    | none => s.badParameter tag slotPosition
    | some r =>
      match stateCheck kind (s.rank r).state with
      | some status => s.complete tag status .none
      | none => body r s

end Sys2Proof.Machine
end

