-- ==== Sys2Proof/Machine/Sensors.lean ====
section
/-! DEFINITION. The thermal monitor: the poll search, the classification of a read attempt, bands by hysteresis, failed reads,
good samples and bus recovery (03_thermal_monitoring.md). -/

namespace Sys2Proof.Machine

/-- The first slot from the cursor that is not ABSENT and has a sensor (R52). -/
def State.pollChoice (s : State) : Option Slot :=
  (slotsFrom s.monitor.cursor).find? (fun r => (s.rank r).state != .absent && (s.rank r).sensor.isSome)

/-- The temperature of a sensor's word: its low twelve bits, two's complement, in quarter degrees (R50). -/
def sensorTemp (w : BitVec 16) : Temp := (w.extractLsb' 0 12).toInt

/-- How an attempt ended: the first check that applies (R50). -/
def classify (e : AttemptEnding) : ReadOutcome :=
  if e.fault then .busFault
  else if !e.ack then .noAck
  else if !e.word.getLsbD 15 then .invalid
  else if sensorTemp e.word < Config.tempMin ∨ Config.tempMax < sensorTemp e.word then .outOfRange
  else .good (sensorTemp e.word)

/-- The rising threshold of a band above 0 (R57); band 0 has none. -/
def riseOf (th : Thermal) : Band → Temp
  | 0 => th.rise1
  | 1 => th.rise1
  | 2 => th.rise2
  | 3 => th.rise3

/-- The highest band whose threshold, lowered by `by_`, the temperature reaches, or 0 (R57, R58). -/
def bandReached (th : Thermal) (by_ : Int) (t : Temp) : Band :=
  if th.rise3 - by_ ≤ t then 3 else if th.rise2 - by_ ≤ t then 2 else if th.rise1 - by_ ≤ t then 1 else 0

/-- One step down from a band whose falling threshold the temperature has passed (R57). -/
def fallOne (th : Thermal) (t : Temp) (b : Band) : Band :=
  if b ≠ 0 ∧ t < riseOf th b - th.hyst then b - 1 else b

/-- The fall from a band, step by step, until one holds (R57). -/
def bandFall (th : Thermal) (t : Temp) : Nat → Band → Band
  | 0, b => b
  | n + 1, b => if fallOne th t b = b then b else bandFall th t n (fallOne th t b)

/-- The band of a sensor that was GOOD (R57). -/
def bandByHysteresis (th : Thermal) (c : Band) (t : Temp) : Band :=
  if c < bandReached th 0 t then bandReached th 0 t else bandFall th t 3 c

/-- The band of a sensor that was UNREAD or FAILED (R58). -/
def bandAfresh (th : Thermal) (t : Temp) : Band := bandReached th th.hyst t

/-- A good sample taken for a slot (R56, R59). -/
def State.goodSample (s : State) (r : Slot) (t : Temp) : State :=
  let k := s.rank r
  let b := if k.sensorStatus = .good then bandByHysteresis s.thermal k.band t else bandAfresh s.thermal t
  let s1 := s.setRank r { k with lastTemp := some t, sensorFailures := 0, sensorStatus := .good, band := b, bandSource := .sensor }
  let s2 := if k.sensorStatus = .failed then s1.notice (.sensorRestored r k.channel t) else s1
  let s3 := if b ≠ k.band then s2.notice (.bandChange r k.channel b) else s2
  (s3.handBand r k.band b).driftCheck r t

/-- A sensor put on fallback: FAILED, no temperature, three failures, band FallbackBand (R55, R62). -/
def Rank.onFallback (k : Rank) (b : Band) : Rank :=
  { k with
    sensorStatus := .failed, lastTemp := none, sensorFailures := Config.sensorFailureLimit, bandSource := .fallback, band := b }

/-- A failed read counted for a slot, with its last outcome (R55). -/
def State.failedRead (s : State) (r : Slot) (o : ReadOutcome) : State :=
  let k := s.rank r
  let n := min Config.sensorFailureLimit (k.sensorFailures + 1)
  match k.sensorStatus with
  | .absent => s
  | .failed => s.setRank r { k with sensorFailures := n }
  | .unread | .good =>
    if n < Config.sensorFailureLimit then s.setRank r { k with sensorFailures := n }
    else
      let b := s.thermal.fallbackBand
      ((s.setRank r (k.onFallback b)).notice (.sensorFailed r k.channel o)).handBand r k.band b

/-- The read ended: the bus IDLE with no read slot (R48, R54). -/
def State.endRead (s : State) : State :=
  s.setMonitor { s.monitor with bus := .idle, readSlot := none, discard := false, stopping := false, pulses := 0 }

/-- The outcome of a read taken for its slot, unless it is discarded (R8, R53 to R56). -/
def State.takeOutcome (s : State) (o : ReadOutcome) : State :=
  let m := s.monitor
  let s1 := s.endRead
  match m.readSlot with
  | none => s1
  | some r =>
    if m.discard then s1
    else match o with
      | .good t => s1.goodSample r t
      | .noAck | .invalid | .outOfRange | .busFault => s1.failedRead r o

/-- Bus recovery that succeeds: a failed read with BUS_FAULT (R61). -/
def State.recoverySucceeds (s : State) : State := s.takeOutcome .busFault

/-- One slot put on fallback by a failed recovery, if it has a sensor (R62). -/
def State.fallbackSlot (s : State) (r : Slot) : State :=
  let k := s.rank r
  if k.sensor.isSome then
    (s.setRank r (k.onFallback s.thermal.fallbackBand)).handBand r k.band s.thermal.fallbackBand
  else s

/-- Bus recovery that fails: polling STOPPED, every sensor on fallback in slot order, one notice after them (R62; DEDUCED, entry 21).
Each slot's band is handed on with its scan before the next slot is treated (DESIGN CHOICE, entry 26). -/
def State.recoveryFails (s : State) : State :=
  let n := allSlots.countP (fun r => (s.rank r).sensor.isSome)
  let s1 := s.endRead
  let s2 := s1.setMonitor { s1.monitor with polling := false, pollTimer := none }
  (allSlots.foldl State.fallbackSlot s2).notice (.sensorBusFault n)

/-- The data line found high in recovery: its stop condition begins, with the wait for the clock before it (R61). The 25 ms of that
wait start here, also where the clock was low before (DESIGN CHOICE, entry 29). -/
def State.dataReleased (s : State) : State := s.setMonitor { s.monitor with stopping := true, phaseStart := s.now }

/-- Bus recovery begun, with its first look at the data line (R60, R61 step 1). -/
def State.startRecovery (s : State) (sda : Bool) : State :=
  let s1 := s.setMonitor { s.monitor with bus := .recovery, pulses := 0, stopping := false, phaseStart := s.now }
  if sda then s1.dataReleased else s1

/-- A recovery pulse ended, with the look at the data line after it (R61 steps 2 and 3). -/
def State.endPulse (s : State) (sda : Bool) : State :=
  let m := s.monitor
  let s1 := s.setMonitor { m with pulses := m.pulses + 1, phaseStart := s.now }
  if sda then s1.dataReleased
  else if m.pulses + 1 < Config.recoveryPulses then s1
  else s1.recoveryFails

/-- The time the bus takes for an attempt that ends so, without clock stretching (R50). -/
def attemptTime (sp : BusSpeed) : ReadOutcome → Nat
  | .busFault => 0
  | .noAck => Config.noAckBits * sp.bitPeriod
  | .invalid | .outOfRange | .good _ => Config.attemptBits * sp.bitPeriod

/-- A first attempt's failure: the retry begins one bit period after its stop condition (R54). -/
def State.startRetry (s : State) : State :=
  s.setMonitor { s.monitor with bus := .retry, phaseStart := s.now + s.monitor.speed.bitPeriod }

/-- The end of an attempt taken by the stage of the read (R54, R60). -/
def State.endAttempt (s : State) (e : AttemptEnding) : State :=
  match classify e with
  | .busFault => s.startRecovery e.sda
  | .good t => s.takeOutcome (.good t)
  | .noAck => if s.monitor.bus = .read then s.startRetry else s.takeOutcome .noAck
  | .invalid => if s.monitor.bus = .read then s.startRetry else s.takeOutcome .invalid
  | .outOfRange => if s.monitor.bus = .read then s.startRetry else s.takeOutcome .outOfRange

/-- A read begun for a slot (R52), with the M82's look at both lines (R49): a data line found low is a bus fault at once, also with the
clock low (DESIGN CHOICE, entry 8), and otherwise the attempt proceeds, or waits for the clock first. That wait is a part of the
attempt, which its ending counts, and its 25 ms begin with the attempt (DESIGN CHOICE, entry 28). -/
def State.startRead (s : State) (r : Slot) (scl sda : Bool) : State :=
  let s1 := s.setMonitor { s.monitor with
    bus := .read, readSlot := some r, discard := false, speed := s.thermal.busSpeed, phaseStart := s.now, cursor := r + 1 }
  match sda, scl with
  | false, _ => s1.startRecovery false
  | true, true => s1
  | true, false => s1

/-- The poll timer's expiry taken (R51, R52). -/
def State.poll (s : State) (scl sda : Bool) : State :=
  let s1 := s.setMonitor { s.monitor with pollTimer := some (s.now + s.thermal.pollPeriod) }
  if s.monitor.bus = .idle then
    match s.pollChoice with
    | none => s1
    | some r => s1.startRead r scl sda
  else s1

/-- The discard mark set when the read slot is reconfigured or removed during its read (R53). -/
def State.discardRead (s : State) (r : Slot) : State :=
  if s.monitor.readSlot = some r then s.setMonitor { s.monitor with discard := true } else s

/-- The sensor part of CONFIGURE_RANK (R8, R63). -/
def State.configureSensor (s : State) (r : Slot) (address : Option (BitVec 7)) : State :=
  let s1 := s.discardRead r
  let k := s1.rank r
  match address with
  | none =>
    s1.setRank r { k with sensor := none, sensorStatus := .absent, lastTemp := none, sensorFailures := 0, bandSource := .host }
  | some a =>
    let source := if s1.monitor.polling then BandSource.sensor else .fallback
    (s1.setRank r { k with
      sensor := some a, sensorStatus := .unread, lastTemp := none, sensorFailures := 0, bandSource := source }).changeBand r
      s1.thermal.fallbackBand

/-- A new FallbackBand taken by one slot (R67), with the scan of a DEEP_ENTER it removes (DESIGN CHOICE, entry 26). -/
def State.takeFallback (s : State) (r : Slot) : State :=
  let k := s.rank r
  if k.sensorStatus = .unread ∨ k.sensorStatus = .failed ∨ k.bandSource = .fallback then s.changeBand r s.thermal.fallbackBand
  else s

/-- Polling resumed with a full PollPeriod, if it was STOPPED (R63). -/
def State.resumePolling (s : State) : State :=
  if s.monitor.polling then s
  else s.setMonitor { s.monitor with polling := true, pollTimer := some (s.now + s.thermal.pollPeriod) }

end Sys2Proof.Machine
end

