-- ==== Sys2Proof/Machine/RankCommands.lean ====
section
/-! DEFINITION. The commands that configure, serve, retire and query a rank (01_ranks_and_the_rank_table.md), and SET_BAND (R64):
what each does once it is accepted. -/

namespace Sys2Proof.Machine

/-- Whether another slot that is not ABSENT has this sensor address (R6). -/
def State.addressTaken (s : State) (r : Slot) (a : BitVec 7) : Bool :=
  allSlots.any (fun q => q != r && (s.rank q).state != .absent && (s.rank q).sensor == some a)

/-- The address of a CONFIGURE_RANK, if it has one. -/
def addressOf (address : BitVec 7) (present : Bool) : Option (BitVec 7) := if present then some address else none

/-- Whether a CONFIGURE_RANK's address is another slot's (R6). -/
def State.addressShared (s : State) (r : Slot) : Option (BitVec 7) → Bool
  | none => false
  | some a => s.addressTaken r a

/-- The effect of an accepted CONFIGURE_RANK (R7, R8). -/
def State.configure (s : State) (r : Slot) (c : Option Chan) (g : Option GroupId) (a : Option (BitVec 7)) : State :=
  (s.setRank r { s.rank r with state := .offline, channel := c, group := g }).configureSensor r a

/-- CONFIGURE_RANK (R6 to R8). -/
def runConfigureRank (tag : Tag) (slot channel group : BitVec 8) (address : BitVec 7) (present : Bool) (s : State) : State :=
  s.rankCommand tag .configureRank (configureChecks slot channel group address present) slot (fun r s =>
    let a := addressOf address present
    if s.addressShared r a then s.badParameter tag addressPosition
    else (s.configure r (chanOf channel) (groupOf group) a).complete tag .done .none)

/-- REMOVE_RANK (R9). -/
def runRemoveRank (tag : Tag) (slot : BitVec 8) (s : State) : State :=
  s.rankCommand tag .removeRank (slotChecks slot) slot (fun r s =>
    ((s.discardRead r).setRank r Rank.initial).complete tag .done .none)

/-- The effect of an accepted BRING_ONLINE (R10). -/
def State.bringOnline (s : State) (r : Slot) : State :=
  let s1 := s.setRank r { s.rank r with state := .online, calStatus := .never, failures := 0, calTemp := none }
  ((s1.openAccount r).internalRequest r .long .online).scanRank r

/-- BRING_ONLINE (R10). -/
def runBringOnline (tag : Tag) (slot : BitVec 8) (s : State) : State :=
  s.rankCommand tag .bringOnline (slotChecks slot) slot (fun r s => (s.bringOnline r).complete tag .done .none)

/-- Every task of a rank removed from its channel's queue, the tagged ones with ABORTED in queue order (R12). -/
def State.removeRankTasks (s : State) (r : Slot) : State :=
  match (s.rank r).channel with
  | none => s
  | some c =>
    let gone := (s.queue c).tasks.filter (fun t => t.rank == r)
    (s.removeTasks c (fun t => t.rank == r)).abortTasks gone

/-- The effect of an accepted TAKE_OFFLINE (R12 to R14), with the scan of the rank's group. -/
def State.takeOffline (s : State) (r : Slot) : State :=
  let s1 := (s.removeRankTasks r).withdrawCalibration r
  (s1.setRank r { s1.rank r with state := .offline, interval := none }).scanRank r

/-- TAKE_OFFLINE (R11 to R14). -/
def runTakeOffline (tag : Tag) (slot : BitVec 8) (s : State) : State :=
  s.rankCommand tag .takeOffline (slotChecks slot) slot (fun r s =>
    if (s.executingFor r).isSome then s.complete tag .rankBusy .none
    else (s.takeOffline r).complete tag .done .none)

/-- QUERY_RANK (R20). -/
def runQueryRank (tag : Tag) (slot : BitVec 8) (s : State) : State :=
  s.rankCommand tag .queryRank (slotChecks slot) slot (fun r s => s.complete tag .done (.snapshot (s.snapshot r)))

/-- SET_BAND (R64). -/
def runSetBand (tag : Tag) (slot band : BitVec 8) (s : State) : State :=
  s.rankCommand tag .setBand (bandChecks slot band) slot (fun r s =>
    if (s.rank r).sensor.isSome then s.complete tag .rankState .none
    else (s.changeBand r ((bandOf band).getD 0)).complete tag .done .none)

end Sys2Proof.Machine
end

