-- ==== Sys2Proof/Machine/SettingCommands.lean ====
section
/-! DEFINITION. The commands that set parameters: SET_TIMING (R173), SET_REFRESH_POLICY (R43, R44) and SET_THERMAL (R66, R67). -/

namespace Sys2Proof.Machine

/-- Whether every slot is ABSENT or OFFLINE (R173). -/
def State.allRetired (s : State) : Bool := allSlots.all (fun r => (s.rank r).state == .absent || (s.rank r).state == .offline)

/-- SET_TIMING (R173). -/
def runSetTiming (tag : Tag) (f : TimingFields) (s : State) : State :=
  let t := timingOf f
  match firstBad (timingChecks t) with
  | some pos => s.badParameter tag pos
  | none =>
    if !s.allRetired then s.complete tag .rankState .none
    else if t.windowBudget < maxTask t s.policy.postponeLimit then s.badParameter tag windowBudgetPosition
    else ({ s with timing := t }).complete tag .done .none

/-- Whether a slot's balance lies outside a policy (R43 step 4). -/
def Rank.outside (k : Rank) (p : Policy) : Bool :=
  decide (k.balance < -(p.postponeLimit : Int)) || decide ((p.advanceLimit : Int) < k.balance)

/-- The lowest slot whose balance lies outside a policy (R43 step 4, R176). -/
def State.outsideSlot (s : State) (p : Policy) : Option Slot := allSlots.find? (fun r => (s.rank r).outside p)

/-- SET_REFRESH_POLICY (R43, R44). -/
def runSetRefreshPolicy (tag : Tag) (f : PolicyFields) (s : State) : State :=
  let p := policyOf f
  match firstBad (policyChecks f) with
  | some pos => s.badParameter tag pos
  | none =>
    match firstBad (urgentAtChecks f) with
    | some pos => s.badParameter tag pos
    | none =>
      if s.timing.windowBudget < maxTask s.timing p.postponeLimit then s.badParameter tag postponeLimitPosition
      else match s.outsideSlot p with
        | some r => s.complete tag .outOfRange (.slot r)
        | none => (allSlots.foldl State.reevaluate { s with policy := p }).complete tag .done .none

/-- SET_THERMAL (R66, R67): the slots take a new FallbackBand in slot order, each with its scan (DESIGN CHOICE, entry 26). -/
def runSetThermal (tag : Tag) (f : ThermalFields) (s : State) : State :=
  match firstBad (thermalChecks f) with
  | some pos => s.badParameter tag pos
  | none => ((allSlots.foldl State.takeFallback { s with thermal := thermalOf f }).resumePolling).complete tag .done .none

end Sys2Proof.Machine
end

