-- ==== Sys2Proof/Machine/Handshake.lean ====
section
/-! DEFINITION. The window negotiator's transitions other than its request (07_quiet_window_handshake.md). The request and QURG are
Flags.lean's. -/

namespace Sys2Proof.Machine

/-- RELEASING entered for a cause (R142). -/
def State.enterReleasing (s : State) (c : Chan) (cause : ReleaseCause) : State :=
  s.setNego c { s.nego c with
    state := .releasing, qreq := false, qurg := false, lost := false
    releaseTimer := some (s.now + s.timing.releaseWait), releaseMark := false, cause := cause }

/-- A request dropped by a channel reset or by the start of a drain (R146, R147), with the scans of a stall that ends (R138; for a
drain with both channels STALLED, DESIGN CHOICE, entry 27). -/
def State.dropRequest (s : State) (c : Chan) (cause : ReleaseCause) : State :=
  let n := s.nego c
  let s1 := s.setNego c { n with qreq := false, qurg := false, grantTimer := none, escalated := false }
  let s2 :=
    if n.qgnt = false then s1.setNego c { s1.nego c with state := .idle, lost := false }
    else if n.state = .releasing then s1.setNego c { s1.nego c with cause := cause }
    else s1.enterReleasing c cause
  if n.state = .stalled then s2.scanAll else s2

/-- A negotiator that becomes STALLED (R137). -/
def State.stall (s : State) (c : Chan) (escalated : Bool) : State :=
  (s.setNego c { s.nego c with state := .stalled, grantTimer := none, escalated := false }).notice (.windowTimeout c escalated)

/-- The grant timer's expiry in REQUESTING (R137). -/
def State.grantExpiry (s : State) (c : Chan) : State :=
  let n := s.nego c
  if n.escalated then s.stall c true
  else if n.qurg then s.stall c false
  else s.setNego c { n with qurg := true, escalated := true, grantTimer := some (s.now + s.timing.urgentGrantWait) }

/-- The release timer's expiry in RELEASING (R145). -/
def State.releaseExpiry (s : State) (c : Chan) : State :=
  let n := s.nego c
  let s1 := s.setNego c { n with releaseTimer := some (s.now + s.timing.releaseWait), releaseMark := true }
  if n.releaseMark then s1 else s1.notice (.releaseTimeout c n.cause)

/-- The kind of the task an engine is executing (R144, R150). -/
def State.flightKind (s : State) (c : Chan) : Option FlightKind :=
  match (s.engine c).flight with
  | none => none
  | some f => some f.kind

/-- A grant lost in OPEN or DRAINING (R144). -/
def State.loseGrant (s : State) (c : Chan) : State :=
  let s1 := s.notice (.grantLost c (s.flightKind c))
  let n := s1.nego c
  if (s.engine c).flight.isSome then s1.setNego c { n with state := .draining, lost := true, qreq := false, qurg := false }
  else s1.setNego c { n with state := .idle, lost := false, qreq := false, qurg := false }

/-- A settled fall of QGNT (R135, R144, R145). -/
def State.grantFall (s : State) (c : Chan) : State :=
  let n := { s.nego c with qgnt := false }
  let s1 := s.setNego c n
  match n.state with
  | .opened => s1.loseGrant c
  | .draining => if n.lost then s1 else s1.loseGrant c
  | .releasing => s1.setNego c { n with state := .idle, releaseTimer := none, releaseMark := false }
  | .idle | .requesting | .stalled => s1

/-- The recall of an OPEN window (R141, R142): DRAINING, and RELEASING at once when no task is executing. -/
def State.recall (s : State) (c : Chan) : State :=
  let s1 := s.setNego c { s.nego c with state := .draining }
  if (s.engine c).flight.isSome then s1 else s1.enterReleasing c .recall

/-- A settled rise of QRCL (R141). -/
def State.recallRise (s : State) (c : Chan) : State :=
  let s1 := s.setNego c { s.nego c with qrcl := true }
  if (s.nego c).state = .opened then s1.recall c else s1

end Sys2Proof.Machine
end

