-- ==== Sys2Proof/Machine/Selection.lean ====
section
/-! DEFINITION. The channel engine: selection, durations, starts, fill tasks, completions and the end of a channel reset
(08_channel_engine.md, R128). -/

namespace Sys2Proof.Machine

/-- What a start would use: the refreshes, the duration, the operations, and whether the task is one of zero duration that is
completed at its selection (R154, R155). -/
structure Plan where
  n : Nat
  duration : Nat
  ops : List MaintOp
  instant : Bool
deriving DecidableEq, Repr

/-- Whether a rank is recorded NAP. -/
def State.napping (s : State) (r : Slot) : Bool := (s.rank r).state == .nap

/-- The nap overhead of refresh work (R31, R98). -/
def State.overhead (s : State) (r : Slot) : Nat := if s.napping r then s.timing.napExit + s.timing.napEntry else 0

/-- The refreshes that fit a budget beside an overhead (R31). -/
def fitting (budget overhead busy : Nat) : Nat := if overhead ≤ budget then (budget - overhead) / busy else 0

/-- Operations wrapped in a wake and a re-nap for a napping rank (R98, R156). -/
def wrapNap (nap : Bool) (ops : List MaintOp) : List MaintOp := if nap then [.napOut] ++ ops ++ [.napIn] else ops

/-- The plan of an internal refresh task (R31). -/
def State.planRefresh (s : State) (c : Chan) (r : Slot) : Option Plan :=
  let busy := s.timing.refreshBusy
  let n := min (min (s.rank r).owed (fitting (s.engine c).budget (s.overhead r) busy)) s.policy.postponeLimit
  if 1 ≤ n then
    some { n := n, duration := s.overhead r + n * busy, ops := wrapNap (s.napping r) (List.replicate n .refresh), instant := false }
  else none

/-- Refreshes a REFRESH_NOW would perform (R37). -/
def State.hostRefreshes (s : State) (r : Slot) (count : Nat) : Nat :=
  min count ((s.policy.advanceLimit : Int) - (s.rank r).balance).toNat

/-- The plan of a REFRESH_NOW task (R37). -/
def State.planRefreshNow (s : State) (c : Chan) (r : Slot) (count : Nat) : Option Plan :=
  let n := s.hostRefreshes r count
  if n = 0 then some { n := 0, duration := 0, ops := [], instant := true }
  else
    let d := s.overhead r + n * s.timing.refreshBusy
    if d ≤ (s.engine c).budget then
      some { n := n, duration := d, ops := wrapNap (s.napping r) (List.replicate n .refresh), instant := false }
    else none

/-- A plan whose duration must fit the remaining budget (R154). -/
def State.planFitting (s : State) (c : Chan) (n d : Nat) (ops : List MaintOp) : Option Plan :=
  if d ≤ (s.engine c).budget then some { n := n, duration := d, ops := ops, instant := false } else none

/-- The plan of a calibration task (R98, R154); its closing NAP_IN is held back (R156). -/
def State.planCal (s : State) (c : Chan) (r : Slot) (kind : CalKind) : Option Plan :=
  let d := match kind with
    | .short => s.timing.calShort
    | .long => s.timing.calLong
  let op := match kind with
    | .short => MaintOp.calShort
    | .long => MaintOp.calLong
  s.planFitting c 0 (s.overhead r + d) (if s.napping r then [.napOut, op] else [op])

/-- A nap task of a FAULTED rank completes at its selection (R110). -/
def planLostPurpose : Plan := { n := 0, duration := 0, ops := [], instant := true }

/-- The plan of a DEEP_ENTER task (R96, R102): the catch-up refreshes and the entry. -/
def State.planDeepEnter (s : State) (c : Chan) (r : Slot) : Option Plan :=
  let k := (s.rank r).owed
  let work := k * s.timing.refreshBusy + s.timing.deepEntry
  let ops := List.replicate k MaintOp.refresh ++ [.deepIn]
  if s.napping r then s.planFitting c k (s.timing.napExit + work) (.napOut :: ops)
  else s.planFitting c k work ops

/-- The plan of a task as things stand at a selection, or none when the selection passes over it (R153, R154). -/
def State.planTask (s : State) (c : Chan) (t : Task) : Option Plan :=
  let st := (s.rank t.rank).state
  if t.executing then none
  else match t.kind with
    | .refresh => if st.served then s.planRefresh c t.rank else none
    | .refreshNow => if st.served then s.planRefreshNow c t.rank (t.count.getD 0) else none
    | .calShort => if st.served then s.planCal c t.rank .short else none
    | .calLong => if st.served then s.planCal c t.rank .long else none
    | .napEnter =>
      if st = .faulted then some planLostPurpose
      else if st.served then s.planFitting c 0 s.timing.napEntry [.napIn] else none
    | .napExit =>
      if st = .faulted then some planLostPurpose
      else if st.served then s.planFitting c 0 s.timing.napExit [.napOut] else none
    | .deepEnter => if st = .online ∨ st = .nap then s.planDeepEnter c t.rank else none
    | .deepExit => if st = .deep then s.planFitting c 0 s.timing.deepExit [.deepOut] else none

/-- The first task in queue order that can start, with its plan (R153). -/
def State.findPlan (s : State) (c : Chan) : Option (Task × Plan) :=
  (queueOrder (s.queue c).tasks).findSome? (fun t => (s.planTask c t).map (fun p => (t, p)))

/-- Whether a rank qualifies for a fill task (R39). -/
def State.fillQualifies (s : State) (c : Chan) (r : Slot) : Bool :=
  let k := s.rank r
  k.channel == some c && (k.state == .online || k.state == .faulted) && decide (k.balance < (s.policy.advanceLimit : Int)) &&
    !s.deepEnterQueued r && decide (s.timing.refreshBusy ≤ (s.engine c).budget)

/-- The rank of the next fill task (R39). -/
def State.fillChoice (s : State) (c : Chan) : Option Slot :=
  if s.policy.advanceEnable then (slotsFrom (s.engine c).pointer).find? (s.fillQualifies c) else none

/-- Refreshes of a fill task (R40). -/
def State.fillCount (s : State) (c : Chan) (r : Slot) : Nat :=
  min ((s.policy.advanceLimit : Int) - (s.rank r).balance).toNat (fitting (s.engine c).budget 0 s.timing.refreshBusy)

/-- The engine's part in a start: the task in flight, BUSY, the budget charged, the completion timer (R159). -/
def State.beginFlight (s : State) (c : Chan) (f : Flight) (sample : Option Nat) : State :=
  let e := s.engine c
  s.setEngine c { e with
    state := .busy, budget := e.budget - f.duration, flight := some f, completion := some (s.now + f.duration), sample := sample }

/-- The time of the result sample of a calibration on a napping rank (R157). -/
def State.sampleTime (s : State) (r : Slot) (kind : TaskKind) : Option Nat :=
  if s.napping r then
    match kind with
    | .calShort => some (s.now + s.timing.napExit + s.timing.calShort)
    | .calLong => some (s.now + s.timing.napExit + s.timing.calLong)
    | .refresh | .refreshNow | .napEnter | .napExit | .deepEnter | .deepExit => none
  else none

/-- The owners' part in a start (R159 step 2). -/
def State.ownersStart (s : State) (r : Slot) (kind : TaskKind) (n : Nat) : State :=
  match kind with
  | .refresh => s.creditOwed r n
  | .refreshNow => s.creditAhead r n
  | .calShort | .calLong => s.startCalibrating r
  | .deepEnter =>
    let s1 := s.closeAccount r
    s1.setRank r { s1.rank r with periodic := none }
  | .napEnter | .napExit | .deepExit => s

/-- A queued task started (R159). -/
def State.startTask (s : State) (c : Chan) (t : Task) (p : Plan) : State :=
  let s1 := s.mapTasks c (fun u => if u = t then { u with executing := true } else u)
  let sample := s.sampleTime t.rank t.kind
  let s2 := s1.beginFlight c
    { rank := t.rank, kind := .task t.kind, n := p.n, duration := p.duration, ops := p.ops, napInHeld := sample.isSome } sample
  s2.ownersStart t.rank t.kind p.n

/-- A fill task started, with the move of the advance pointer (R40, R163). -/
def State.startFill (s : State) (c : Chan) (r : Slot) : State :=
  let n := s.fillCount c r
  let s1 := s.beginFlight c
    { rank := r, kind := .fill, n := n, duration := n * s.timing.refreshBusy, ops := List.replicate n .refresh, napInHeld := false }
    none
  let s2 := s1.setEngine c { s1.engine c with pointer := r + 1 }
  s2.creditAhead r n

/-- The engine idle: no task in flight and no selection (R150). -/
def State.standby (s : State) (c : Chan) : State := s.setEngine c { s.engine c with state := .standby }

/-- The engine reports done (R143, R155). -/
def State.reportDone (s : State) (c : Chan) : State := (s.enterReleasing c .done).standby c

/-- A task of zero duration completed at its selection (R38, R110, R155). -/
def State.finishInstant (s : State) (c : Chan) (t : Task) : State :=
  let s1 := s.removeTasks c (fun u => decide (u = t))
  match t.kind with
  | .refreshNow => s1.completeTag t.tag .done (.count 0)
  | .refresh | .calShort | .calLong | .napEnter | .napExit | .deepEnter | .deepExit =>
    s1.completeTag t.tag .rankState (.rankState (s.rank t.rank).state)

/-- A selection (R153, R155): the first task that can start, else a fill task, else done. `fuel` is more than the tasks of the
queue, each of which can be completed at its selection at most once. -/
def State.select (c : Chan) : Nat → State → State
  | 0, s => s.reportDone c
  | fuel + 1, s =>
    match s.findPlan c with
    | some (t, p) => if p.instant then State.select c fuel (s.finishInstant c t) else s.startTask c t p
    | none =>
      match s.fillChoice c with
      | some r => s.startFill c r
      | none => s.reportDone c

/-- The engine ACTIVE and selecting (R151, R152, R162). -/
def State.runSelection (s : State) (c : Chan) : State :=
  State.select c ((s.queue c).tasks.length + 1) (s.setEngine c { s.engine c with state := .active })

/-- The window opened: steps 1 and 2 of R139. -/
def State.openNego (s : State) (c : Chan) : State :=
  s.setNego c { s.nego c with state := .opened, grantTimer := none, escalated := false }

/-- The engine's part in an opening (R139 steps 3 and 4, R152): the budget loaded, then the recall or the first selection. -/
def State.openEngine (s : State) (c : Chan) : State :=
  let s1 := s.setEngine c { s.engine c with budget := s.timing.windowBudget, sampled := none, state := .active }
  if (s1.nego c).qrcl then (s1.recall c).standby c else s1.runSelection c

/-- A settled rise of QGNT (R135, R138, R139, R144). -/
def State.grantRise (s : State) (c : Chan) : State :=
  let n := s.nego c
  let s1 := s.setNego c { n with qgnt := true }
  match n.state with
  | .idle => s1.notice (.unsolicitedGrant c)
  | .requesting => (s1.openNego c).openEngine c
  | .stalled => (((s1.notice (.windowRecovered c)).openNego c).scanAll).openEngine c
  | .draining => if n.lost then s1.notice (.unsolicitedGrant c) else s1
  | .opened | .releasing => s1

/-! ### Completion -/

/-- The task a queue holds as executing (R113). -/
def State.executingTask (s : State) (c : Chan) : Option Task := (s.queue c).tasks.find? Task.executing

/-- The executing task taken out of the queue (R123). -/
def State.dropExecuting (s : State) (c : Chan) : State := s.removeTasks c Task.executing

/-- The completion of an internal refresh task (R33): out of the queue, or kept where the rank is still below 0 and the channel is
not resetting. -/
def State.completeRefresh (s : State) (c : Chan) (r : Slot) : State :=
  if (s.rank r).balance < 0 ∧ s.resetting c = false then
    (s.mapTasks c (fun t => { t with executing := false })).setRefreshClass r
  else s.dropExecuting c

/-- The completion of a power task (R97, R99, R103, R104): the new state, the task out of the queue, the completion with that
state, and for DEEP_ENTER the look at the band. -/
def State.completePower (s : State) (c : Chan) (r : Slot) (kind : TaskKind) (tag : Option Tag) : State :=
  let k := s.rank r
  match kind with
  | .napEnter =>
    (((s.setRank r { k with state := .nap }).dropExecuting c).completeTag tag .done (.rankState .nap)).scanRank r
  | .napExit =>
    (((s.setRank r { k with state := .online }).dropExecuting c).completeTag tag .done (.rankState .online)).scanRank r
  | .deepEnter =>
    let s1 := ((s.setRank r { k with state := .deep }).dropExecuting c).completeTag tag .done (.rankState .deep)
    (if k.band = 3 then s1.bringOut r .entry else s1).scanRank r
  | .deepExit =>
    (((s.setRank r { k with state := .settling, settle := some (s.now + s.timing.deepSettle) }).dropExecuting c).completeTag tag
      .done (.rankState .settling)).scanRank r
  | .refresh | .refreshNow | .calShort | .calLong => s

/-- The completion of a calibration task: its result handed to its group (R87, R88, R93). -/
def State.completeCal (s : State) (r : Slot) (kind : CalKind) (result : CalResult) : State :=
  match (s.rank r).group with
  | none => s
  | some g => s.finishCalibration g r kind result

/-- Parts 1 and 2 of a completion (R161): what the kind of the task in flight does, and the task out of the queue. -/
def State.completeFlight (s : State) (c : Chan) (f : Flight) (result : CalResult) : State :=
  let tag := match s.executingTask c with
    | none => none
    | some t => t.tag
  match f.kind with
  | .fill => s
  | .task .refresh => s.completeRefresh c f.rank
  | .task .refreshNow => (s.completeTag tag .done (.count f.n)).dropExecuting c
  | .task .calShort => s.completeCal f.rank .short result
  | .task .calLong => s.completeCal f.rank .long result
  | .task .napEnter => s.completePower c f.rank .napEnter tag
  | .task .napExit => s.completePower c f.rank .napExit tag
  | .task .deepEnter => s.completePower c f.rank .deepEnter tag
  | .task .deepExit => s.completePower c f.rank .deepExit tag

/-- Part 3 of a completion (R161): no task in flight. -/
def State.clearFlight (s : State) (c : Chan) : State :=
  s.setEngine c { s.engine c with state := .standby, flight := none, completion := none, sample := none, sampled := none }

/-- The internal refresh task recreated for a rank at the end of its channel's reset (R45, R128 step 1). -/
def State.refreshAfterReset (s : State) (c : Chan) (r : Slot) : State :=
  if (s.rank r).channel = some c ∧ (s.rank r).state.served then s.ensureRefresh r else s

/-- The outstanding RESET_CHANNEL commands of a channel, in the order of their acceptance (R174). -/
def State.resetCommands (s : State) (c : Chan) : List OutEntry :=
  s.outstanding.filter (fun e => e.kind == .resetChannel && e.channel == .chan c)

/-- The end of a channel reset (R128, R167, R174). -/
def State.endReset (s : State) (c : Chan) : State :=
  let s1 := s.setEngine c { s.engine c with resetMark := false }
  let s2 := allSlots.foldl (fun s r => s.refreshAfterReset c r) s1
  let s3 := allSlots.foldl (fun s r => s.exitAfterReset c r) s2
  let s4 := s3.scanAll
  (s4.resetCommands c).foldl (fun s e => s.complete e.tag .done (.count e.removed)) s4

/-- Part 5 of a completion (R162). -/
def State.afterCompletion (s : State) (c : Chan) : State :=
  match (s.nego c).state with
  | .opened => s.runSelection c
  | .draining =>
    if (s.nego c).lost then s.setNego c { s.nego c with state := .idle, lost := false } else s.enterReleasing c .recall
  | .idle | .requesting | .stalled | .releasing => s

/-- The held NAP_IN of a calibration on a napping rank is driven when the window is OPEN or DRAINING and the result does not fault
the rank (R158). -/
def State.drivesNapIn (s : State) (c : Chan) (r : Slot) (result : CalResult) : Bool :=
  let open_ := (s.nego c).state == .opened || (s.nego c).state == .draining
  let discarded := match (s.rank r).group with
    | none => false
    | some g => (s.group g).discard
  open_ && (result == .ok || discarded || (s.rank r).failures == 0)

/-- The result sampled during a calibration on a napping rank (R157, R158). -/
def State.sampleResult (s : State) (c : Chan) (f : Flight) (result : CalResult) : State :=
  let f1 := if s.drivesNapIn c f.rank result then { f with ops := f.ops ++ [.napIn], napInHeld := false }
    else { f with napInHeld := false }
  s.setEngine c { s.engine c with sampled := some result, sample := none, flight := some f1 }

/-- The sample due at a completion (R157): of a calibration on an awake rank, or of one on a napping rank whose sample has not
been taken (entry 17). -/
def State.sampleAtCompletion (s : State) (c : Chan) (f : Flight) (line : CalResult) : State :=
  match (s.engine c).sample with
  | some _ => s.sampleResult c f line
  | none =>
    match (s.engine c).sampled with
    | some _ => s
    | none => s.setEngine c { s.engine c with sampled := some line }

/-- The result an engine hands to the arbiter (R157). -/
def Engine.result (e : Engine) (line : CalResult) : CalResult := e.sampled.getD line

/-- A completion (R161, R162). -/
def State.completion (s : State) (c : Chan) (f : Flight) (line : CalResult) : State :=
  let s0 := s.sampleAtCompletion c f line
  let s1 := s0.completeFlight c f ((s0.engine c).result line)
  let s2 := s1.clearFlight c
  let s3 := if s2.resetting c then s2.endReset c else s2
  s3.afterCompletion c

end Sys2Proof.Machine
end

