-- ==== Sys2Proof/Machine/Resets.lean ====
section
/-! DEFINITION. The resets of the whole part: power-on reset, the soft-reset drain (R184) and the channel reset (R174). -/

namespace Sys2Proof.Machine

/-- The settled levels of a channel's input lines (R132). -/
def Negotiator.levels (n : Negotiator) : LineLevels := { qgnt := n.qgnt, qrcl := n.qrcl }

/-- Power-on reset: every block at its power-on values at once, held there while RESET_N is low, and the sensor bus released without a
stop condition (R3, R69, 10.7). -/
def State.powerOn (s : State) : State :=
  { State.initial s.now (s.nego .a).levels (s.nego .b).levels s.pending with inReset := true }

/-- The end of a drain taken by the thermal monitor: a read in progress is abandoned, recovery included, with a stop condition if the data
line is high and with both lines released otherwise, and the monitor takes its reset values (R48, R69). Without a read in progress both
lines are released already (DESIGN CHOICE, entry 31). -/
def Monitor.afterDrain (m : Monitor) (now : Nat) (sda : Bool) : Monitor :=
  { Monitor.initial now with abandonStop := sda && m.bus != .idle }

/-- The end of a soft-reset drain: every block takes its soft-reset values, the lines as they stand (R69, R132, R184). -/
def State.endDrain (s : State) (sda : Bool) : State :=
  { State.initial s.now (s.nego .a).levels (s.nego .b).levels s.pending with
    readData := s.readData, monitor := s.monitor.afterDrain s.now sda }

/-- Both engines have reported that no task is executing (R168, R184). -/
def State.enginesStill (s : State) : Bool := (s.engine .a).flight.isNone && (s.engine .b).flight.isNone

/-- The drain ends as part of the event that brings the second report (R184). -/
def State.checkDrain (s : State) (sda : Bool) : State := if s.drain && s.enginesStill then s.endDrain sda else s

/-- The start of a soft-reset drain (R147, R184). The negotiators drop their requests A before B, so where both are STALLED the scans
that end A's stall run while B is still STALLED, and those that end B's follow (DESIGN CHOICE, entry 27). -/
def State.startDrain (s : State) (sda : Bool) : State :=
  ((({ s with drain := true }).dropRequest .a .drain).dropRequest .b .drain).checkDrain sda

/-- A write of CONTROL (10.2, R183, R184): the enable bit, IntThreshold if it is 1 to 64, and a drain if the soft-reset bit is set and
none is in progress. `sda` is the data line of the sensor bus, for a drain that ends with the write (R69). -/
def State.writeControl (s : State) (soft : Bool) (fields : ControlFields) (sda : Bool) : State :=
  let threshold := fields.threshold.toNat
  let s1 := { s with
    intEnable := fields.enable, intThreshold := if 1 ≤ threshold ∧ threshold ≤ Config.reportCapacity then threshold else s.intThreshold }
  if soft && !s.drain then s1.startDrain sda else s1

/-- Whether a removed task's command ends with ABORTED in a channel reset: a REFRESH_NOW or a host power task (R126). -/
def Task.hostOwned (t : Task) : Bool := t.kind == .refreshNow || (t.kind.place == .power && t.origin == .host)

/-- The queue's part in a channel reset (R126): every task that is not executing removed, the host's with ABORTED. -/
def State.emptyQueue (s : State) (c : Chan) : State :=
  let gone := (s.queue c).tasks.filter (fun t => !t.executing)
  (s.removeTasks c (fun t => !t.executing)).abortTasks (gone.filter Task.hostOwned)

/-- The number of tasks a channel reset's removal takes out (R174). -/
def State.removable (s : State) (c : Chan) : Nat := (s.queue c).tasks.countP (fun t => !t.executing)

/-- The number of tasks a RESET_CHANNEL removed, kept in its outstanding entry until the reset ends (R174). -/
def State.noteRemoved (s : State) (tag : Tag) (n : Nat) : State :=
  { s with outstanding := s.outstanding.map (fun e => if e.tag = tag then { e with removed := n } else e) }

/-- A channel reset taken (R174): the mark and the pointer (R166), the queue (R126), the arbiter (R92, R93), the negotiator (R146),
and the end at once when no task is executing (R167). -/
def State.resetChannel (s : State) (c : Chan) : State :=
  let s1 := s.setEngine c { s.engine c with resetMark := true, pointer := 0 }
  let s2 := s1.emptyQueue c
  let s3 := allGroups.foldl (fun s g => s.resetGroup c g) s2
  let s4 := s3.dropRequest c .reset
  if (s4.engine c).flight.isSome then s4 else (s4.standby c).endReset c

end Sys2Proof.Machine
end

