-- ==== Sys2Proof/Machine/WorkCommands.lean ====
section
/-! DEFINITION. The commands that order, withdraw or reset work: REFRESH_NOW, CALIBRATE, the power commands, FLUSH_HOST and
RESET_CHANNEL: what each does once it is accepted. -/

namespace Sys2Proof.Machine

/-- A REFRESH_NOW task inserted (R36). -/
def State.insertRefreshNow (s : State) (r : Slot) (count : Nat) (tag : Tag) : State :=
  match (s.rank r).channel with
  | none => s
  | some c =>
    s.insertTask c
      { seq := 0, rank := r, kind := .refreshNow, cls := .routine, count := some count, tag := some tag, origin := .host,
        executing := false }

/-- Whether the host refresh pool of a rank's channel is full (R119). -/
def State.poolFull (s : State) (r : Slot) : Bool :=
  match (s.rank r).channel with
  | none => false
  | some c => decide (Config.hostPool ≤ (s.queue c).poolCount)

/-- REFRESH_NOW (R36, R119). -/
def runRefreshNow (tag : Tag) (slot count : BitVec 8) (s : State) : State :=
  s.rankCommand tag .refreshNow (countChecks slot count) slot (fun r s =>
    if s.deepEnterQueued r then s.complete tag .rankBusy .none
    else if (s.taskAt r .pool).isSome then s.complete tag .alreadyPending .none
    else if s.poolFull r then s.complete tag .queueFull .none
    else s.insertRefreshNow r count.toNat tag)

/-- Whether the rank's calibration task is executing (R79). -/
def State.calExecuting (s : State) (r : Slot) : Bool :=
  match s.taskAt r .calibration with
  | none => false
  | some t => t.executing

/-- CALIBRATE (R79). -/
def runCalibrate (tag : Tag) (slot kind : BitVec 8) (s : State) : State :=
  s.rankCommand tag .calibrate (calibrateChecks slot kind) slot (fun r s =>
    if s.deepEnterQueued r then s.complete tag .rankBusy .none
    else if s.calExecuting r then s.complete tag .rankBusy .none
    else if s.taggedCalibration r then s.complete tag .alreadyPending .none
    else s.request r ((calKindOf kind).getD .short) .host (some tag))

/-- NAP_ENTER (R95, R97). -/
def runNapEnter (tag : Tag) (slot : BitVec 8) (s : State) : State :=
  s.rankCommand tag .napEnter (slotChecks slot) slot (fun r s =>
    if s.hasPowerTask r then s.complete tag .alreadyPending .none else s.insertPower r .napEnter tag)

/-- NAP_EXIT (R95, R99). -/
def runNapExit (tag : Tag) (slot : BitVec 8) (s : State) : State :=
  s.rankCommand tag .napExit (slotChecks slot) slot (fun r s =>
    if s.hasPowerTask r then s.complete tag .alreadyPending .none else s.insertPower r .napExit tag)

/-- Work that keeps a rank from deep retention (R100 check 3). -/
def State.deepBusy (s : State) (r : Slot) : Bool := (s.taskAt r .pool).isSome || s.holdsToken r || s.taggedEntry r

/-- DEEP_ENTER (R95, R100). -/
def runDeepEnter (tag : Tag) (slot : BitVec 8) (s : State) : State :=
  s.rankCommand tag .deepEnter (slotChecks slot) slot (fun r s =>
    if s.hasPowerTask r then s.complete tag .alreadyPending .none
    else if (s.rank r).band = 3 then s.complete tag .bandCritical .none
    else if s.deepBusy r then s.complete tag .rankBusy .none
    else s.insertPower r .deepEnter tag)

/-- DEEP_EXIT (R95, R104). -/
def runDeepExit (tag : Tag) (slot : BitVec 8) (s : State) : State :=
  s.rankCommand tag .deepExit (slotChecks slot) slot (fun r s =>
    if s.hasPowerTask r then s.complete tag .alreadyPending .none else s.insertPower r .deepExit tag)

/-- A task FLUSH_HOST removes (R124). -/
def Task.flushed (t : Task) : Bool := !t.executing && t.hostOwned

/-- The effect of FLUSH_HOST on a channel, less its own completion (R124, R125). -/
def State.flush (s : State) (c : Chan) : State :=
  let gone := (s.queue c).tasks.filter Task.flushed
  let s1 := (s.removeTasks c Task.flushed).abortTasks gone
  let s2 := allSlots.foldl (fun s r => if gone.any (fun t => t.rank == r && t.kind == .deepExit) then s.replaceExit r else s) s1
  allGroups.foldl
    (fun s g => if gone.any (fun t => t.kind == .deepEnter && (s.rank t.rank).group == some g) then s.scanGroup g else s) s2

/-- FLUSH_HOST (R124, R125). -/
def runFlushHost (tag : Tag) (channel : BitVec 8) (s : State) : State :=
  match chanOf channel with
  | none => s.badParameter tag channelPosition
  | some c => (s.flush c).complete tag .done (.count ((s.queue c).tasks.countP Task.flushed))

/-- RESET_CHANNEL (R174). -/
def runResetChannel (tag : Tag) (channel : BitVec 8) (s : State) : State :=
  match chanOf channel with
  | none => s.badParameter tag channelPosition
  | some c => (s.noteRemoved tag (s.removable c)).resetChannel c

end Sys2Proof.Machine
end

