-- ==== Sys2Proof/Machine/Port.lean ====
section
/-! DEFINITION. The command port: the checks of a submission, acceptance, and the command taken (R169 to R172). -/

namespace Sys2Proof.Machine

/-- An accepted command taken (R172). -/
def takeCommand (tag : Tag) : HostCommand → State → State
  | .configureRank slot channel group address present => runConfigureRank tag slot channel group address present
  | .removeRank slot => runRemoveRank tag slot
  | .bringOnline slot => runBringOnline tag slot
  | .takeOffline slot => runTakeOffline tag slot
  | .queryRank slot => runQueryRank tag slot
  | .setBand slot band => runSetBand tag slot band
  | .setTiming f => runSetTiming tag f
  | .setRefreshPolicy f => runSetRefreshPolicy tag f
  | .setThermal f => runSetThermal tag f
  | .flushHost channel => runFlushHost tag channel
  | .resetChannel channel => runResetChannel tag channel
  | .refreshNow slot count => runRefreshNow tag slot count
  | .calibrate slot kind => runCalibrate tag slot kind
  | .napEnter slot => runNapEnter tag slot
  | .napExit slot => runNapExit tag slot
  | .deepEnter slot => runDeepEnter tag slot
  | .deepExit slot => runDeepExit tag slot

/-- Whether a tag is held by an outstanding command (R170 check 3). -/
def State.tagInUse (s : State) (tag : Tag) : Bool := s.outstanding.any (fun e => e.tag == tag)

/-- Whether the table or the report queue leaves no room for one more command (R170 check 4). -/
def State.tableFull (s : State) : Bool :=
  decide (Config.outstandingCapacity ≤ s.outstanding.length) ||
    decide (Config.reportCapacity ≤ s.records.length + s.outstanding.length)

/-- The checks of a submission, in their order (R170). -/
def State.submitOutcome (s : State) (tag : Tag) (c : Option HostCommand) : SubmitStatus :=
  if s.drain then .resetting
  else match c with
    | none => .unknownCommand
    | some _ => if s.tagInUse tag then .tagInUse else if s.tableFull then .tableFull else .accepted

/-- The entry an accepted command takes (R171). -/
def outEntryOf (tag : Tag) (c : HostCommand) : OutEntry :=
  { tag := tag, kind := c.kind, slot := slotFieldOf c.slotByte, channel := chanFieldOf c, removed := 0 }

/-- Acceptance: the submit status and the table entry (R170, R171). -/
def State.accept (s : State) (tag : Tag) (c : HostCommand) : State :=
  { s with submitStatus := .accepted, outstanding := s.outstanding ++ [outEntryOf tag c] }

/-- A submission of a record that holds this tag and command (R169, R170, R172). -/
def State.submit (s : State) (tag : Tag) (c : Option HostCommand) : State :=
  match s.submitOutcome tag c, c with
  | .accepted, some x => takeCommand tag x (s.accept tag x)
  | status, _ => { s with submitStatus := status }

/-- A write of SUBMIT: the record is read from the staging words as they stand (R169). -/
def State.submitStaged (s : State) : State := s.submit (recordTag s.staging) (decodeRecord s.staging)

/-- A host command: its record in the staging words and the write of SUBMIT, taken as one event (entry 6). -/
def hostCommand (tag : Tag) (c : HostCommand) (s : State) : Result :=
  s.event (fun s => ({ s with staging := stageRecord tag c s.staging }).submit tag (some c))

end Sys2Proof.Machine
end

