-- ==== Sys2Proof/Machine/HostCommands.lean ====
section
/-! DEFINITION. The meanings of the seventeen host commands and of a submission with an unknown code (09_commands_and_reports.md).
A host command's row is the write of its record into the staging words followed by the write of SUBMIT (entry 6). -/

namespace Sys2Proof.Machine

/-- CONFIGURE_RANK (R6 to R8). -/
def execConfigureRank (tag : Tag) (slot channel group : BitVec 8) (address : BitVec 7) (present : Bool) (s : State) : Result := hostCommand tag (.configureRank slot channel group address present) s

/-- REMOVE_RANK (R9). -/
def execRemoveRank (tag : Tag) (slot : BitVec 8) (s : State) : Result := hostCommand tag (.removeRank slot) s

/-- BRING_ONLINE (R10). -/
def execBringOnline (tag : Tag) (slot : BitVec 8) (s : State) : Result := hostCommand tag (.bringOnline slot) s

/-- TAKE_OFFLINE (R11 to R14). -/
def execTakeOffline (tag : Tag) (slot : BitVec 8) (s : State) : Result := hostCommand tag (.takeOffline slot) s

/-- QUERY_RANK (R20). -/
def execQueryRank (tag : Tag) (slot : BitVec 8) (s : State) : Result := hostCommand tag (.queryRank slot) s

/-- SET_BAND (R64). -/
def execSetBand (tag : Tag) (slot band : BitVec 8) (s : State) : Result := hostCommand tag (.setBand slot band) s

/-- SET_TIMING (R173). -/
def execSetTiming (tag : Tag) (fields : TimingFields) (s : State) : Result := hostCommand tag (.setTiming fields) s

/-- SET_REFRESH_POLICY (R43, R44). -/
def execSetRefreshPolicy (tag : Tag) (fields : PolicyFields) (s : State) : Result := hostCommand tag (.setRefreshPolicy fields) s

/-- SET_THERMAL (R66, R67). -/
def execSetThermal (tag : Tag) (fields : ThermalFields) (s : State) : Result := hostCommand tag (.setThermal fields) s

/-- FLUSH_HOST (R124, R125). -/
def execFlushHost (tag : Tag) (channel : BitVec 8) (s : State) : Result := hostCommand tag (.flushHost channel) s

/-- RESET_CHANNEL (R174). -/
def execResetChannel (tag : Tag) (channel : BitVec 8) (s : State) : Result := hostCommand tag (.resetChannel channel) s

/-- REFRESH_NOW (R36, R119). -/
def execRefreshNow (tag : Tag) (slot count : BitVec 8) (s : State) : Result := hostCommand tag (.refreshNow slot count) s

/-- CALIBRATE (R79). -/
def execCalibrate (tag : Tag) (slot kind : BitVec 8) (s : State) : Result := hostCommand tag (.calibrate slot kind) s

/-- NAP_ENTER (R97). -/
def execNapEnter (tag : Tag) (slot : BitVec 8) (s : State) : Result := hostCommand tag (.napEnter slot) s

/-- NAP_EXIT (R99). -/
def execNapExit (tag : Tag) (slot : BitVec 8) (s : State) : Result := hostCommand tag (.napExit slot) s

/-- DEEP_ENTER (R100). -/
def execDeepEnter (tag : Tag) (slot : BitVec 8) (s : State) : Result := hostCommand tag (.deepEnter slot) s

/-- DEEP_EXIT (R104). -/
def execDeepExit (tag : Tag) (slot : BitVec 8) (s : State) : Result := hostCommand tag (.deepExit slot) s

/-- A submission whose word 0 holds no command code (R170): the record read from the staging words as they then stand. -/
def execUnknownCommand (word0 : Word) (s : State) : Result :=
  s.event (fun s => ({ s with staging := s.staging.set 0 word0 }).submitStaged)

end Sys2Proof.Machine
end

