-- ==== Sys2Proof/Machine/Pins.lean ====
section
/-! DEFINITION. The meanings of the pins' rows: RESET_N and the settled edges of QGNT and QRCL (R132, 10.7). An edge to the level a line
already has does not arise and changes nothing (entry 3). -/

namespace Sys2Proof.Machine

/-- POWER_ON_RESET (R3, 10.7): taken at any time, a drain included (R184). -/
def execPowerOnReset (s : State) : Result := .next s.powerOn

/-- RESET_N_RISE (R132, 10.7): every block holds its power-on values, and the input lines are taken as they stand. -/
def execResetNRise (levelsA levelsB : LineLevels) (s : State) : Result :=
  if s.inReset then .next (State.initial s.now levelsA levelsB s.pending) else .next s

/-- QGNT_RISE (R135, R138, R139, R144). -/
def execQgntRise (c : Chan) (s : State) : Result := s.event (fun s => if (s.nego c).qgnt then s else s.grantRise c)

/-- QGNT_FALL (R135, R144, R145). -/
def execQgntFall (c : Chan) (s : State) : Result := s.event (fun s => if (s.nego c).qgnt then s.grantFall c else s)

/-- QRCL_RISE (R141). -/
def execQrclRise (c : Chan) (s : State) : Result := s.event (fun s => if (s.nego c).qrcl then s else s.recallRise c)

/-- QRCL_FALL (R141): ignored but for the level. -/
def execQrclFall (c : Chan) (s : State) : Result := s.event (fun s => s.setNego c { s.nego c with qrcl := false })

end Sys2Proof.Machine
end

