-- ==== Sys2Proof/Machine/Timers.lean ====
section
/-! DEFINITION. The meanings of the timers' rows. The expiry of a stopped timer does not arise and changes nothing (entry 2); the
expiry of a running one is taken when its time has come (entry 1). -/

namespace Sys2Proof.Machine

/-- An expiry: nothing where the timer is stopped, and `f` no earlier than its time otherwise. -/
def State.expire (s : State) (timer : Option Nat) (f : State → State) : State :=
  match timer with
  | none => s
  | some due => f (s.reach due)

/-- The expiry of a running interval timer (R24). -/
def Interval.due (it : Interval) : Nat := it.started + it.length

/-- INTERVAL_EXPIRY (R25, R26). -/
def execIntervalExpiry (r : Slot) (s : State) : Result :=
  s.event (fun s => s.expire ((s.rank r).interval.map Interval.due) (fun s => s.takeInterval r))

/-- SETTLE_EXPIRY (R106). -/
def execSettleExpiry (r : Slot) (s : State) : Result :=
  s.event (fun s => s.expire (s.rank r).settle (fun s => s.endSettle r))

/-- TOKEN_HOLD_EXPIRY (R85, R86). -/
def execTokenHoldExpiry (g : GroupId) (s : State) : Result :=
  s.event (fun s => s.expire (s.group g).tokenTimer (fun s => s.revoke g))

/-- PERIODIC_EXPIRY (R89): the timer stops and a SHORT PERIODIC request is made. -/
def execPeriodicExpiry (r : Slot) (s : State) : Result :=
  s.event (fun s => s.expire (s.rank r).periodic (fun s =>
    (s.setRank r { s.rank r with periodic := none }).internalRequest r .short .periodic))

/-- GRANT_TIMER_EXPIRY (R137). -/
def execGrantTimerExpiry (c : Chan) (s : State) : Result :=
  s.event (fun s => s.expire (s.nego c).grantTimer (fun s => s.grantExpiry c))

/-- RELEASE_TIMER_EXPIRY (R145). -/
def execReleaseTimerExpiry (c : Chan) (s : State) : Result :=
  s.event (fun s => s.expire (s.nego c).releaseTimer (fun s => s.releaseExpiry c))

/-- A task completion taken, and the drain ended where it waited for it (R161, R162, R184). -/
def State.takeCompletion (s : State) (c : Chan) (lines : CompletionLines) : State :=
  match (s.engine c).flight with
  | none => s
  | some f => (s.completion c f lines.result).checkDrain lines.sda

/-- TASK_COMPLETION (R161, R162). -/
def execTaskCompletion (c : Chan) (lines : CompletionLines) (s : State) : Result :=
  s.event (fun s => s.expire (s.engine c).completion (fun s => s.takeCompletion c lines))

/-- A result sample taken (R157, R158). -/
def State.takeSample (s : State) (c : Chan) (line : CalResult) : State :=
  match (s.engine c).flight with
  | none => s
  | some f => s.sampleResult c f line

/-- CAL_RESULT_SAMPLE (R157, R158). -/
def execCalResultSample (c : Chan) (line : CalResult) (s : State) : Result :=
  s.event (fun s => s.expire (s.engine c).sample (fun s => s.takeSample c line))

/-- TIMESTAMP_TICK (R183): the counter increases by 1, 100 TU after its last tick. -/
def execTimestampTick (s : State) : Result :=
  s.event (fun s =>
    let due := s.tickBase + Config.timestampPeriod
    { s.reach due with tickBase := due, timestamp := s.timestamp + 1 })

end Sys2Proof.Machine
end

