-- ==== Sys2Proof/Machine/SensorEvents.lean ====
section
/-! DEFINITION. The meanings of the sensor bus's rows (R49 to R62). An event of a stage the bus is not in does not arise and changes
nothing (entry 2). -/

namespace Sys2Proof.Machine

/-- POLL_TIMER_EXPIRY (R51, R52). -/
def execPollTimerExpiry (scl sda : Bool) (s : State) : Result :=
  s.event (fun s => s.expire s.monitor.pollTimer (fun s => s.poll scl sda))

/-- The end of an attempt, after its bit periods and the waits for the clock (R50). Carried waits that no attempt can hold are taken as they
are (DESIGN CHOICE, entry 30). -/
def State.attemptEnds (s : State) (e : AttemptEnding) : State :=
  match s.monitor.bus with
  | .read | .retry => (s.reach (s.monitor.phaseStart + attemptTime s.monitor.speed (classify e) + e.stretch)).endAttempt e
  | .idle | .recovery => s

/-- ATTEMPT_END (R50, R54 to R60). -/
def execAttemptEnd (e : AttemptEnding) (s : State) : Result := s.event (fun s => s.attemptEnds e)

/-- A clock held low for 25 ms from the moment the M82 released it (R49): a bus fault of an attempt, a failed recovery (R61). A carried
moment that lies after the attempt, pulse or stop condition could have ended is taken as it is (DESIGN CHOICE, entry 30). -/
def State.clockTimeout (s : State) (released : Nat) (sda : Bool) : State :=
  let s1 := s.reach (s.monitor.phaseStart + released + Config.clockStretchLimit)
  match s.monitor.bus with
  | .read | .retry => s1.startRecovery sda
  | .recovery => s1.recoveryFails
  | .idle => s

/-- CLOCK_STRETCH_TIMEOUT (R49, R60 to R62). -/
def execClockStretchTimeout (released : Nat) (sda : Bool) (s : State) : Result :=
  s.event (fun s => s.clockTimeout released sda)

/-- A recovery pulse's end, or the end of recovery's stop condition, one bit period and the wait for the clock after its start
(R61). The data line is looked at after a pulse alone (entry 9). A carried wait of more than 25 ms, 2,500,000 TU, cannot arise, since the
timeout has failed the recovery before it; it is taken as a pulse or stop condition that ended normally (DESIGN CHOICE, entry 30). -/
def State.pulseEnds (s : State) (stretch : Nat) (sda : Bool) : State :=
  let s1 := s.reach (s.monitor.phaseStart + s.monitor.speed.bitPeriod + stretch)
  match s.monitor.bus with
  | .recovery => if s.monitor.stopping then s1.recoverySucceeds else s1.endPulse sda
  | .idle | .read | .retry => s

/-- RECOVERY_PULSE (R61, R62). -/
def execRecoveryPulse (stretch : Nat) (sda : Bool) (s : State) : Result := s.event (fun s => s.pulseEnds stretch sda)

end Sys2Proof.Machine
end

