-- ==== Sys2Proof/Machine/Window.lean ====
section
/-! DEFINITION. The meanings of the register window's rows: writes of CONTROL, the report pop, snapshot captures and register writes
(R180, R181, R183 to R186). -/

namespace Sys2Proof.Machine

/-- SOFT_RESET (R184): a CONTROL write with the soft-reset bit set. -/
def execSoftReset (fields : ControlFields) (sda : Bool) (s : State) : Result :=
  s.event (fun s => s.writeControl true fields sda)

/-- INTERRUPT_ENABLE (R181): a CONTROL write whose IntThreshold field is 0, which is ignored. -/
def execInterruptEnable (enable : Bool) (s : State) : Result :=
  s.event (fun s => s.writeControl false { enable := enable, threshold := 0 } true)

/-- INT_THRESHOLD (R183): a CONTROL write with the soft-reset bit clear. -/
def execIntThreshold (enable : Bool) (threshold : BitVec 7) (s : State) : Result :=
  s.event (fun s => s.writeControl false { enable := enable, threshold := threshold } true)

/-- The LOST notice a pop writes when notices have been lost (R180). -/
def State.reportLost (s : State) : State :=
  if s.lost = 0 ∨ s.margin = 0 then s else { s.notice (.lost s.lost) with lost := 0 }

/-- A pop (R180, R185): the last word of the head record is read and the record removed. -/
def State.popHead (s : State) : State :=
  let s1 := { s with readData := s.popWords[3] }
  match s.records with
  | [] => s1
  | _ :: rest => ({ s1 with records := rest }).reportLost

/-- POP (R180, R185). -/
def execPop (s : State) : Result := s.event State.popHead

/-- A snapshot captured into its copy, word 0 read (R186). -/
def State.capture (s : State) (x : SnapshotId) : State :=
  match x with
  | .rank r => { s with rankCopies := s.rankCopies.set r (s.rankWords r), readData := (s.rankWords r)[0] }
  | .group g => { s with groupCopies := s.groupCopies.set g (s.groupWords g), readData := (s.groupWords g)[0] }

/-- SNAPSHOT_CAPTURE (R186). -/
def execSnapshotCapture (x : SnapshotId) (s : State) : Result := s.event (fun s => s.capture x)

/-- A write at a byte offset (10.1, R183): a staging word is stored, CONTROL and SUBMIT take their effects, and every other offset
ignores it. -/
def State.writeRegister (s : State) (offset : Nat) (write : WindowWrite) : State :=
  let value := write.word
  if offset % 4 ≠ 0 then s
  else if offset = 0x008 then
    s.writeControl (value.getLsbD 0) { enable := value.getLsbD 1, threshold := value.extractLsb' 8 7 } write.sda
  else if offset = 0x010 then s.submitStaged
  else if 0x020 ≤ offset ∧ offset ≤ 0x03C then { s with staging := s.staging.setIfInBounds ((offset - 0x020) / 4) value }
  else s

/-- REGISTER_WRITE (R183). -/
def execRegisterWrite (offset : BitVec 12) (write : WindowWrite) (s : State) : Result :=
  s.event (fun s => s.writeRegister offset.toNat write)

end Sys2Proof.Machine
end

