-- ==== Sys2Proof/Machine/Dispatch.lean ====
section
/-! DEFINITION. One arm per command: the meaning each row of opcode_table.json has. -/

namespace Sys2Proof.Machine

def exec (i : Instr) (s : State) : Host.Outcome State Fault Refusal :=
  match i with
  | .configureRank tag slot channel group address present => Sys2Proof.Machine.execConfigureRank tag slot channel group address present s
  | .removeRank tag slot => Sys2Proof.Machine.execRemoveRank tag slot s
  | .bringOnline tag slot => Sys2Proof.Machine.execBringOnline tag slot s
  | .takeOffline tag slot => Sys2Proof.Machine.execTakeOffline tag slot s
  | .queryRank tag slot => Sys2Proof.Machine.execQueryRank tag slot s
  | .setBand tag slot band => Sys2Proof.Machine.execSetBand tag slot band s
  | .setTiming tag fields => Sys2Proof.Machine.execSetTiming tag fields s
  | .setRefreshPolicy tag fields => Sys2Proof.Machine.execSetRefreshPolicy tag fields s
  | .setThermal tag fields => Sys2Proof.Machine.execSetThermal tag fields s
  | .flushHost tag channel => Sys2Proof.Machine.execFlushHost tag channel s
  | .resetChannel tag channel => Sys2Proof.Machine.execResetChannel tag channel s
  | .refreshNow tag slot count => Sys2Proof.Machine.execRefreshNow tag slot count s
  | .calibrate tag slot kind => Sys2Proof.Machine.execCalibrate tag slot kind s
  | .napEnter tag slot => Sys2Proof.Machine.execNapEnter tag slot s
  | .napExit tag slot => Sys2Proof.Machine.execNapExit tag slot s
  | .deepEnter tag slot => Sys2Proof.Machine.execDeepEnter tag slot s
  | .deepExit tag slot => Sys2Proof.Machine.execDeepExit tag slot s
  | .unknownCommand word0 => Sys2Proof.Machine.execUnknownCommand word0 s
  | .softReset fields sda => Sys2Proof.Machine.execSoftReset fields sda s
  | .interruptEnable enable => Sys2Proof.Machine.execInterruptEnable enable s
  | .intThreshold enable threshold => Sys2Proof.Machine.execIntThreshold enable threshold s
  | .pop => Sys2Proof.Machine.execPop s
  | .snapshotCapture snapshot => Sys2Proof.Machine.execSnapshotCapture snapshot s
  | .registerWrite offset write => Sys2Proof.Machine.execRegisterWrite offset write s
  | .powerOnReset => Sys2Proof.Machine.execPowerOnReset s
  | .qgntRise channel => Sys2Proof.Machine.execQgntRise channel s
  | .qgntFall channel => Sys2Proof.Machine.execQgntFall channel s
  | .qrclRise channel => Sys2Proof.Machine.execQrclRise channel s
  | .qrclFall channel => Sys2Proof.Machine.execQrclFall channel s
  | .intervalExpiry slot => Sys2Proof.Machine.execIntervalExpiry slot s
  | .settleExpiry slot => Sys2Proof.Machine.execSettleExpiry slot s
  | .tokenHoldExpiry group => Sys2Proof.Machine.execTokenHoldExpiry group s
  | .periodicExpiry slot => Sys2Proof.Machine.execPeriodicExpiry slot s
  | .grantTimerExpiry channel => Sys2Proof.Machine.execGrantTimerExpiry channel s
  | .releaseTimerExpiry channel => Sys2Proof.Machine.execReleaseTimerExpiry channel s
  | .taskCompletion channel lines => Sys2Proof.Machine.execTaskCompletion channel lines s
  | .calResultSample channel line => Sys2Proof.Machine.execCalResultSample channel line s
  | .pollTimerExpiry scl sda => Sys2Proof.Machine.execPollTimerExpiry scl sda s
  | .attemptEnd ending => Sys2Proof.Machine.execAttemptEnd ending s
  | .clockStretchTimeout released sda => Sys2Proof.Machine.execClockStretchTimeout released sda s
  | .recoveryPulse stretch sda => Sys2Proof.Machine.execRecoveryPulse stretch sda s
  | .timestampTick => Sys2Proof.Machine.execTimestampTick s
  | .resetNRise levelsA levelsB => Sys2Proof.Machine.execResetNRise levelsA levelsB s

end Sys2Proof.Machine
end

