-- ==== Sys2Proof/Safety.lean ====
section
/-! DEFINITION. What a safe machine is, in the terms statements use: the device laws of 00_scope.md 1.8 as properties of one state,
each kept by every step, and the names statements give to an admitted submission and its answer. Every property is an `abbrev` of a
decidable proposition. -/

namespace Sys2Proof

/-! ### Ranges of the parameters -/

/-- The timing parameters lie in the ranges of 00_scope.md 1.7, CalLong is at least CalShort and the budget at least MaxTask. -/
abbrev Timing.Legal (t : Timing) (postponeLimit : Nat) : Prop :=
  (100 ≤ t.baseInterval ∧ t.baseInterval ≤ 4000) ∧ (4 ≤ t.refreshBusy ∧ t.refreshBusy ≤ 200) ∧
    (16 ≤ t.calShort ∧ t.calShort ≤ 1000) ∧ (64 ≤ t.calLong ∧ t.calLong ≤ 4000) ∧ t.calShort ≤ t.calLong ∧
    (1 ≤ t.napExit ∧ t.napExit ≤ 50) ∧ (1 ≤ t.napEntry ∧ t.napEntry ≤ 50) ∧ (1 ≤ t.deepEntry ∧ t.deepEntry ≤ 200) ∧
    (1 ≤ t.deepExit ∧ t.deepExit ≤ 500) ∧ (1 ≤ t.deepSettle ∧ t.deepSettle ≤ 2000) ∧
    (50 ≤ t.windowBudget ∧ t.windowBudget ≤ 8000) ∧ (10 ≤ t.grantWait ∧ t.grantWait ≤ 10000) ∧
    (10 ≤ t.urgentGrantWait ∧ t.urgentGrantWait ≤ 100000) ∧ (10 ≤ t.releaseWait ∧ t.releaseWait ≤ 10000) ∧
    (100 ≤ t.tokenHold ∧ t.tokenHold ≤ 100000) ∧ (t.calPeriod = 0 ∨ (100000 ≤ t.calPeriod ∧ t.calPeriod ≤ 1000000000)) ∧
    maxTask t postponeLimit ≤ t.windowBudget

/-- The refresh policy lies in the ranges of 00_scope.md 1.7. -/
abbrev Policy.Legal (p : Policy) : Prop :=
  (1 ≤ p.postponeLimit ∧ p.postponeLimit ≤ 7) ∧ p.advanceLimit ≤ 4 ∧ (1 ≤ p.urgentAt ∧ p.urgentAt ≤ p.postponeLimit) ∧
    (1 ≤ p.gatherThreshold ∧ p.gatherThreshold ≤ 16)

/-- The thermal settings lie in the ranges of 00_scope.md 1.7. -/
abbrev Thermal.Legal (t : Thermal) : Prop :=
  -160 ≤ t.rise1 ∧ t.rise1 < t.rise2 ∧ t.rise2 < t.rise3 ∧ t.rise3 ≤ 511 ∧ t.hyst ≤ 40 ∧
    (10000 ≤ t.pollPeriod ∧ t.pollPeriod ≤ 10000000) ∧ t.calDrift ≤ 160

end Sys2Proof

namespace Sys2Proof.Machine

/-! ### Laws of one state -/

/-- The room the report queue keeps for completions, one table entry per tag, and the bounds of the two counts the host sets or
reads (R171, R177, R178, R181). -/
abbrev State.ReportLaw (s : State) : Prop :=
  s.records.length + s.outstanding.length ≤ 64 ∧ s.outstanding.length ≤ 16 ∧ (s.outstanding.map OutEntry.tag).Nodup ∧
    s.lost ≤ 255 ∧ 1 ≤ s.intThreshold ∧ s.intThreshold ≤ 64

/-- Every parameter set by a command lies in its range (R43, R66, R173). -/
abbrev State.ParameterLaw (s : State) : Prop :=
  s.timing.Legal s.policy.postponeLimit ∧ s.policy.Legal ∧ s.thermal.Legal

/-- Every balance lies between −PostponeLimit and +AdvanceLimit (R22). -/
abbrev State.BalanceLaw (s : State) : Prop :=
  ∀ r : Slot, -(s.policy.postponeLimit : Int) ≤ (s.rank r).balance ∧ (s.rank r).balance ≤ (s.policy.advanceLimit : Int)

/-- What the state of a negotiator says of its lines and of its channel's engine (R133 to R147). -/
abbrev Negotiator.StageLaw (n : Negotiator) (e : Engine) (drain : Bool) : Prop :=
  (n.state = .idle → n.qreq = false ∧ (e.flight.isSome = true → e.resetMark = true ∨ drain = true)) ∧
  (n.state = .requesting →
    n.qreq = true ∧ n.qgnt = false ∧ e.flight = none ∧ drain = false ∧ (n.escalated = true → n.qurg = true)) ∧
  (n.state = .stalled → n.qreq = true ∧ n.qurg = true ∧ n.qgnt = false ∧ e.flight = none ∧ drain = false) ∧
  (n.state = .opened → n.qreq = true ∧ n.qgnt = true ∧ e.flight.isSome = true ∧ e.resetMark = false ∧ drain = false) ∧
  (n.state = .draining →
    (n.lost = true → n.qreq = false) ∧ (n.lost = false → n.qreq = true ∧ n.qgnt = true) ∧ e.flight.isSome = true ∧
      e.resetMark = false ∧ drain = false) ∧
  (n.state = .releasing →
    n.qreq = false ∧ n.qgnt = true ∧ (e.flight.isSome = true → e.resetMark = true ∨ drain = true))

/-- One channel's negotiator and engine agree: each timer and mark runs or stands only in its stage, the lines follow the stage, a
task is in flight exactly in BUSY, and OPEN and DRAINING have one (R133, R142, R150, R151, R166). -/
abbrev ChannelLaw (n : Negotiator) (e : Engine) (drain : Bool) : Prop :=
  (n.grantTimer.isSome = true ↔ n.state = .requesting) ∧ (n.escalated = true → n.state = .requesting) ∧
    (n.releaseTimer.isSome = true ↔ n.state = .releasing) ∧ (n.releaseMark = true → n.state = .releasing) ∧
    (n.lost = true → n.state = .draining) ∧ (n.qurg = true → n.qreq = true) ∧ n.StageLaw e drain ∧ e.state ≠ .active ∧
    (e.state = .busy ↔ e.flight.isSome = true) ∧ (e.completion.isSome = true ↔ e.flight.isSome = true) ∧
    (e.sample.isSome = true → e.flight.isSome = true) ∧ (e.resetMark = true → e.flight.isSome = true)

/-- Both channels keep the handshake, and a drain lasts only while a task is in flight (R184). -/
abbrev State.HandshakeLaw (s : State) : Prop :=
  ChannelLaw (s.nego .a) (s.engine .a) s.drain ∧ ChannelLaw (s.nego .b) (s.engine .b) s.drain ∧
    (s.drain = true → (s.engine .a).flight.isSome = true ∨ (s.engine .b).flight.isSome = true)

/-- A slot's timers run only in the states R4 gives them, and its channel and group are absent exactly in ABSENT (R1, R4). -/
abbrev Rank.TimerLaw (k : Rank) : Prop :=
  (k.interval.isSome = true → k.state.served = true) ∧ (k.settle.isSome = true ↔ k.state = .settling) ∧
    (k.periodic.isSome = true → k.calStatus = .valid ∧ (k.state = .online ∨ k.state = .nap)) ∧
    (k.channel = none ↔ k.state = .absent) ∧ (k.group = none ↔ k.state = .absent)

/-- Whether a rank in this state can have a task of this kind in flight (R153, R164). -/
def FlightKind.fits : FlightKind → RankState → Bool
  | .task .deepEnter, st => st == .online || st == .nap
  | .task .deepExit, st => st == .deep
  | .fill, st | .task .refresh, st | .task .refreshNow, st | .task .calShort, st | .task .calLong, st | .task .napEnter, st
  | .task .napExit, st => st.served

/-- What a task in flight says of its rank: its state, and its stopped timers during a DEEP_ENTER (R102). -/
abbrev Rank.FlightLaw (k : Rank) (kind : FlightKind) : Prop :=
  kind.fits k.state = true ∧ (kind = .task .deepEnter → k.interval = none ∧ k.periodic = none)

/-- A channel's tasks and the task in flight are of ranks configured on it and in service (R113, R118, R121). -/
abbrev State.PlaceLaw (s : State) (c : Chan) : Prop :=
  (∀ t ∈ (s.queue c).tasks,
    (s.rank t.rank).channel = some c ∧ (s.rank t.rank).state ≠ .absent ∧ (s.rank t.rank).state ≠ .offline) ∧
  (∀ f ∈ (s.engine c).flight, (s.rank f.rank).channel = some c ∧ (s.rank f.rank).FlightLaw f.kind)

/-- What a power task says of its rank (R95, R100, R101, R107): a DEEP_EXIT is of a rank in DEEP and, if it is not the host's, URGENT;
a DEEP_ENTER is the host's, of a rank in ONLINE or NAP that holds no token, and waits only below band 3. -/
abbrev State.PowerTaskLaw (s : State) (x : Task) : Prop :=
  (x.kind = .deepExit → (s.rank x.rank).state = .deep ∧
    ((x.origin = .host ∧ (x.cls = .power ∨ x.cls = .urgent)) ∨ (x.origin = .thermal ∧ x.cls = .urgent))) ∧
  (x.kind = .deepEnter → x.origin = .host ∧ x.cls = .power ∧
    ((s.rank x.rank).state = .online ∨ (s.rank x.rank).state = .nap) ∧ (x.executing = false → (s.rank x.rank).band ≠ 3) ∧
    ∀ g : GroupId, (s.group g).holder ≠ some x.rank)

/-- A channel's queue (R107, R109, R113, R117, R121): one task for a rank in each place and 32 in all, none for a rank in SETTLING and
none but a DEEP_EXIT for one in DEEP, a DEEP_ENTER beside at most the refresh task it absorbs as it starts, the executing task the one
in flight, and a DEEP_EXIT on its way for every rank of the channel in DEEP and band 3 while the channel is not resetting. -/
abbrev State.QueueLaw (s : State) (c : Chan) : Prop :=
  ((s.queue c).tasks.map (fun x => (x.rank, x.kind.place))).Nodup ∧ (s.queue c).tasks.length ≤ 32 ∧
    (∀ x ∈ (s.queue c).tasks, s.PowerTaskLaw x) ∧
    (∀ x ∈ (s.queue c).tasks, (s.rank x.rank).state ≠ .settling ∧ ((s.rank x.rank).state = .deep → x.kind = .deepExit)) ∧
    (∀ x ∈ (s.queue c).tasks, x.kind = .deepEnter → ∀ y ∈ (s.queue c).tasks, y.rank = x.rank → y.kind ≠ .deepEnter →
      y.kind = .refresh ∧ x.executing = false) ∧
    (∀ x ∈ (s.queue c).tasks, x.executing = true → ∃ f ∈ (s.engine c).flight, f.rank = x.rank ∧ f.kind = .task x.kind) ∧
    (∀ f ∈ (s.engine c).flight,
      f.kind = .fill ∨ ∃ x ∈ (s.queue c).tasks, x.executing = true ∧ x.rank = f.rank ∧ f.kind = .task x.kind) ∧
    (∀ r : Slot, (s.rank r).channel = some c → (s.rank r).state = .deep → (s.rank r).band = 3 → (s.engine c).resetMark = false →
      ∃ x ∈ (s.queue c).tasks, x.rank = r ∧ x.kind = .deepExit ∧ (x.cls = .urgent ∨ x.executing = true))

/-- The entries a group holds for ranks: the held one, if there is one, and the waiting ones. -/
def CalGroup.entries (x : CalGroup) : List Entry := x.heldEntry.toList ++ x.waiting

/-- A group's token (R70 to R73, R75, R85): the fields of a FREE group are clear; in HELD and CALIBRATING the held entry's rank is the
holder and its channel's queue has the entry's calibration task, executing exactly in CALIBRATING; each rank has one entry at most, in
its own group, LONG where the rank is NEVER, with two revocations at most. -/
abbrev State.TokenLaw (s : State) (g : GroupId) : Prop :=
  ((s.group g).state = .free → (s.group g).holder = none ∧ (s.group g).heldEntry = none) ∧
  ((s.group g).tokenTimer.isSome = true ↔ (s.group g).state = .held) ∧
  ((s.group g).discard = true → (s.group g).state = .calibrating) ∧
  ((s.group g).state ≠ .free → ∃ e ∈ (s.group g).heldEntry, (s.group g).holder = some e.rank ∧
    ∃ c ∈ (s.rank e.rank).channel, ∃ x ∈ (s.queue c).tasks, x.rank = e.rank ∧ x.kind = calTaskKind e.kind ∧ x.cls = .cal ∧
      x.tag = e.tag ∧ (x.executing = true ↔ (s.group g).state = .calibrating)) ∧
  ((s.group g).entries.map Entry.rank).Nodup ∧
  ∀ e ∈ (s.group g).entries, (s.rank e.rank).group = some g ∧ (s.rank e.rank).state ≠ .offline ∧ e.revocations ≤ 2 ∧
    ((s.rank e.rank).calStatus = .never → e.kind = .long)

/-- Queues and groups agree: each keeps its own law, and a queue holds a calibration task only for a rank that holds its group's token
(R72, R117). -/
abbrev State.WorkLaw (s : State) : Prop :=
  s.QueueLaw .a ∧ s.QueueLaw .b ∧ (∀ g : GroupId, s.TokenLaw g) ∧
    ∀ x ∈ (s.queue .a).tasks ++ (s.queue .b).tasks, x.kind.place = .calibration →
      ∃ g ∈ (s.rank x.rank).group, (s.group g).holder = some x.rank

/-- The timers follow the rank states, and no work is held for a slot that is not in service (R1, R4, R121). -/
abbrev State.RankLaw (s : State) : Prop := (∀ r : Slot, (s.rank r).TimerLaw) ∧ s.PlaceLaw .a ∧ s.PlaceLaw .b

/-- A sensor record agrees with itself and with the band source (R47, R55, R56). -/
abbrev Rank.SensorLaw (k : Rank) : Prop :=
  (k.sensor = none ↔ k.sensorStatus = .absent) ∧ (k.lastTemp.isSome = true ↔ k.sensorStatus = .good) ∧
    (k.sensorStatus = .failed → k.sensorFailures = 3 ∧ k.bandSource = .fallback) ∧
    (k.sensorStatus = .good → k.bandSource = .sensor) ∧ (k.sensorStatus = .absent → k.bandSource = .host) ∧
    (k.sensorStatus ≠ .failed → k.sensorFailures ≤ 2)

/-- The polling state agrees with itself (R48, R61). -/
abbrev Monitor.Law (m : Monitor) : Prop :=
  (m.bus = .idle ↔ m.readSlot = none) ∧ (m.polling = true ↔ m.pollTimer.isSome = true) ∧ m.pulses ≤ 9 ∧
    (m.stopping = false → m.pulses ≤ 8)

/-- The thermal monitor's records and polling state agree, and a read that is not discarded is of a slot with a sensor (R47, R48,
R53). -/
abbrev State.SensorLaw (s : State) : Prop :=
  (∀ r : Slot, (s.rank r).SensorLaw) ∧ s.monitor.Law ∧
    (∀ r ∈ s.monitor.readSlot, s.monitor.discard = false → (s.rank r).sensor.isSome = true)

/-- A channel has taken its conditions: none waits in IDLE with QGNT low, and QURG is high wherever the urgency condition holds in
REQUESTING or OPEN (R130, R134, R136, R139). -/
abbrev State.SettledOn (s : State) (c : Chan) : Prop :=
  ((s.nego c).state = .idle → (s.nego c).qgnt = false → s.requestCondition c = false) ∧
    ((s.nego c).state = .requesting ∨ (s.nego c).state = .opened → s.urgencyCondition c = true → (s.nego c).qurg = true)

/-- Both channels have taken their conditions, as every event leaves them. -/
abbrev State.Settled (s : State) : Prop := s.SettledOn .a ∧ s.SettledOn .b

/-- Every law of this file at once. -/
abbrev State.Safe (s : State) : Prop :=
  s.ReportLaw ∧ s.ParameterLaw ∧ s.BalanceLaw ∧ s.HandshakeLaw ∧ s.RankLaw ∧ s.WorkLaw ∧ s.SensorLaw ∧ s.Settled

end Sys2Proof.Machine

namespace Sys2Proof

open Sys2Proof.Machine

/-! ### Submissions -/

/-- The row of the table a host command is. -/
def HostCommand.instr (tag : Tag) : HostCommand → Instr
  | .configureRank slot channel group address present => .configureRank tag slot channel group address present
  | .removeRank slot => .removeRank tag slot
  | .bringOnline slot => .bringOnline tag slot
  | .takeOffline slot => .takeOffline tag slot
  | .queryRank slot => .queryRank tag slot
  | .setBand slot band => .setBand tag slot band
  | .setTiming f => .setTiming tag f
  | .setRefreshPolicy f => .setRefreshPolicy tag f
  | .setThermal f => .setThermal tag f
  | .flushHost channel => .flushHost tag channel
  | .resetChannel channel => .resetChannel tag channel
  | .refreshNow slot count => .refreshNow tag slot count
  | .calibrate slot kind => .calibrate tag slot kind
  | .napEnter slot => .napEnter tag slot
  | .napExit slot => .napExit tag slot
  | .deepEnter slot => .deepEnter tag slot
  | .deepExit slot => .deepExit tag slot

/-- The range checks a host command makes first (R5 step 1, R43 step 1, R66, R124, R173 step 1, R174), each with the position of its
field, in rising order of positions. -/
def HostCommand.rangeChecks : HostCommand → List (Nat × Bool)
  | .configureRank slot channel group address present => configureChecks slot channel group address present
  | .removeRank slot | .bringOnline slot | .takeOffline slot | .queryRank slot | .napEnter slot | .napExit slot
  | .deepEnter slot | .deepExit slot => slotChecks slot
  | .setBand slot band => bandChecks slot band
  | .setTiming f => timingChecks (timingOf f)
  | .setRefreshPolicy f => policyChecks f
  | .setThermal f => thermalChecks f
  | .flushHost channel | .resetChannel channel => channelChecks channel
  | .refreshNow slot count => countChecks slot count
  | .calibrate slot kind => calibrateChecks slot kind

end Sys2Proof

namespace Sys2Proof.Machine

/-- A submission with this tag passes the checks of R170, and its event finds the conditions taken (R130). -/
abbrev State.Admits (s : State) (tag : Tag) : Prop :=
  s.inReset = false ∧ s.drain = false ∧ (∀ e ∈ s.outstanding, e.tag ≠ tag) ∧ s.outstanding.length < 16 ∧
    s.records.length + s.outstanding.length < 64 ∧ s.Settled

/-- No work carries this tag: no task, no waiting-list entry and no held entry (R171: a tag travels with the work of an outstanding
command alone). -/
abbrev State.Fresh (s : State) (tag : Tag) : Prop :=
  (∀ t ∈ (s.queue .a).tasks, t.tag ≠ some tag) ∧ (∀ t ∈ (s.queue .b).tasks, t.tag ≠ some tag) ∧
    ∀ g : GroupId, (∀ e ∈ (s.group g).waiting, e.tag ≠ some tag) ∧ ∀ e ∈ (s.group g).heldEntry, e.tag ≠ some tag

/-- A rank has no part in its group: it holds no token and has no entry in the list (R73, R76). -/
abbrev State.NoStanding (s : State) (g : GroupId) (r : Slot) : Prop :=
  (s.group g).holder ≠ some r ∧ ∀ e ∈ (s.group g).waiting, e.rank ≠ r

/-- The state with a command accepted: its record staged, the submit status ACCEPTED, its entry in the table (R169, R170, R171). -/
def State.taken (s : State) (tag : Tag) (c : HostCommand) : State :=
  { s with
    staging := stageRecord tag c s.staging, submitStatus := .accepted, outstanding := s.outstanding ++ [outEntryOf tag c] }

/-- The completion of a host command as it is written now (R175). -/
def State.completionOf (s : State) (tag : Tag) (c : HostCommand) (status : Status) (detail : Detail) : Report :=
  .completion tag c.kind status (slotFieldOf c.slotByte) (chanFieldOf c) detail s.timestamp

/-- The state with a command accepted and answered in the one event, and nothing else changed: its table entry is taken and freed,
and its completion joins the report queue (R171, R172). -/
def State.answered (s : State) (tag : Tag) (c : HostCommand) (status : Status) (detail : Detail) : State :=
  { s with
    staging := stageRecord tag c s.staging, submitStatus := .accepted,
    records := s.records ++ [s.completionOf tag c status detail] }

/-- What the end of a soft-reset drain at `now` leaves (R69, R132, R147, R168, R184): every block at its soft-reset values with the lines
as they stand, and the stop condition formed where a read was in progress and the data line `sda` is high (entry 31). The clock, the
waiting commands and the last word read are the model's and are kept (entries 1, 4, 18). -/
def State.drained (s : State) (now : Nat) (sda : Bool) : State :=
  { State.reset with
    now := now, tickBase := now, pending := s.pending, readData := s.readData
    monitor := { State.reset.monitor with
      pollTimer := some (now + 100000), abandonStop := decide (s.monitor.bus ≠ .idle ∧ sda = true) }
    negotiators :=
      { a := { State.reset.nego .a with qgnt := (s.nego .a).qgnt, qrcl := (s.nego .a).qrcl },
        b := { State.reset.nego .b with qgnt := (s.nego .b).qgnt, qrcl := (s.nego .b).qrcl } } }

/-- The ABORTED completions of these tags, in this order (R12, R115). -/
def State.abortTags (s : State) (tags : List Tag) : State := tags.foldl (fun s t => s.complete t .aborted .none) s

/-- The monitor with its read discarded if it reads this slot (R8, R53). -/
def Monitor.discarding (m : Monitor) (r : Slot) : Monitor := if m.readSlot = some r then { m with discard := true } else m

/-- A negotiator that takes its conditions at the end of an event: the request from IDLE with QGNT low, its grant timer running to
`due`, and QURG in REQUESTING and OPEN (R134, R136, R139). -/
def Negotiator.takes (n : Negotiator) (urgency request : Bool) (due : Nat) : Negotiator :=
  if n.state = .idle ∧ n.qgnt = false ∧ request = true then
    { n with state := .requesting, qreq := true, qurg := urgency, grantTimer := some due, escalated := false }
  else if (n.state = .requesting ∨ n.state = .opened) ∧ urgency = true then { n with qurg := true }
  else n

/-- A list extended at its end, by elements that all satisfy `P`. -/
def ExtendedBy {α : Type} (old new : List α) (P : α → Prop) : Prop := ∃ l, new = old ++ l ∧ ∀ x ∈ l, P x

/-- A queue with a task at the end of its arrival order, under the next sequence number (R114). -/
def Queue.insert (q : Queue) (t : Task) : Queue := { tasks := q.tasks ++ [{ t with seq := q.seq }], seq := q.seq + 1 }

/-- A queue without the tasks that are executing, or without those that are not. -/
def Queue.keepExecuting (q : Queue) (executing : Bool) : Queue :=
  { q with tasks := q.tasks.filter (fun t => t.executing == executing) }

/-- The internal refresh tasks of a channel's queue (R29). -/
def State.refreshTasks (s : State) (c : Chan) : List Task := (s.queue c).tasks.filter (fun x => x.kind = .refresh)

/-- A rank of channel `ch` with its band written and the planner's part in the change taken (R23, R25 to R28, R30, R65). A rise to a
length shorter than the one the interval timer was started with gives the running interval that length, or, where it has run
already, takes its expiry: the debit, or the overrun with its notice, the timer restarted with a full interval, the urgent flag with
its notice, and the internal refresh task reclassed or created. Any other change leaves the planner's fields as they are. That the new
length also holds where an earlier rise had cut the interval shorter is the model's reading (entry 10). -/
def State.withBand (s : State) (r : Slot) (ch : Chan) (b : Band) : State :=
  let k := s.rank r
  let length := s.timing.baseInterval / 2 ^ min b.val 2
  let cut (it : Interval) : Bool :=
    decide (k.band < b ∧ length < s.timing.baseInterval / 2 ^ min k.band.val 2 ∧ length < it.full)
  let expires : Bool := k.interval.any (fun it => cut it && decide (it.started + length ≤ s.now))
  let past := k.balance ≤ -(s.policy.postponeLimit : Int)
  let balance := if past then k.balance else k.balance - 1
  let overruns := if past then min 65535 (k.overruns + 1) else k.overruns
  let urgent := decide (balance ≤ -(s.policy.urgentAt : Int))
  let u1 := if past then s.notice (.refreshOverrun r (some ch) overruns) else s
  let u2 := if urgent = true ∧ k.urgent = false then u1.notice (.rankUrgent r (some ch) balance) else u1
  let cls := if urgent = true then TaskClass.urgent else .routine
  let reclass (x : Task) : Task := if x.rank = r ∧ x.kind = .refresh then { x with cls := cls } else x
  let q : Queue := { s.queue ch with tasks := (s.queue ch).tasks.map reclass }
  if expires = true then
    ({ u2 with ranks := s.ranks.set r { k with
        band := b, balance := balance, overruns := overruns, urgent := urgent
        interval := some { started := s.now, full := length, length := length } } }).setQueue ch
      (if balance < 0 ∧ (∀ x ∈ (s.queue ch).tasks, x.rank = r → x.kind ≠ TaskKind.refresh) ∧ (s.engine ch).resetMark = false then
        q.insert { seq := 0, rank := r, kind := .refresh, cls := cls, count := none, tag := none, origin := .planner,
                   executing := false }
      else q)
  else { s with ranks := s.ranks.set r { k with
    band := b, interval := k.interval.map (fun it => if cut it = true then { it with length := length } else it) } }

/-- What a band handed on leaves (R65), where `w` has the planner's part taken: the rank records and the internal refresh tasks of `w`,
its records before any other, and where nothing `further` is to be done no more than the conditions taken at the end. -/
def State.HandsOn (w t : State) (further : Prop) : Prop :=
  t.ranks = w.ranks ∧ w.records <+: t.records ∧ (∀ d : Chan, t.refreshTasks d = w.refreshTasks d) ∧ (¬ further → t = w.settle)

/-- What a band that becomes 3 makes of a rank's power work (R107), from the state before the event to the state after it: a DEEP_ENTER
that waits leaves with THERMAL and the rank's state, one that executes stays; for a rank in DEEP an exit is created, or the host's
raised, with its notice, and a channel that is resetting, an exit that is URGENT and one that executes are left alone. -/
abbrev State.TakesCriticalBand (s t : State) (r : Slot) : Prop :=
  ∀ c ∈ (s.rank r).channel,
    let power := (s.queue c).tasks.filter (fun x => x.rank = r ∧ x.kind.place = .power)
    let told (cause : ExitCause) : Prop :=
      .notice (.thermalExit r (some c) cause) s.timestamp ∈ t.records ∨ min 255 (s.lost + 1) ≤ t.lost
    (∀ x : Task, power = [x] → x.kind = .deepEnter → (s.rank r).state ≠ .deep →
      (x.executing = true → x ∈ (t.queue c).tasks) ∧
      (x.executing = false → (∀ y ∈ (t.queue c).tasks, y.rank = r → y.kind ≠ .deepEnter) ∧
        ∀ e ∈ x.tag.bind s.outEntry, e.report .thermal (.rankState (s.rank r).state) s.timestamp ∈ t.records)) ∧
    ((s.rank r).state = .deep → (s.rank r).interval = none →
      ((s.engine c).resetMark = true → t.queue c = s.queue c) ∧
      ((s.engine c).resetMark = false →
        (power = [] → told .deep ∧ t.queue c = (s.queue c).insert
          { seq := 0, rank := r, kind := .deepExit, cls := .urgent, count := none, tag := none, origin := .thermal,
            executing := false }) ∧
        (∀ x : Task, power = [x] → x.kind = .deepExit →
          (x.executing = false → x.cls = .power → told .raised ∧ t.queue c = { s.queue c with
            tasks := (s.queue c).tasks.map (fun y => if y = x then { y with cls := .urgent } else y) }) ∧
          (x.executing = true ∨ x.cls = .urgent → t.queue c = s.queue c))))

/-- The command's outcome is a read of slot `r` that ends failed with outcome `o` at time `now`, leaving the polling state `m` (R53, R55):
a discarded read leaves no trace, a failure is counted, and the third in a row of an UNREAD or GOOD sensor puts it on the fallback
band with SENSOR_FAILED, the planner takes the change of band, and a band that so becomes 3 is taken by the power logic. No other
slot's record changes. -/
abbrev State.FailsRead (s : State) (r : Slot) (o : ReadOutcome) (now : Nat) (m : Monitor) (out : Result) : Prop :=
  (s.monitor.discard = true → out = .next { s with now := now, monitor := m }) ∧
  (s.monitor.discard = false →
    ((s.rank r).sensorStatus = .unread ∨ (s.rank r).sensorStatus = .good → (s.rank r).sensorFailures < 2 →
      out = .next { s with
        now := now, monitor := m
        ranks := s.ranks.set r { s.rank r with sensorFailures := (s.rank r).sensorFailures + 1 } }) ∧
    ((s.rank r).sensorStatus = .failed → out = .next { s with
      now := now, monitor := m
      ranks := s.ranks.set r { s.rank r with sensorFailures := min 3 ((s.rank r).sensorFailures + 1) } }) ∧
    ((s.rank r).sensorStatus = .unread ∨ (s.rank r).sensorStatus = .good → 2 ≤ (s.rank r).sensorFailures →
      ∃ t, out = .next t ∧ t.monitor = m ∧ (∀ q : Slot, q ≠ r → t.rank q = s.rank q) ∧
        (t.rank r).sensorStatus = .failed ∧ (t.rank r).lastTemp = none ∧ (t.rank r).sensorFailures = 3 ∧
        (t.rank r).bandSource = .fallback ∧ (t.rank r).band = s.thermal.fallbackBand ∧
        (t.rank r).state = (s.rank r).state ∧
        (s.notice (.sensorFailed r (s.rank r).channel o)).records <+: t.records ∧
        ((s.rank r).band ≠ 3 → s.thermal.fallbackBand = 3 → s.TakesCriticalBand t r) ∧
        ∀ ch : Chan, (s.rank r).channel = some ch → ((s.rank r).interval.isSome = true → (s.rank r).state.served = true) →
          ((({ s with
            now := now, monitor := m
            ranks := s.ranks.set r { s.rank r with
              sensorStatus := .failed, lastTemp := none, sensorFailures := 3, bandSource := .fallback } }).notice
            (.sensorFailed r (some ch) o)).withBand r ch s.thermal.fallbackBand).HandsOn t
            ((s.rank r).band ≠ 3 ∧ s.thermal.fallbackBand = 3)))

end Sys2Proof.Machine
end

