-- ==== Sys2Proof/Certificates/Slice0/Obligations.lean ====
section
/-! DEFINITION. The statements for the provers. A statement about a command says the whole next state wherever that is short: an
equation `exec … s = .next { … with … }` changes the named fields and no other. `State.Admits` is the check of R170 passed,
`State.answered` and `State.taken` what acceptance leaves, and `State.settle` the end of every event, where the negotiators take
their conditions (R130). -/

open Sys2Proof Sys2Proof.Machine

/-! ### The step -/

/-- A step takes the command at the front of the queue and runs it on the state with the queue's rest. -/
def Obligations.StepTakesFrontCommand : Prop :=
  ∀ (s : State) (c : Instr) (rest : List Instr), s.pending = c :: rest → step s = exec c { s with pending := rest }

/-- The model's own conventions, not the spec's: an empty queue lets one TU pass (entry 1), the expiry of a stopped timer does
nothing (entry 2), an edge to the level a line has does nothing (entry 3), and nothing but RESET_N_RISE and POWER_ON_RESET acts
while RESET_N is low, nor RESET_N_RISE while it is high (entry 4). -/
def Obligations.ModelConventions : Prop :=
  ∀ s : State,
    (s.pending = [] → step s = .next { s with now := s.now + 1 }) ∧
    (s.inReset = true → ∀ i : Instr, i ≠ .powerOnReset → (∀ a b, i ≠ .resetNRise a b) → exec i s = .next s) ∧
    (s.inReset = false → ∀ a b, exec (.resetNRise a b) s = .next s) ∧
    (s.inReset = false → s.Settled →
      (∀ c, (s.nego c).qgnt = true → exec (.qgntRise c) s = .next s) ∧
      (∀ c, (s.nego c).qgnt = false → exec (.qgntFall c) s = .next s) ∧
      (∀ c, (s.nego c).qrcl = true → exec (.qrclRise c) s = .next s) ∧
      (∀ c, (s.nego c).qrcl = false → exec (.qrclFall c) s = .next s) ∧
      (∀ r, (s.rank r).interval = none → exec (.intervalExpiry r) s = .next s) ∧
      (∀ r, (s.rank r).settle = none → exec (.settleExpiry r) s = .next s) ∧
      (∀ r, (s.rank r).periodic = none → exec (.periodicExpiry r) s = .next s) ∧
      (∀ g, (s.group g).tokenTimer = none → exec (.tokenHoldExpiry g) s = .next s) ∧
      (∀ c, (s.nego c).grantTimer = none → exec (.grantTimerExpiry c) s = .next s) ∧
      (∀ c, (s.nego c).releaseTimer = none → exec (.releaseTimerExpiry c) s = .next s) ∧
      (∀ c x, (s.engine c).completion = none → exec (.taskCompletion c x) s = .next s) ∧
      (∀ c x, (s.engine c).sample = none → exec (.calResultSample c x) s = .next s) ∧
      (∀ x y, s.monitor.pollTimer = none → exec (.pollTimerExpiry x y) s = .next s) ∧
      (∀ e, s.monitor.bus = .idle → exec (.attemptEnd e) s = .next s) ∧
      (∀ n x, s.monitor.bus = .idle → exec (.clockStretchTimeout n x) s = .next s) ∧
      (∀ n x, s.monitor.bus ≠ .recovery → exec (.recoveryPulse n x) s = .next s))

/-- Every command, in every state, answers a next state, and none touches the queue of waiting commands. That no command of any
row stops is read from the spec, which gives every submission an outcome (9.1) and no command a fault (entry 24). That commands
answer without an effect while RESET_N is low (10.7), and that the waiting queue is kept, are the model's choices (entry 4). -/
def Obligations.EveryCommandAnswersNext : Prop :=
  ∀ (i : Instr) (s : State), ∃ t, exec i s = .next t ∧ t.pending = s.pending

/-! ### Resets -/

/-- What power-on reset leaves in every block, at the values the spec gives. -/
def Obligations.PowerOnValues : Prop :=
  (∀ r : Slot, State.reset.rank r =
    { state := .absent, channel := none, group := none, sensor := none, calStatus := .never, failures := 0, calTemp := none,
      balance := 0, overruns := 0, urgent := false, band := 0, bandSource := .host, interval := none, periodic := none,
      settle := none, sensorStatus := .absent, lastTemp := none, sensorFailures := 0 }) ∧
  State.reset.monitor.polling = true ∧ State.reset.monitor.pollTimer = some (State.reset.now + 100000) ∧
  State.reset.monitor.cursor = 0 ∧ State.reset.monitor.bus = .idle ∧ State.reset.monitor.readSlot = none ∧
  (∀ g : GroupId, State.reset.group g =
    { state := .free, holder := none, heldEntry := none, waiting := [], tokenTimer := none, discard := false }) ∧
  (∀ c : Chan, State.reset.queue c = { tasks := [], seq := 0 } ∧
    (State.reset.nego c).state = .idle ∧ (State.reset.nego c).qreq = false ∧ (State.reset.nego c).qurg = false ∧
    (State.reset.nego c).grantTimer = none ∧ (State.reset.nego c).releaseTimer = none ∧
    (State.reset.nego c).escalated = false ∧ (State.reset.nego c).releaseMark = false ∧ (State.reset.nego c).lost = false ∧
    (State.reset.nego c).cause = .done ∧
    State.reset.engine c =
      { state := .standby, budget := 0, flight := none, completion := none, sample := none, sampled := none, pointer := 0,
        resetMark := false }) ∧
  State.reset.timing =
    { baseInterval := 780, refreshBusy := 26, calShort := 64, calLong := 256, napExit := 3, napEntry := 2, deepEntry := 5,
      deepExit := 20, deepSettle := 52, windowBudget := 400, grantWait := 200, urgentGrantWait := 1000, releaseWait := 50,
      tokenHold := 2000, calPeriod := 12800000 } ∧
  State.reset.policy = { postponeLimit := 5, advanceLimit := 2, urgentAt := 3, gatherThreshold := 2, advanceEnable := true } ∧
  State.reset.thermal =
    { rise1 := 340, rise2 := 380, rise3 := 420, hyst := 8, pollPeriod := 100000, fallbackBand := 2, calDrift := 40,
      busSpeed := .khz100 } ∧
  State.reset.drain = false ∧ State.reset.timestamp = 0 ∧ (∀ i : Fin 8, State.reset.staging[i] = 0) ∧
  State.reset.submitStatus = .none ∧ State.reset.outstanding = [] ∧ State.reset.records = [] ∧ State.reset.lost = 0 ∧
  State.reset.intEnable = false ∧ State.reset.intThreshold = 1 ∧ State.reset.int = false ∧
  (∀ r : Slot, State.reset.rankCopies[r] = State.reset.rankWords r) ∧
  (∀ g : GroupId, State.reset.groupCopies[g] = State.reset.groupWords g)

/-- RESET_N low puts every block at its power-on values at once, whatever was going on, and its rise leaves them there with QGNT and
QRCL taken as the lines then stand (R132, 10.7). The clock and the waiting commands are the model's and are kept (entries 1, 4), and
that the fields of the bus's progress and the last word read then hold the values of State.reset is the model's choice (entries 9,
18, 31). -/
def Obligations.ResetPin : Prop :=
  ∀ s : State,
    exec .powerOnReset s = .next { State.reset with
      inReset := true, now := s.now, tickBase := s.now, pending := s.pending
      monitor := { State.reset.monitor with pollTimer := some (s.now + 100000) }
      negotiators :=
        { a := { State.reset.nego .a with qgnt := (s.nego .a).qgnt, qrcl := (s.nego .a).qrcl },
          b := { State.reset.nego .b with qgnt := (s.nego .b).qgnt, qrcl := (s.nego .b).qrcl } } } ∧
    (s.inReset = true → ∀ la lb : LineLevels, exec (.resetNRise la lb) s = .next { State.reset with
      now := s.now, tickBase := s.now, pending := s.pending
      monitor := { State.reset.monitor with pollTimer := some (s.now + 100000) }
      negotiators :=
        { a := { State.reset.nego .a with qgnt := la.qgnt, qrcl := la.qrcl },
          b := { State.reset.nego .b with qgnt := lb.qgnt, qrcl := lb.qrcl } } })

/-- A CONTROL write with the soft-reset bit set, none in progress: where no task is in flight the drain ends as part of the write
and every block takes its soft-reset values with the lines as they stand, a sensor read in progress being abandoned with a stop
condition where the data line is high and without one where it is low (R69). Where a task is in flight, the drain bit is set, each
negotiator drops its request, and ranks, engines, table, reports and the sensor read are as they were (R69, R147, R184). During a
drain the other fields alone are taken. That the clock, the waiting commands and the last word read are kept, the values the fields
of the bus's progress take, and the data line as an operand with the stop condition recorded in the polling state, are the model's
choices (entries 1, 4, 9, 18, 31). -/
def Obligations.SoftResetDrain : Prop :=
  ∀ (s : State) (fields : ControlFields) (sda : Bool), s.inReset = false →
    (s.drain = false → (s.engine .a).flight = none → (s.engine .b).flight = none →
      exec (.softReset fields sda) s = .next (s.drained s.now sda)) ∧
    (s.drain = false → (s.engine .a).flight.isSome = true ∨ (s.engine .b).flight.isSome = true →
      ∃ t, exec (.softReset fields sda) s = .next t ∧ t.drain = true ∧ t.intEnable = fields.enable ∧
        t.ranks = s.ranks ∧ t.engines = s.engines ∧ t.monitor = s.monitor ∧ t.outstanding = s.outstanding ∧
        t.records = s.records ∧ t.staging = s.staging ∧ t.submitStatus = s.submitStatus ∧
        ∀ c : Chan, (t.nego c).qreq = false ∧ (t.nego c).qurg = false ∧ (t.nego c).grantTimer = none ∧
          (t.nego c).escalated = false ∧ (t.nego c).qgnt = (s.nego c).qgnt ∧
          (t.nego c).state = (if (s.nego c).qgnt = true then .releasing else .idle) ∧
          ((s.nego c).qgnt = true → (t.nego c).cause = .drain)) ∧
    (s.drain = true → s.Settled → exec (.softReset fields sda) s = .next { s with
      intEnable := fields.enable
      intThreshold :=
        if 1 ≤ fields.threshold.toNat ∧ fields.threshold.toNat ≤ 64 then fields.threshold.toNat else s.intThreshold })

/-! ### Submissions -/

/-- The checks of a submission, in their order, and acceptance (R170). An admitted command is taken on the state that has
accepted it, and the conditions at the end. That the record is staged in the same event is the model's choice (entry 6). -/
def Obligations.SubmissionChecks : Prop :=
  ∀ s : State, s.inReset = false → s.Settled →
    (∀ (tag : Tag) (c : HostCommand),
      (s.drain = true → exec (c.instr tag) s =
        .next { s with staging := stageRecord tag c s.staging, submitStatus := .resetting }) ∧
      (s.drain = false → (∃ e ∈ s.outstanding, e.tag = tag) → exec (c.instr tag) s =
        .next { s with staging := stageRecord tag c s.staging, submitStatus := .tagInUse }) ∧
      (s.drain = false → (∀ e ∈ s.outstanding, e.tag ≠ tag) →
        16 ≤ s.outstanding.length ∨ 64 ≤ s.records.length + s.outstanding.length → exec (c.instr tag) s =
        .next { s with staging := stageRecord tag c s.staging, submitStatus := .tableFull }) ∧
      (s.Admits tag → exec (c.instr tag) s = .next (takeCommand tag c (s.taken tag c)).settle)) ∧
    (∀ word0 : Word, (word0.extractLsb' 0 8).toNat = 0 ∨ 17 < (word0.extractLsb' 0 8).toNat →
      exec (.unknownCommand word0) s = .next { s with
        staging := s.staging.set 0 word0, submitStatus := if s.drain = true then .resetting else .unknownCommand })

/-- The first two checks of an accepted command (R5, R176): the lowest field out of range ends it with BAD_PARAMETER and that
field's position, and then the state its rank is in may end it with the status of R5's table. A command so ended changes nothing
else. That the record is staged in the same event is the model's choice (entry 6). -/
def Obligations.FieldAndStateChecks : Prop :=
  (∀ (s : State) (tag : Tag) (c : HostCommand) (pos : Nat), s.Admits tag → (pos, false) ∈ c.rangeChecks →
    (∀ p ∈ c.rangeChecks, p.1 < pos → p.2 = true) →
    exec (c.instr tag) s = .next (s.answered tag c .badParameter (.position pos))) ∧
  (∀ (s : State) (tag : Tag) (c : HostCommand) (slot : BitVec 8) (r : Slot) (status : Status), s.Admits tag →
    (∀ p ∈ c.rangeChecks, p.2 = true) → c.slotByte = some slot → slotOf slot = some r →
    stateCheck c.kind (s.rank r).state = some status → exec (c.instr tag) s = .next (s.answered tag c status .none)) ∧
  (let yes : Option Status := none
   let rs := some Status.rankState
   let rb := some Status.rankBusy
   [(CommandKind.configureRank, [yes, yes, rs, rs, rs, rs, rs]), (.removeRank, [rs, yes, rs, rs, rs, rs, rs]),
    (.bringOnline, [rs, yes, rs, rs, rs, rs, rs]), (.takeOffline, [rs, rs, yes, yes, yes, rb, yes]),
    (.queryRank, [yes, yes, yes, yes, yes, yes, yes]), (.setBand, [rs, yes, yes, yes, yes, rs, yes]),
    (.refreshNow, [rs, rs, yes, yes, rs, rs, yes]), (.calibrate, [rs, rs, yes, yes, rs, rs, yes]),
    (.napEnter, [rs, rs, yes, rs, rs, rs, rs]), (.napExit, [rs, rs, rs, yes, rs, rs, rs]),
    (.deepEnter, [rs, rs, yes, yes, rs, rs, rs]), (.deepExit, [rs, rs, rs, rs, yes, rs, rs])].all (fun row =>
      [RankState.absent, .offline, .online, .nap, .deep, .settling, .faulted].map (stateCheck row.1) == row.2) = true)

/-! ### Commands that configure and retire ranks -/

/-- CONFIGURE_RANK (R6, R7, R8) and REMOVE_RANK (R9): the whole next state. That the record is staged in the same event is the
model's choice (entry 6). -/
def Obligations.ConfigureAndRemoveRank : Prop :=
  (∀ (s : State) (tag : Tag) (slot channel group : BitVec 8) (address : BitVec 7) (present : Bool) (r : Slot) (ch : Chan)
      (g : GroupId), s.Admits tag → s.RankLaw → slotOf slot = some r → chanOf channel = some ch → groupOf group = some g →
    (present = true → 0x08 ≤ address.toNat ∧ address.toNat ≤ 0x77) →
    (s.rank r).state = .absent ∨ (s.rank r).state = .offline →
    ((present = true → ∀ q : Slot, q ≠ r → (s.rank q).state ≠ .absent → (s.rank q).sensor ≠ some address) →
      exec (.configureRank tag slot channel group address present) s = .next
        { s.answered tag (.configureRank slot channel group address present) .done .none with
          monitor := s.monitor.discarding r
          ranks := s.ranks.set r { s.rank r with
            state := .offline, channel := some ch, group := some g, lastTemp := none, sensorFailures := 0
            sensor := if present = true then some address else none
            sensorStatus := if present = true then .unread else .absent
            band := if present = true then s.thermal.fallbackBand else (s.rank r).band
            bandSource := if present = true then (if s.monitor.polling = true then .sensor else .fallback) else .host } }) ∧
    (present = true → (∃ q : Slot, q ≠ r ∧ (s.rank q).state ≠ .absent ∧ (s.rank q).sensor = some address) →
      exec (.configureRank tag slot channel group address present) s = .next
        (s.answered tag (.configureRank slot channel group address present) .badParameter (.position 40)))) ∧
  (∀ (s : State) (tag : Tag) (slot : BitVec 8) (r : Slot), s.Admits tag → s.RankLaw → slotOf slot = some r →
    (s.rank r).state = .offline →
    exec (.removeRank tag slot) s = .next
      { s.answered tag (.removeRank slot) .done .none with
        monitor := s.monitor.discarding r
        ranks := s.ranks.set r
          { state := .absent, channel := none, group := none, sensor := none, calStatus := .never, failures := 0, calTemp := none,
            balance := 0, overruns := 0, urgent := false, band := 0, bandSource := .host, interval := none, periodic := none,
            settle := none, sensorStatus := .absent, lastTemp := none, sensorFailures := 0 } })

/-- BRING_ONLINE (R10): the record, the account and its timer, a LONG ONLINE entry at the tail of the group's list and the
group's grant scan. That the record is staged in the same event is the model's choice (entry 6). -/
def Obligations.BringOnline : Prop :=
  ∀ (s : State) (tag : Tag) (slot : BitVec 8) (r : Slot) (g : GroupId), s.Admits tag → slotOf slot = some r →
    (s.rank r).state = .offline → (s.rank r).group = some g → s.NoStanding g r →
    exec (.bringOnline tag slot) s = .next
      ((({ s.answered tag (.bringOnline slot) .done .none with
          ranks := s.ranks.set r { s.rank r with
            state := .online, calStatus := .never, failures := 0, calTemp := none, balance := 0, urgent := false
            interval := some
              { started := s.now, full := s.timing.baseInterval / 2 ^ min (s.rank r).band.val 2
                length := s.timing.baseInterval / 2 ^ min (s.rank r).band.val 2 } } }
        ).joinTail g { rank := r, kind := .long, origin := .online, tag := none, revocations := 0 }).scanGroup g).settle

/-- TAKE_OFFLINE (R12, R13, R14): every task and the waiting entry of the rank go, its HELD token is released, its timers stop,
the ABORTED completions come in queue order and the command's own last. No other rank's record, and no task of another rank, is
touched. That the record is staged in the same event is the model's choice (entry 6). -/
def Obligations.TakeOffline : Prop :=
  ∀ (s : State) (tag : Tag) (slot : BitVec 8) (r : Slot) (ch : Chan) (g : GroupId), s.Admits tag → s.Fresh tag → s.RankLaw →
    slotOf slot = some r → stateCheck .takeOffline (s.rank r).state = none → (s.rank r).channel = some ch →
    (s.rank r).group = some g → (∀ f ∈ (s.engine ch).flight, f.rank ≠ r) →
    ((s.group g).holder = some r → (s.group g).state = .held) →
    ∃ t, exec (.takeOffline tag slot) s = .next t ∧
      t.rank r = { s.rank r with state := .offline, interval := none, periodic := none } ∧
      (∀ q : Slot, q ≠ r → t.rank q = s.rank q) ∧
      (∀ d : Chan, (∀ x ∈ (t.queue d).tasks, x.rank ≠ r) ∧
        ExtendedBy ((s.queue d).tasks.filter (fun x => x.rank ≠ r)) (t.queue d).tasks
          (fun x => x.kind = .calShort ∨ x.kind = .calLong)) ∧
      (t.group g).holder ≠ some r ∧ (∀ e ∈ (t.group g).waiting, e.rank ≠ r) ∧
      t.engines = s.engines ∧ t.monitor = s.monitor ∧ t.lost = s.lost ∧
      t.records = ((s.taken tag (.takeOffline slot)).abortTags
          ((queueOrder ((s.queue ch).tasks.filter (fun x => x.rank = r))).filterMap Task.tag ++
            (((s.group g).waiting.find? (fun e => e.rank = r)).bind Entry.tag).toList)).records ++
        [s.completionOf tag (.takeOffline slot) .done .none]

/-! ### Band and parameters -/

/-- SET_BAND (R23, R25 to R28, R30, R64, R65, R107): refused where the slot has a sensor, and nothing else done where the band is
the one the rank has. Otherwise the band is written and the planner takes the change, as State.withBand spells out: a rise to a
length shorter than the one the timer was started with gives the running interval that length, or takes its expiry. Every other
field of the rank and every other rank is as it was, a rise to band 3 is taken by the rank's power work, and the command's
completion comes last. The queues of a rank not in DEEP lose nothing but a waiting DEEP_ENTER and gain nothing but granted
calibrations. That a running interval timer is one of a rank in service, and that a rank has one power task at most, are laws every
step keeps (RankLawKept). That the record is staged in the same event, and that the new length also holds where an earlier rise had
cut the interval shorter, are the model's choices (entries 6, 10). -/
def Obligations.SetBand : Prop :=
  ∀ (s : State) (tag : Tag) (slot band : BitVec 8) (r : Slot) (b : Band), s.Admits tag → slotOf slot = some r →
    bandOf band = some b → stateCheck .setBand (s.rank r).state = none →
    let c := HostCommand.setBand slot band
    let k := s.rank r
    (k.sensor.isSome = true → exec (.setBand tag slot band) s = .next (s.answered tag c .rankState .none)) ∧
    (k.sensor = none → k.band = b → exec (.setBand tag slot band) s = .next (s.answered tag c .done .none)) ∧
    (∀ ch : Chan, s.Fresh tag → k.sensor = none → k.channel = some ch → (k.interval.isSome = true → k.state.served = true) →
      let v := (s.taken tag c).withBand r ch b
      (b ≠ 3 ∨ k.band = 3 → exec (.setBand tag slot band) s = .next (v.complete tag .done .none).settle) ∧
      ∃ t, exec (.setBand tag slot band) s = .next t ∧ t.ranks = v.ranks ∧ t.monitor = s.monitor ∧ t.engines = s.engines ∧
        v.records <+: t.records ∧ (∀ d : Chan, t.refreshTasks d = v.refreshTasks d) ∧
        (b = 3 → k.band ≠ 3 → s.TakesCriticalBand t r) ∧
        (k.state ≠ .deep →
          (∀ x ∈ (s.queue ch).tasks, ∀ y ∈ (s.queue ch).tasks, x.rank = r → y.rank = r → x.kind.place = .power →
            y.kind.place = .power → x = y) →
          ∀ d : Chan, ExtendedBy ((v.queue d).tasks.filter (fun x =>
              !(decide (b = 3 ∧ k.band ≠ 3 ∧ d = ch ∧ x.rank = r ∧ x.kind = .deepEnter) && !x.executing))) (t.queue d).tasks
            (fun x => x.kind = .calShort ∨ x.kind = .calLong)) ∧
        t.records.getLast? = some (s.completionOf tag c .done .none))

/-- SET_TIMING (R173): the fifteen values are replaced where every check passes, and nothing is changed where the rank states or
the window budget refuse it. (Ranges: FieldAndStateChecks.) That the record is staged in the same event is the model's choice
(entry 6). -/
def Obligations.SetTiming : Prop :=
  ∀ (s : State) (tag : Tag) (f : TimingFields), s.Admits tag →
    ((timingOf f).Legal s.policy.postponeLimit → (∀ r : Slot, (s.rank r).state = .absent ∨ (s.rank r).state = .offline) →
      exec (.setTiming tag f) s = .next { s.answered tag (.setTiming f) .done .none with
        timing :=
          { baseInterval := f.baseInterval.toNat, refreshBusy := f.refreshBusy.toNat, calShort := f.calShort.toNat,
            calLong := f.calLong.toNat, napExit := f.napExit.toNat, napEntry := f.napEntry.toNat,
            deepEntry := f.deepEntry.toNat, deepExit := f.deepExit.toNat, deepSettle := f.deepSettle.toNat,
            windowBudget := f.windowBudget.toNat, grantWait := f.grantWait.toNat,
            urgentGrantWait := f.urgentGrantWait.toNat, releaseWait := f.releaseWait.toNat, tokenHold := f.tokenHold.toNat,
            calPeriod := f.calPeriod.toNat } }) ∧
    ((∀ p ∈ timingChecks (timingOf f), p.2 = true) →
      (∃ r : Slot, (s.rank r).state ≠ .absent ∧ (s.rank r).state ≠ .offline) →
      exec (.setTiming tag f) s = .next (s.answered tag (.setTiming f) .rankState .none)) ∧
    ((∀ p ∈ timingChecks (timingOf f), p.2 = true) →
      (∀ r : Slot, (s.rank r).state = .absent ∨ (s.rank r).state = .offline) →
      f.windowBudget.toNat < maxTask (timingOf f) s.policy.postponeLimit →
      exec (.setTiming tag f) s = .next (s.answered tag (.setTiming f) .badParameter (.position 96)))

/-- SET_REFRESH_POLICY (R43, R44): the checks after the ranges in their order, and where all pass the five values, the urgent
flag of every rank in ONLINE, NAP and FAULTED, the RANK_URGENT notices in slot order and the command's completion last. That the
record is staged in the same event is the model's choice (entry 6). -/
def Obligations.SetRefreshPolicy : Prop :=
  ∀ (s : State) (tag : Tag) (f : PolicyFields), s.Admits tag → (∀ p ∈ policyChecks f, p.2 = true) →
    (f.urgentAt.toNat = 0 ∨ f.postponeLimit.toNat < f.urgentAt.toNat → exec (.setRefreshPolicy tag f) s =
      .next (s.answered tag (.setRefreshPolicy f) .badParameter (.position 48))) ∧
    (1 ≤ f.urgentAt.toNat → f.urgentAt.toNat ≤ f.postponeLimit.toNat →
      (s.timing.windowBudget < maxTask s.timing f.postponeLimit.toNat → exec (.setRefreshPolicy tag f) s =
        .next (s.answered tag (.setRefreshPolicy f) .badParameter (.position 32))) ∧
      (maxTask s.timing f.postponeLimit.toNat ≤ s.timing.windowBudget →
        (∀ r : Slot, (s.rank r).balance < -(f.postponeLimit.toNat : Int) ∨ (f.advanceLimit.toNat : Int) < (s.rank r).balance →
          (∀ q : Slot, q < r → -(f.postponeLimit.toNat : Int) ≤ (s.rank q).balance ∧
            (s.rank q).balance ≤ (f.advanceLimit.toNat : Int)) →
          exec (.setRefreshPolicy tag f) s = .next (s.answered tag (.setRefreshPolicy f) .outOfRange (.slot r))) ∧
        ((∀ r : Slot, -(f.postponeLimit.toNat : Int) ≤ (s.rank r).balance ∧
            (s.rank r).balance ≤ (f.advanceLimit.toNat : Int)) →
          ∃ t, exec (.setRefreshPolicy tag f) s = .next t ∧
            t.policy =
              { postponeLimit := f.postponeLimit.toNat, advanceLimit := f.advanceLimit.toNat, urgentAt := f.urgentAt.toNat,
                gatherThreshold := f.gatherThreshold.toNat, advanceEnable := f.advanceEnable == 1 } ∧
            (∀ r : Slot, t.rank r =
              if (s.rank r).state.served = true then
                { s.rank r with urgent := decide ((s.rank r).balance ≤ -(f.urgentAt.toNat : Int)) }
              else s.rank r) ∧
            t.engines = s.engines ∧ t.groups = s.groups ∧ t.outstanding = s.outstanding ∧
            t.records = ((allSlots.filter (fun r => (s.rank r).state.served && !(s.rank r).urgent &&
                decide ((s.rank r).balance ≤ -(f.urgentAt.toNat : Int)))).foldl
              (fun u r => u.notice (.rankUrgent r (s.rank r).channel (s.rank r).balance))
              (s.taken tag (.setRefreshPolicy f))).records ++
              [s.completionOf tag (.setRefreshPolicy f) .done .none])))

/-- SET_THERMAL (R63, R67): the settings are replaced, every rank on the fallback band or with an UNREAD or FAILED sensor takes the
new FallbackBand, with the planner's part in each change as State.withBand spells it out for one rank (R27, R65), polling that is
STOPPED resumes with a full PollPeriod, and the read in progress and the cursor are untouched. That the record is staged in the same
event, and the cut of an interval an earlier rise had cut shorter, are the model's choices (entries 6, 10). -/
def Obligations.SetThermal : Prop :=
  ∀ (s : State) (tag : Tag) (f : ThermalFields) (fb : Band), s.Admits tag → s.Fresh tag →
    (∀ p ∈ thermalChecks f, p.2 = true) → bandOf f.fallbackBand = some fb →
    ∃ t, exec (.setThermal tag f) s = .next t ∧
      t.thermal =
        { rise1 := f.rise1.toInt, rise2 := f.rise2.toInt, rise3 := f.rise3.toInt, hyst := f.hyst.toNat,
          pollPeriod := f.pollPeriod.toNat, fallbackBand := fb, calDrift := f.calDrift.toNat,
          busSpeed := if f.busSpeed = 0 then .khz100 else .khz400 } ∧
      t.monitor = (if s.monitor.polling = true then s.monitor
        else { s.monitor with polling := true, pollTimer := some (s.now + f.pollPeriod.toNat) }) ∧
      (∀ r : Slot, (t.rank r).band =
          (if (s.rank r).sensorStatus = .unread ∨ (s.rank r).sensorStatus = .failed ∨ (s.rank r).bandSource = .fallback then fb
           else (s.rank r).band) ∧
        (t.rank r).bandSource = (s.rank r).bandSource ∧ (t.rank r).sensorStatus = (s.rank r).sensorStatus ∧
        (t.rank r).state = (s.rank r).state ∧
        ∀ ch : Chan, (s.rank r).channel = some ch → ((s.rank r).interval.isSome = true → (s.rank r).state.served = true) →
          let w := (s.taken tag (.setThermal f)).withBand r ch (t.rank r).band
          let debt (v : State) : List Task := ((v.refreshTasks ch).filter (fun x => x.rank = r)).map (fun x => { x with seq := 0 })
          t.rank r = w.rank r ∧ debt t = debt w) ∧
      t.records.getLast? = some (s.completionOf tag (.setThermal f) .done .none)

/-! ### Host work -/

/-- FLUSH_HOST (R109, R124, R125): the unstarted REFRESH_NOW and host power tasks of the channel leave with ABORTED in queue
order, what stays keeps its order, nothing but thermal exits and granted calibrations joins, a removed DEEP_EXIT of a rank in DEEP
and band 3 is replaced, and the command's own completion with the number removed comes last. The premises RankLaw and WorkLaw are
laws every step keeps. That the record is staged in the same event is the model's choice (entry 6). -/
def Obligations.FlushHost : Prop :=
  ∀ (s : State) (tag : Tag) (channel : BitVec 8) (ch : Chan), s.Admits tag → s.Fresh tag → s.RankLaw → s.WorkLaw →
    chanOf channel = some ch →
    let gone (x : Task) : Bool := !x.executing && (x.kind == .refreshNow || (x.origin == .host &&
      (x.kind == .napEnter || x.kind == .napExit || x.kind == .deepEnter || x.kind == .deepExit)))
    let removed := (s.queue ch).tasks.filter gone
    ∃ t, exec (.flushHost tag channel) s = .next t ∧ t.ranks = s.ranks ∧ t.engines = s.engines ∧ t.monitor = s.monitor ∧
      ExtendedBy ((s.queue ch).tasks.filter (fun x => !gone x)) (t.queue ch).tasks
        (fun x => (x.kind = .deepExit ∧ x.origin = .thermal ∧ x.cls = .urgent) ∨ x.kind = .calShort ∨ x.kind = .calLong) ∧
      (∀ d : Chan, d ≠ ch → ExtendedBy (s.queue d).tasks (t.queue d).tasks (fun x => x.kind = .calShort ∨ x.kind = .calLong)) ∧
      (∀ x ∈ removed, x.kind = .deepExit → (s.rank x.rank).band = 3 → (s.engine ch).resetMark = false →
        ∃ y ∈ (t.queue ch).tasks, y.rank = x.rank ∧ y.kind = .deepExit ∧ y.origin = .thermal ∧ y.cls = .urgent) ∧
      ExtendedBy ((s.taken tag (.flushHost channel)).abortTags ((queueOrder removed).filterMap Task.tag)).records t.records
        (fun x => x = s.completionOf tag (.flushHost channel) .done (.count removed.length) ∨
          ∃ r ∈ allSlots, x = .notice (.thermalExit r (some ch) .replaced) s.timestamp) ∧
      t.records.getLast? = some (s.completionOf tag (.flushHost channel) .done (.count removed.length))

/-- RESET_CHANNEL with no task in flight (R92, R109, R111, R126, R128, R146, R166, R167, R174): the reset ends as part of the
command. Every task goes, the host's with ABORTED in queue order, a token HELD by a rank of the channel is taken back with its entry
at the tail, uncounted, and the negotiator drops its lines. The queue then holds new tasks alone: the refresh tasks of the channel's
ranks in debt, the exits of its ranks in DEEP and band 3 with their notices, and the calibrations the scans grant. The pointer is 0,
the mark clear, no rank record and nothing of the other channel's engine and tasks changes, and the command completes last with the
number of tasks taken out. An entry of the other channel goes before one of the channel itself, whose entries wait for the reset's
end. That the record is staged in the same event, and the removed count in the table entry, are the model's choices (entries 6, 19).
-/
def Obligations.ResetChannelIdle : Prop :=
  ∀ (s : State) (tag : Tag) (channel : BitVec 8) (ch : Chan), s.Admits tag → s.Fresh tag → chanOf channel = some ch →
    (s.engine ch).flight = none → (∀ x ∈ (s.queue ch).tasks, x.executing = false) →
    let c := HostCommand.resetChannel channel
    let n := s.nego ch
    let low : Negotiator := { n with qreq := false, qurg := false, grantTimer := none, escalated := false }
    let dropped : Negotiator :=
      if n.qgnt = false then { low with state := .idle, lost := false }
      else if n.state = .releasing then { low with cause := .reset }
      else { low with
        state := .releasing, lost := false, cause := .reset
        releaseTimer := some (s.now + s.timing.releaseWait), releaseMark := false }
    let debts := allSlots.filter (fun r =>
      (s.rank r).channel = some ch ∧ (s.rank r).state.served = true ∧ (s.rank r).balance < 0)
    let hot := allSlots.filter (fun r => (s.rank r).channel = some ch ∧ (s.rank r).state = .deep ∧ (s.rank r).band = 3)
    let again : List Task :=
      debts.map (fun r =>
        { seq := 0, rank := r, kind := .refresh, cls := if (s.rank r).urgent = true then .urgent else .routine, count := none
          tag := none, origin := .planner, executing := false }) ++
      hot.map (fun r =>
        { seq := 0, rank := r, kind := .deepExit, cls := .urgent, count := none, tag := none, origin := .thermal
          executing := false })
    let told := hot.foldl (fun u r => u.notice (.thermalExit r (some ch) .reset)) ((s.taken tag c).abortTags
      ((queueOrder ((s.queue ch).tasks.filter (fun x => x.kind == .refreshNow || (x.origin == .host &&
        (x.kind == .napEnter || x.kind == .napExit || x.kind == .deepEnter || x.kind == .deepExit))))).filterMap Task.tag))
    let other (e : Entry) : Bool := (s.rank e.rank).channel != some ch && s.eligible e
    let own (e : Entry) : Bool := (s.rank e.rank).channel == some ch && ((s.rank e.rank).state == .online ||
      (s.rank e.rank).state == .nap || ((s.rank e.rank).state == .faulted && e.origin == .host))
    let granted (x : CalGroup) (next : Entry → Bool) : CalGroup := { x with
      state := .held, holder := (x.waiting.find? next).map Entry.rank, heldEntry := x.waiting.find? next
      waiting := x.waiting.eraseP next, tokenTimer := some (s.now + s.timing.tokenHold) }
    ∃ t, exec (.resetChannel tag channel) s = .next t ∧ t.ranks = s.ranks ∧ t.monitor = s.monitor ∧
      t.engine ch = { s.engine ch with state := .standby, resetMark := false, pointer := 0 } ∧
      t.nego ch = dropped.takes (t.urgencyCondition ch) (t.requestCondition ch) (s.now + s.timing.grantWait) ∧
      (∀ d : Chan, d ≠ ch → t.engine d = s.engine d ∧ t.nego d = (s.nego d).takes (t.urgencyCondition d) (t.requestCondition d)
        (s.now + s.timing.grantWait) ∧
        ExtendedBy (s.queue d).tasks (t.queue d).tasks (fun x => x.kind = .calShort ∨ x.kind = .calLong)) ∧
      ExtendedBy (again.foldl Queue.insert { tasks := [], seq := (s.queue ch).seq }).tasks (t.queue ch).tasks
        (fun x => (x.kind = .calShort ∨ x.kind = .calLong) ∧ x.cls = .cal ∧ x.executing = false) ∧
      (∀ (g : GroupId) (e : Entry), (t.group g).state = .held → (t.group g).heldEntry = some e →
        (s.rank e.rank).channel = some ch →
        ∃ x ∈ (t.queue ch).tasks, x.rank = e.rank ∧ x.kind = calTaskKind e.kind ∧ x.tag = e.tag) ∧
      (∀ (g : GroupId) (e : Entry), (s.group g).state = .held → (s.group g).heldEntry = some e →
        ((s.rank e.rank).channel ≠ some ch → t.group g = s.group g) ∧
        ((s.rank e.rank).channel = some ch →
          let back : CalGroup := { state := .free, holder := none, heldEntry := none, waiting := (s.group g).waiting ++ [e]
                                   tokenTimer := none, discard := false }
          t.group g = if back.waiting.any other then granted back other
            else if back.waiting.any own then granted back own else back)) ∧
      (∀ g : GroupId, (s.group g).state = .free → (∀ e ∈ (s.group g).waiting, other e = false) →
        t.group g = if (s.group g).waiting.any own then granted (s.group g) own else s.group g) ∧
      told.records <+: t.records ∧ t.lost = told.lost ∧
      ((∀ e ∈ s.outstanding, e.kind = .resetChannel → e.channel ≠ .chan ch) →
        t.records = told.records ++ [s.completionOf tag c .done (.count (s.queue ch).tasks.length)]) ∧
      t.records.getLast? = some (s.completionOf tag c .done (.count (s.queue ch).tasks.length))

/-- RESET_CHANNEL with a task in flight (R92, R93, R126, R127, R146, R166, R174): the executing task alone stays, the engine
keeps the task in flight with the mark set and the pointer 0, the negotiator drops its lines, a token HELD by a rank of the channel
is taken back, its entry joining the tail uncounted, and may go to a rank of the other channel, a group CALIBRATING for a rank of
the channel is marked for discard, and the command waits in the table with the number of tasks it took out. That the record is
staged in the same event, and the removed count in the table entry, are the model's choices (entries 6, 19). -/
def Obligations.ResetChannelBusy : Prop :=
  ∀ (s : State) (tag : Tag) (channel : BitVec 8) (ch : Chan), s.Admits tag → s.Fresh tag → chanOf channel = some ch →
    (s.engine ch).flight.isSome = true →
    ∃ t, exec (.resetChannel tag channel) s = .next t ∧ t.ranks = s.ranks ∧ t.monitor = s.monitor ∧
      t.queue ch = (s.queue ch).keepExecuting true ∧ t.engine ch = { s.engine ch with resetMark := true, pointer := 0 } ∧
      (t.nego ch).qreq = false ∧ (t.nego ch).qurg = false ∧ (t.nego ch).grantTimer = none ∧ (t.nego ch).escalated = false ∧
      (t.nego ch).state = (if (s.nego ch).qgnt = true then .releasing else .idle) ∧
      (∀ g : GroupId, (s.group g).state = .calibrating →
        (∀ e ∈ (s.group g).heldEntry, (s.rank e.rank).channel = some ch) → (s.group g).heldEntry.isSome = true →
        t.group g = { s.group g with discard := true }) ∧
      (∀ (g : GroupId) (e : Entry), (s.group g).state = .held → (s.group g).heldEntry = some e →
        (s.rank e.rank).channel = some ch →
        let can (x : Entry) : Bool := (s.rank x.rank).channel != some ch && s.eligible x
        let back := (s.group g).waiting ++ [e]
        t.group g =
          { state := if back.any can then .held else .free, holder := (back.find? can).map Entry.rank
            heldEntry := back.find? can, waiting := back.eraseP can
            tokenTimer := if back.any can then some (s.now + s.timing.tokenHold) else none, discard := false }) ∧
      (∃ e ∈ t.outstanding, e = { outEntryOf tag (.resetChannel channel) with
        removed := ((s.queue ch).keepExecuting false).tasks.length }) ∧
      t.records = ((s.taken tag (.resetChannel channel)).abortTags ((queueOrder (((s.queue ch).keepExecuting false).tasks.filter
        (fun x => x.kind == .refreshNow || (x.origin == .host &&
          (x.kind == .napEnter || x.kind == .napExit || x.kind == .deepEnter || x.kind == .deepExit))))).filterMap Task.tag)).records

/-- An accepted REFRESH_NOW (R36, R119) joins the end of its channel's queue as a ROUTINE task with its count and tag, and
completes later. That the record is staged in the same event is the model's choice (entry 6). -/
def Obligations.RefreshNow : Prop :=
  ∀ (s : State) (tag : Tag) (slot count : BitVec 8) (r : Slot) (ch : Chan), s.Admits tag → slotOf slot = some r →
    1 ≤ count.toNat → count.toNat ≤ 8 → (s.rank r).state = .online ∨ (s.rank r).state = .nap ∨ (s.rank r).state = .faulted →
    (s.rank r).channel = some ch → (∀ x ∈ (s.queue ch).tasks, x.rank = r → x.kind ≠ .deepEnter ∧ x.kind ≠ .refreshNow) →
    ((s.queue ch).tasks.filter (fun x => x.kind = .refreshNow)).length < 8 →
    exec (.refreshNow tag slot count) s = .next
      ((s.taken tag (.refreshNow slot count)).setQueue ch ((s.queue ch).insert
        { seq := 0, rank := r, kind := .refreshNow, cls := .routine, count := some count.toNat, tag := some tag, origin := .host,
          executing := false })).settle

/-- An accepted CALIBRATE (R75, R76, R77, R79): a new HOST entry at the tail and the grant scan, or a merge into the rank's
untagged entry and the scan, or a merge into the untagged held entry and the queued task. The kind is LONG for a NEVER or
FAULTED rank, and a merge never lowers it. That the record is staged in the same event is the model's choice (entry 6). -/
def Obligations.Calibrate : Prop :=
  ∀ (s : State) (tag : Tag) (slot kind : BitVec 8) (r : Slot) (ch : Chan) (g : GroupId) (k : CalKind), s.Admits tag →
    slotOf slot = some r → calKindOf kind = some k →
    (s.rank r).state = .online ∨ (s.rank r).state = .nap ∨ (s.rank r).state = .faulted → (s.rank r).channel = some ch →
    (s.rank r).group = some g →
    (∀ x ∈ (s.queue ch).tasks, x.rank = r → x.kind ≠ .deepEnter ∧ (x.kind = .calShort ∨ x.kind = .calLong → x.executing = false)) →
    let k' := if (s.rank r).calStatus = .never ∨ (s.rank r).state = .faulted then CalKind.long else k
    let s1 := s.taken tag (.calibrate slot kind)
    (s.NoStanding g r → exec (.calibrate tag slot kind) s = .next
      ((s1.joinTail g { rank := r, kind := k', origin := .host, tag := some tag, revocations := 0 }).scanGroup g).settle) ∧
    ((s.group g).holder ≠ some r → (∃ e ∈ (s.group g).waiting, e.rank = r) →
      (∀ e ∈ (s.group g).waiting, e.rank = r → e.tag = none) →
      exec (.calibrate tag slot kind) s = .next
        ((s1.setGroup g { s.group g with waiting := (s.group g).waiting.map (fun e => if e.rank = r then
          { e with kind := (if e.kind = .long then .long else k'), origin := .host, tag := some tag } else e) }).scanGroup g).settle) ∧
    (∀ e : Entry, (s.group g).holder = some r → (s.group g).state = .held → (s.group g).heldEntry = some e → e.tag = none →
      (∀ e ∈ (s.group g).waiting, e.rank ≠ r) →
      let k2 := if e.kind = .long then CalKind.long else k'
      exec (.calibrate tag slot kind) s = .next
        (((s1.setGroup g { s.group g with heldEntry := some { e with kind := k2, origin := .host, tag := some tag } }).setQueue ch
          { s.queue ch with tasks := (s.queue ch).tasks.map (fun x =>
              if x.rank = r ∧ (x.kind = .calShort ∨ x.kind = .calLong) then
                { x with kind := (if k2 = .long then .calLong else .calShort), tag := some tag, origin := .host }
              else x) }).settle))

/-- An accepted NAP_ENTER, NAP_EXIT, DEEP_ENTER or DEEP_EXIT (R95, R97, R99, R100, R104) joins the end of its channel's queue as
a POWER task of origin HOST with the command's tag. That the record is staged in the same event is the model's choice (entry 6).
-/
def Obligations.PowerCommands : Prop :=
  ∀ (s : State) (tag : Tag) (slot : BitVec 8) (r : Slot) (ch : Chan), s.Admits tag → slotOf slot = some r →
    (s.rank r).channel = some ch →
    (∀ x ∈ (s.queue ch).tasks, x.rank = r →
      x.kind ≠ .napEnter ∧ x.kind ≠ .napExit ∧ x.kind ≠ .deepEnter ∧ x.kind ≠ .deepExit) →
    let joined (c : HostCommand) (k : TaskKind) : State := ((s.taken tag c).setQueue ch ((s.queue ch).insert
      { seq := 0, rank := r, kind := k, cls := .power, count := none, tag := some tag, origin := .host,
        executing := false })).settle
    ((s.rank r).state = .online → exec (.napEnter tag slot) s = .next (joined (.napEnter slot) .napEnter)) ∧
    ((s.rank r).state = .nap → exec (.napExit tag slot) s = .next (joined (.napExit slot) .napExit)) ∧
    ((s.rank r).state = .online ∨ (s.rank r).state = .nap → (s.rank r).band ≠ 3 →
      (∀ x ∈ (s.queue ch).tasks, x.rank = r → x.kind ≠ .refreshNow) →
      (∀ g ∈ (s.rank r).group, (s.group g).holder ≠ some r ∧ ∀ e ∈ (s.group g).waiting, e.rank = r → e.tag = none) →
      exec (.deepEnter tag slot) s = .next (joined (.deepEnter slot) .deepEnter)) ∧
    ((s.rank r).state = .deep → exec (.deepExit tag slot) s = .next (joined (.deepExit slot) .deepExit))

/-- When work for a rank is turned away (R11, R36, R79, R119): TAKE_OFFLINE while a task of the rank is in flight, REFRESH_NOW
while a DEEP_ENTER is queued, then for a second REFRESH_NOW, then for a full pool, and CALIBRATE while a DEEP_ENTER is queued or
the calibration executes, then for one already pending. Nothing else changes. That the record is staged in the same event is the
model's choice (entry 6). -/
def Obligations.WorkRefusals : Prop :=
  ∀ (s : State) (tag : Tag) (slot : BitVec 8) (r : Slot) (ch : Chan), s.Admits tag → slotOf slot = some r →
    (s.rank r).channel = some ch →
    (stateCheck .takeOffline (s.rank r).state = none → (∃ f ∈ (s.engine ch).flight, f.rank = r) →
      exec (.takeOffline tag slot) s = .next (s.answered tag (.takeOffline slot) .rankBusy .none)) ∧
    ((s.rank r).state.served = true →
      let deep := s.deepEnterQueued r = true
      let queued := ∃ x ∈ (s.queue ch).tasks, x.rank = r ∧ x.kind = .refreshNow
      let full := 8 ≤ ((s.queue ch).tasks.filter (fun x => x.kind = .refreshNow)).length
      (∀ count : BitVec 8, 1 ≤ count.toNat → count.toNat ≤ 8 →
        let c := HostCommand.refreshNow slot count
        (deep → exec (.refreshNow tag slot count) s = .next (s.answered tag c .rankBusy .none)) ∧
        (¬ deep → queued → exec (.refreshNow tag slot count) s = .next (s.answered tag c .alreadyPending .none)) ∧
        (¬ deep → ¬ queued → full → exec (.refreshNow tag slot count) s = .next (s.answered tag c .queueFull .none))) ∧
      (∀ kind : BitVec 8, kind.toNat ≤ 1 →
        let c := HostCommand.calibrate slot kind
        let running := s.calExecuting r = true
        let pending := ∃ g ∈ (s.rank r).group, (∃ e ∈ (s.group g).waiting, e.rank = r ∧ e.tag.isSome = true) ∨
          ((s.group g).holder = some r ∧ ∃ e ∈ (s.group g).heldEntry, e.tag.isSome = true)
        (deep ∨ running → exec (.calibrate tag slot kind) s = .next (s.answered tag c .rankBusy .none)) ∧
        (¬ deep → ¬ running → pending →
          exec (.calibrate tag slot kind) s = .next (s.answered tag c .alreadyPending .none))))

/-- When a power command is turned away after the state check (R95, R100): for a power task already queued or executing, and a
DEEP_ENTER then for band 3, then for work that waits on the rank. Nothing else changes. That the record is staged in the same
event is the model's choice (entry 6). -/
def Obligations.PowerRefusals : Prop :=
  ∀ (s : State) (tag : Tag) (slot : BitVec 8) (r : Slot) (ch : Chan), s.Admits tag → slotOf slot = some r →
    (s.rank r).channel = some ch →
    let power := ∃ x ∈ (s.queue ch).tasks, x.rank = r ∧
      (x.kind = .napEnter ∨ x.kind = .napExit ∨ x.kind = .deepEnter ∨ x.kind = .deepExit)
    let work := (∃ x ∈ (s.queue ch).tasks, x.rank = r ∧ x.kind = .refreshNow) ∨
      ∃ g ∈ (s.rank r).group, (s.group g).holder = some r ∨ ∃ e ∈ (s.group g).waiting, e.rank = r ∧ e.tag.isSome = true
    (∀ c ∈ [HostCommand.napEnter slot, .napExit slot, .deepEnter slot, .deepExit slot],
      stateCheck c.kind (s.rank r).state = none → power →
      exec (c.instr tag) s = .next (s.answered tag c .alreadyPending .none)) ∧
    (stateCheck .deepEnter (s.rank r).state = none → ¬ power →
      ((s.rank r).band = 3 → exec (.deepEnter tag slot) s = .next (s.answered tag (.deepEnter slot) .bandCritical .none)) ∧
      ((s.rank r).band ≠ 3 → work →
        exec (.deepEnter tag slot) s = .next (s.answered tag (.deepEnter slot) .rankBusy .none)))

/-! ### Register window -/

/-- QUERY_RANK completes at once with the snapshot of that moment (R20) and changes no other state. Its work fields are the class of
the rank's internal refresh task, its part in its group, the kind of its power task and the kind of the task in flight for it, and
none of them for an ABSENT slot. A read of word 0 of a snapshot captures it whole, the later words reading from the copy (R186). The
staged record and the last word read are the model's choices (entries 6, 18). -/
def Obligations.Snapshots : Prop :=
  (∀ (s : State) (tag : Tag) (slot : BitVec 8) (r : Slot), s.Admits tag → slotOf slot = some r →
    let tasks := match (s.rank r).channel with
      | none => []
      | some ch => (s.queue ch).tasks
    let flight := match (s.rank r).channel with
      | none => none
      | some ch => (s.engine ch).flight
    exec (.queryRank tag slot) s = .next (s.answered tag (.queryRank slot) .done (.snapshot
      { state := (s.rank r).state, channel := (s.rank r).channel, group := (s.rank r).group, sensor := (s.rank r).sensor,
        sensorStatus := (s.rank r).sensorStatus, lastTemp := (s.rank r).lastTemp, band := (s.rank r).band,
        bandSource := (s.rank r).bandSource, calStatus := (s.rank r).calStatus, failures := (s.rank r).failures,
        calTemp := (s.rank r).calTemp, balance := (s.rank r).balance, urgent := (s.rank r).urgent,
        overruns := (s.rank r).overruns
        refreshTask := match tasks.find? (fun x => x.rank = r ∧ x.kind = .refresh) with
          | none => .none
          | some x => if x.cls = .urgent then .urgent else .routine
        calibration := match (s.rank r).group with
          | none => .none
          | some g =>
            if (s.group g).holder = some r then
              match (s.group g).state with
              | .free => .none
              | .held => .held
              | .calibrating => .calibrating
            else if ∃ e ∈ (s.group g).waiting, e.rank = r then .waiting
            else .none
        powerTask := (tasks.find? (fun x => x.rank = r ∧
          (x.kind = .napEnter ∨ x.kind = .napExit ∨ x.kind = .deepEnter ∨ x.kind = .deepExit))).map Task.kind
        executing := match flight with
          | none => none
          | some f => if f.rank = r then some f.kind else none }))) ∧
  (∀ (s : State), s.inReset = false → s.Settled →
    (∀ r : Slot, ∃ t, exec (.snapshotCapture (.rank r)) s = .next t ∧
      t = { s with readData := (s.rankWords r)[0], rankCopies := s.rankCopies.set r (s.rankWords r) } ∧
      t.readRegister (0x104 + 16 * r.val) = (s.snapshot r).partB ∧ t.readRegister (0x108 + 16 * r.val) = (s.snapshot r).partC ∧
      t.readRegister (0x10C + 16 * r.val) = s.timestamp) ∧
    (∀ g : GroupId, ∃ t, exec (.snapshotCapture (.group g)) s = .next t ∧
      t = { s with readData := (s.group g).word0, groupCopies := s.groupCopies.set g (s.groupWords g) } ∧
      t.readRegister (0x204 + 8 * g.val) = (s.group g).word1))

/-- Writes of CONTROL with the soft-reset bit clear (R183): the enable bit is taken, IntThreshold if it is 1 to 64, nothing else.
The timestamp counter increases by 1 and wraps (R183). What the registers of 10.1 read: the identifier, STATUS and CONTROL bit by
bit as 10.2 lays them out, the counter, the outcome of the last submission, the counts of REPORT_COUNT with the margin of R178, the
lost count, the staging words, and 0 for SUBMIT and every offset not listed. That the clock moves to the tick's time, and the split
of CONTROL writes into rows, are the model's choices (entries 1, 7). -/
def Obligations.ControlAndTimestamp : Prop :=
  ∀ s : State,
    (s.inReset = false → s.Settled →
      (∀ enable : Bool, exec (.interruptEnable enable) s = .next { s with intEnable := enable }) ∧
      (∀ (enable : Bool) (threshold : BitVec 7), exec (.intThreshold enable threshold) s = .next { s with
        intEnable := enable
        intThreshold := if 1 ≤ threshold.toNat ∧ threshold.toNat ≤ 64 then threshold.toNat else s.intThreshold }) ∧
      exec .timestampTick s = .next { s with
        now := max s.now (s.tickBase + 100), tickBase := s.tickBase + 100, timestamp := s.timestamp + 1 }) ∧
    (let status := s.readRegister 0x004
     let stage (n : NegState) : BitVec 3 := match n with
       | .idle => 0 | .requesting => 1 | .stalled => 2 | .opened => 3 | .draining => 4 | .releasing => 5
     let token (x : GroupState) : BitVec 2 := match x with
       | .free => 0 | .held => 1 | .calibrating => 2
     status.getLsbD 0 = s.drain ∧ status.extractLsb' 1 3 = stage (s.nego .a).state ∧
       status.extractLsb' 4 3 = stage (s.nego .b).state ∧
       (∀ g : GroupId, status.extractLsb' (7 + 2 * g.val) 2 = token (s.group g).state) ∧
       status.getLsbD 15 = !s.monitor.polling ∧
       status.getLsbD 16 = (s.engine .a).resetMark ∧ status.getLsbD 17 = (s.engine .b).resetMark ∧
       status.getLsbD 18 = decide ((s.engine .a).state = .busy) ∧ status.getLsbD 19 = decide ((s.engine .b).state = .busy) ∧
       status.extractLsb' 20 12 = 0) ∧
    (let control := s.readRegister 0x008
     control.getLsbD 0 = false ∧ control.getLsbD 1 = s.intEnable ∧ control.extractLsb' 2 6 = 0 ∧
       control.extractLsb' 8 7 = BitVec.ofNat 7 s.intThreshold ∧ control.extractLsb' 15 17 = 0) ∧
    (let count := s.readRegister 0x018
     count.extractLsb' 0 7 = BitVec.ofNat 7 s.records.length ∧
       count.extractLsb' 8 5 = BitVec.ofNat 5 s.outstanding.length ∧
       count.extractLsb' 16 7 = BitVec.ofNat 7 (64 - (s.records.length + s.outstanding.length))) ∧
    s.readRegister 0x000 = 0x0082B510#32 ∧ s.readRegister 0x00C = s.timestamp ∧ s.readRegister 0x010 = 0 ∧
    s.readRegister 0x014 = (match s.submitStatus with
      | .none => 0 | .accepted => 1 | .tableFull => 2 | .tagInUse => 3 | .unknownCommand => 4 | .resetting => 5) ∧
    s.readRegister 0x01C = BitVec.ofNat 32 s.lost ∧
    (∀ i : Fin 8, s.readRegister (0x020 + 4 * i.val) = s.staging[i]) ∧
    (∀ offset : BitVec 12, (0x04C < offset.toNat ∧ offset.toNat < 0x100) ∨ (0x17C < offset.toNat ∧ offset.toNat < 0x200) ∨
      0x21C < offset.toNat → s.readRegister offset.toNat = 0)

/-- A pop (R180, R185): the last word of the head record is read and the record removed, and where notices have been lost and
the margin is then above 0, the LOST notice joins and the count becomes 0. A pop of an empty queue reads 0 and changes nothing.
The last word read is the model's own field (entry 18). -/
def Obligations.PopRemovesHead : Prop :=
  ∀ s : State, s.inReset = false → s.Settled →
    (s.records = [] → exec .pop s = .next { s with readData := 0 }) ∧
    (∀ head ∈ s.records.head?,
      let rest := s.records.tail
      (s.lost = 0 → exec .pop s = .next { s with readData := head.words[3], records := rest }) ∧
      (s.lost ≠ 0 → rest.length + s.outstanding.length < 64 → exec .pop s =
        .next { s with readData := head.words[3], records := rest ++ [.notice (.lost s.lost) s.timestamp], lost := 0 }) ∧
      (s.lost ≠ 0 → 64 ≤ rest.length + s.outstanding.length → exec .pop s =
        .next { s with readData := head.words[3], records := rest }) ∧
      (∀ i : Fin 4, s.readRegister (0x040 + 4 * i.val) = head.words[i]))

/-- Writes of the register window (10.1, R169, R183): a staging word is stored, CONTROL takes its fields, any write to SUBMIT
submits the record in the staging words, and a write anywhere else is ignored. That these rows act as the rows of their own do, and
the data line as an operand, are the model's choices (entries 7, 31). -/
def Obligations.RegisterWrite : Prop :=
  ∀ (s : State) (write : WindowWrite), s.inReset = false → s.Settled →
    let value := write.word
    (∀ i : Fin 8, exec (.registerWrite (BitVec.ofNat 12 (0x020 + 4 * i.val)) write) s =
      .next { s with staging := s.staging.set i value }) ∧
    (∀ offset : BitVec 12, offset.toNat % 4 = 0 → offset.toNat ≠ 0x008 → offset.toNat ≠ 0x010 →
      offset.toNat < 0x020 ∨ 0x03C < offset.toNat → exec (.registerWrite offset write) s = .next s) ∧
    (value.getLsbD 0 = false → exec (.registerWrite 0x008#12 write) s =
      exec (.intThreshold (value.getLsbD 1) (value.extractLsb' 8 7)) s) ∧
    (value.getLsbD 0 = true → exec (.registerWrite 0x008#12 write) s =
      exec (.softReset { enable := value.getLsbD 1, threshold := value.extractLsb' 8 7 } write.sda) s) ∧
    (∀ (tag : Tag) (c : HostCommand),
      exec (.registerWrite 0x010#12 write) { s with staging := stageRecord tag c s.staging } = exec (c.instr tag) s) ∧
    (decodeRecord s.staging = none → exec (.registerWrite 0x010#12 write) s = exec (.unknownCommand s.staging[0]) s)

/-- The record a command is staged in reads back as that tag and that command, every field at every value, whatever the other
staging words hold (10.4). -/
def Obligations.RecordRoundTrip : Prop :=
  ∀ (tag : Tag) (c : HostCommand) (words : Record),
    recordTag (stageRecord tag c words) = tag ∧ decodeRecord (stageRecord tag c words) = some c

/-! ### The handshake lines -/

/-- A grant that opens no window (R135, R139, R141, R142, R144): in IDLE and after a loss in DRAINING it is answered by the
UNSOLICITED_GRANT notice and the level alone, and with QRCL high the window is recalled as it opens, with its budget loaded and no
task started. -/
def Obligations.GrantWithoutWindow : Prop :=
  ∀ (s : State) (c : Chan), s.inReset = false → s.Settled → (s.nego c).qgnt = false →
    let recalled : Negotiator := { s.nego c with
      state := .releasing, qreq := false, qurg := false, qgnt := true, grantTimer := none, escalated := false
      releaseTimer := some (s.now + s.timing.releaseWait), releaseMark := false, lost := false, cause := .recall }
    let loaded : Engine := { s.engine c with state := .standby, budget := s.timing.windowBudget, sampled := none }
    ((s.nego c).state = .idle ∨ ((s.nego c).state = .draining ∧ (s.nego c).lost = true) →
      exec (.qgntRise c) s = .next ((s.notice (.unsolicitedGrant c)).setNego c { s.nego c with qgnt := true })) ∧
    ((s.nego c).qrcl = true → (s.engine c).flight = none →
      ((s.nego c).state = .requesting →
        exec (.qgntRise c) s = .next ((s.setNego c recalled).setEngine c loaded)) ∧
      ((s.nego c).state = .stalled → ∃ t, exec (.qgntRise c) s = .next t ∧ t.nego c = recalled ∧ t.engine c = loaded ∧
        t.ranks = s.ranks ∧ t.monitor = s.monitor ∧ t.records = (s.notice (.windowRecovered c)).records ∧
        ∀ d : Chan, d ≠ c → t.engine d = s.engine d))

/-- A grant that opens a window (R82, R138, R139, R143, R152, R155): the negotiator is OPEN with its grant timer stopped, the engine
has its budget loaded and no sampled result, and makes its first selection. From STALLED the WINDOW_RECOVERED notice and the scans
of all four groups come before that selection. What a selection does is SelectionStartsFirst and FillOrDone: after it a task is in
flight within the loaded budget and the negotiator is OPEN, or nothing could start and it is RELEASING with cause DONE. -/
def Obligations.GrantOpensWindow : Prop :=
  ∀ (s : State) (c : Chan), s.inReset = false → (s.nego c).qgnt = false → (s.nego c).qrcl = false →
    let opened : Negotiator := { s.nego c with state := .opened, qgnt := true, grantTimer := none, escalated := false }
    let loaded : Engine := { s.engine c with budget := s.timing.windowBudget, sampled := none }
    ((s.nego c).state = .requesting →
      exec (.qgntRise c) s = .next ((((s.setNego c opened).setEngine c loaded).runSelection c).settle)) ∧
    ((s.nego c).state = .stalled →
      let w := (s.notice (.windowRecovered c)).setNego c opened
      let scanned := (((w.scanGroup 0).scanGroup 1).scanGroup 2).scanGroup 3
      exec (.qgntRise c) s = .next (((scanned.setEngine c loaded).runSelection c).settle)) ∧
    (s.HandshakeLaw → (s.nego c).state = .requesting ∨ (s.nego c).state = .stalled →
      ∃ t, exec (.qgntRise c) s = .next t ∧ (t.nego c).qgnt = true ∧ (t.nego c).grantTimer = none ∧ (t.nego c).escalated = false ∧
        t.monitor = s.monitor ∧ (∀ d : Chan, d ≠ c → t.engine d = s.engine d) ∧
        (∀ r : Slot, (t.rank r).state = (s.rank r).state ∧ (t.rank r).band = (s.rank r).band) ∧
        ((s.nego c).state = .stalled → (s.notice (.windowRecovered c)).records <+: t.records) ∧
        if (t.engine c).flight.isSome = true then
          (t.nego c).state = .opened ∧ (t.nego c).qreq = true ∧ (t.engine c).state = .busy ∧
          ∀ f ∈ (t.engine c).flight, f.duration ≤ s.timing.windowBudget ∧
            (t.engine c).budget = s.timing.windowBudget - f.duration ∧ (t.engine c).completion = some (s.now + f.duration)
        else
          (t.nego c).state = .releasing ∧ (t.nego c).cause = .done ∧ (t.nego c).qreq = false ∧ (t.nego c).qurg = false ∧
          (t.nego c).releaseTimer = some (s.now + s.timing.releaseWait) ∧ (t.nego c).releaseMark = false ∧
          t.engine c = { s.engine c with state := .standby, budget := s.timing.windowBudget, sampled := none })

/-- A fall of QGNT (R134, R144, R145): a release ends, a level is noted in IDLE and after a loss, and in OPEN and DRAINING the grant
is lost, with the task in flight left to run out. -/
def Obligations.GrantFall : Prop :=
  ∀ (s : State) (c : Chan), s.inReset = false → (s.nego c).qgnt = true →
    let low : Negotiator := { s.nego c with qgnt := false }
    ((s.nego c).state = .idle → exec (.qgntFall c) s = .next (s.setNego c low).settle) ∧
    ((s.nego c).state = .releasing → exec (.qgntFall c) s =
      .next (s.setNego c { low with state := .idle, releaseTimer := none, releaseMark := false }).settle) ∧
    (s.Settled → (s.nego c).state = .draining → (s.nego c).lost = true →
      exec (.qgntFall c) s = .next (s.setNego c low)) ∧
    ((s.nego c).state = .opened ∨ ((s.nego c).state = .draining ∧ (s.nego c).lost = false) →
      (∀ f ∈ (s.engine c).flight, s.Settled → exec (.qgntFall c) s =
        .next ((s.notice (.grantLost c (some f.kind))).setNego c
          { low with state := .draining, lost := true, qreq := false, qurg := false })) ∧
      ((s.engine c).flight = none → exec (.qgntFall c) s =
        .next ((s.notice (.grantLost c none)).setNego c
          { low with state := .idle, lost := false, qreq := false, qurg := false }).settle))

/-- The edges of QRCL (R141, R142): a rise in OPEN makes the channel DRAINING, or RELEASING with cause RECALL where no task is
executing, and every other edge changes the level alone. -/
def Obligations.RecallEdges : Prop :=
  ∀ (s : State) (c : Chan), s.inReset = false → s.Settled →
    ((s.nego c).qrcl = false →
      ((s.nego c).state ≠ .opened → exec (.qrclRise c) s = .next (s.setNego c { s.nego c with qrcl := true })) ∧
      ((s.nego c).state = .opened → (s.engine c).flight.isSome = true →
        exec (.qrclRise c) s = .next (s.setNego c { s.nego c with qrcl := true, state := .draining })) ∧
      ((s.nego c).state = .opened → (s.engine c).flight = none → exec (.qrclRise c) s =
        .next (s.setNego c { s.nego c with
          qrcl := true, state := .releasing, qreq := false, qurg := false, lost := false
          releaseTimer := some (s.now + s.timing.releaseWait), releaseMark := false, cause := .recall }))) ∧
    exec (.qrclFall c) s = .next (s.setNego c { s.nego c with qrcl := false })

/-- The grant timer's expiry escalates a request or makes it STALLED with its notice (R137), and the release timer's restarts
and is reported once in a RELEASING period (R145). That the clock moves to the expiry's time is the model's choice (entry 1). -/
def Obligations.HandshakeTimers : Prop :=
  ∀ (s : State) (c : Chan) (due : Nat), s.inReset = false → s.Settled →
    let u := { s with now := max s.now due }
    let n := s.nego c
    (n.state = .requesting → n.grantTimer = some due →
      (n.escalated = false → n.qurg = false → exec (.grantTimerExpiry c) s = .next (u.setNego c { n with
        qurg := true, escalated := true, grantTimer := some (u.now + s.timing.urgentGrantWait) })) ∧
      (n.escalated = true ∨ n.qurg = true → exec (.grantTimerExpiry c) s =
        .next ((u.notice (.windowTimeout c n.escalated)).setNego c
          { n with state := .stalled, grantTimer := none, escalated := false }))) ∧
    (n.state = .releasing → n.releaseTimer = some due →
      exec (.releaseTimerExpiry c) s =
        .next ((if n.releaseMark = true then u else u.notice (.releaseTimeout c n.cause)).setNego c
          { n with releaseTimer := some (u.now + s.timing.releaseWait), releaseMark := true }))

/-! ### The timers of ranks and groups -/

/-- An interval expiry (R23, R25, R26, R30): the debit or the overrun, the timer restarted with a full interval, the urgent flag
with its notice, and the internal refresh task reclassed or created. That the clock moves to the expiry's time is the model's
choice (entry 1). -/
def Obligations.IntervalExpiry : Prop :=
  ∀ (s : State) (r : Slot) (ch : Chan) (it : Interval), s.inReset = false → (s.rank r).state.served = true →
    (s.rank r).channel = some ch → (s.rank r).interval = some it →
    let k := s.rank r
    let u := { s with now := max s.now (it.started + it.length) }
    let past := k.balance ≤ -(s.policy.postponeLimit : Int)
    let length := s.timing.baseInterval / 2 ^ min k.band.val 2
    let balance := if past then k.balance else k.balance - 1
    let overruns := if past then min 65535 (k.overruns + 1) else k.overruns
    let urgent := decide (balance ≤ -(s.policy.urgentAt : Int))
    let u1 := if past then u.notice (.refreshOverrun r (some ch) overruns) else u
    let u2 := if urgent = true ∧ k.urgent = false then u1.notice (.rankUrgent r (some ch) balance) else u1
    let cls := if urgent = true then TaskClass.urgent else .routine
    let reclass (x : Task) : Task := if x.rank = r ∧ x.kind = .refresh then { x with cls := cls } else x
    let q : Queue := { s.queue ch with tasks := (s.queue ch).tasks.map reclass }
    exec (.intervalExpiry r) s = .next ((({ u2 with
        ranks := s.ranks.set r { k with
          balance := balance, overruns := overruns, urgent := urgent
          interval := some { started := u.now, full := length, length := length } } }).setQueue ch
      (if balance < 0 ∧ (∀ x ∈ (s.queue ch).tasks, x.rank = r → x.kind ≠ TaskKind.refresh) ∧ (s.engine ch).resetMark = false then
        q.insert { seq := 0, rank := r, kind := .refresh, cls := cls, count := none, tag := none, origin := .planner,
                   executing := false }
      else q)).settle)

/-- The end of a settle period (R42, R75, R76, R106): ONLINE with the account opened, an EXIT request that joins the tail of the
list or leaves the rank's entry in its place, and the grant scan. That the clock moves to the expiry's time is the model's
choice (entry 1). -/
def Obligations.SettleExpiry : Prop :=
  ∀ (s : State) (r : Slot) (g : GroupId) (due : Nat), s.inReset = false → (s.rank r).settle = some due →
    (s.rank r).group = some g → (s.group g).holder ≠ some r →
    let k := s.rank r
    let length := s.timing.baseInterval / 2 ^ min k.band.val 2
    let u := { s with
      now := max s.now due
      ranks := s.ranks.set r { k with
        state := .online, settle := none, balance := 0, urgent := false
        interval := some { started := max s.now due, full := length, length := length } } }
    ((∀ e ∈ (s.group g).waiting, e.rank ≠ r) → exec (.settleExpiry r) s = .next (((u.joinTail g
      { rank := r, kind := if k.calStatus = .never then .long else .short, origin := .exit, tag := none,
        revocations := 0 }).scanGroup g).settle)) ∧
    ((∃ e ∈ (s.group g).waiting, e.rank = r) → exec (.settleExpiry r) s = .next (((u.setGroup g { s.group g with
      waiting := (s.group g).waiting.map (fun e =>
        if e.rank = r ∧ k.calStatus = .never then { e with kind := .long } else e) }).scanGroup g).settle))

/-- A token-hold expiry (R71, R85, R86): the calibration task leaves its queue, the token is free, and the entry rejoins the
tail with one more revocation, or at the third is dropped with the rank STALE, CAL_STARVED and the completion STARVED. The scan
follows. That the clock moves to the expiry's time is the model's choice (entry 1). -/
def Obligations.TokenHoldExpiry : Prop :=
  ∀ (s : State) (g : GroupId) (due : Nat) (e : Entry) (ch : Chan), s.inReset = false → (s.group g).state = .held →
    (s.group g).tokenTimer = some due → (s.group g).heldEntry = some e → (s.rank e.rank).channel = some ch →
    let u := ({ s with now := max s.now due }).setQueue ch { s.queue ch with
      tasks := (s.queue ch).tasks.filter (fun x => !(x.rank == e.rank && (x.kind == TaskKind.calShort || x.kind == TaskKind.calLong))) }
    let free (waiting : List Entry) : CalGroup :=
      { state := .free, holder := none, heldEntry := none, waiting := waiting, tokenTimer := none, discard := false }
    (e.revocations < 2 → exec (.tokenHoldExpiry g) s = .next ((u.setGroup g
      (free ((s.group g).waiting ++ [{ e with revocations := e.revocations + 1 }]))).scanGroup g).settle) ∧
    (2 ≤ e.revocations → exec (.tokenHoldExpiry g) s = .next (((((u.setGroup g (free (s.group g).waiting)).setRank e.rank
      { s.rank e.rank with calStatus := .stale, periodic := none }).notice (.calStarved e.rank g e.origin)).completeTag e.tag
        .starved .none).scanGroup g).settle)

/-- A periodic expiry (R76, R77, R78, R89): the timer stops, and a SHORT PERIODIC request joins the tail and is scanned, or
leaves the rank's entry, held entry or running calibration as it is. That the clock moves to the expiry's time is the model's
choice (entry 1). -/
def Obligations.PeriodicExpiry : Prop :=
  ∀ (s : State) (r : Slot) (g : GroupId) (due : Nat), s.inReset = false → s.Settled → (s.rank r).periodic = some due →
    (s.rank r).state = .online ∨ (s.rank r).state = .nap → (s.rank r).calStatus = .valid → (s.rank r).group = some g →
    let u := { s with now := max s.now due, ranks := s.ranks.set r { s.rank r with periodic := none } }
    (s.NoStanding g r → exec (.periodicExpiry r) s = .next (((u.joinTail g
      { rank := r, kind := .short, origin := .periodic, tag := none, revocations := 0 }).scanGroup g).settle)) ∧
    ((s.group g).holder ≠ some r → (∃ e ∈ (s.group g).waiting, e.rank = r) → exec (.periodicExpiry r) s = .next u) ∧
    ((s.group g).holder = some r → (s.group g).state = .calibrating → exec (.periodicExpiry r) s = .next u) ∧
    ((s.group g).holder = some r → (s.group g).state = .held → ∃ t, exec (.periodicExpiry r) s = .next t ∧
      t.group g = s.group g ∧ t.ranks = u.ranks ∧ t.engines = s.engines ∧ t.records = s.records)

/-! ### Completions -/

/-- The completion of a power task (R94, R97, R99, R103, R104, R107, R112, R128, R142, R144, R161, R162, R167, R168, R174): the
rank's new state, the settle timer after a DEEP_EXIT, the task out of the queue, the completion with that state before every other
record, in band 3 a thermal exit with its notice after a DEEP_ENTER unless the channel resets, and the scan of the rank's group. No
other rank's state changes. In OPEN the engine then selects again, in DRAINING it is in STANDBY and the negotiator releases with
cause RECALL or is IDLE after a loss. During a channel reset the reset ends: the mark is clear, the debts of the channel's ranks
have their tasks again and the RESET_CHANNEL commands complete with their counts. During a drain the completion is taken with all
its effects, and the drain ends where the other engine has no task in flight, a sensor read in progress being abandoned, with a stop
condition where the data line is high (R69). That the executing task is the rank's one power task is a law every step keeps
(RankLawKept). That the clock moves to the expiry's time, that clock, waiting commands and last word read are kept, the values the
fields of the bus's progress take at the drain's end, the removed counts, and the data line as an operand with the stop condition
recorded, are the model's choices (entries 1, 4, 9, 18, 19, 31). -/
def Obligations.CompletionOfPowerTask : Prop :=
  ∀ (s : State) (c : Chan) (lines : CompletionLines) (f : Flight) (due : Nat) (x : Task) (k : TaskKind) (st : RankState) (g : GroupId),
    s.inReset = false → (s.engine c).completion = some due → (s.engine c).flight = some f → f.kind = .task k →
    (s.queue c).tasks.filter (fun y => y.executing) = [x] → x.rank = f.rank → x.kind = k →
    (∀ y ∈ (s.queue c).tasks, y.rank = f.rank → y.kind.place = .power → y = x) → (s.rank f.rank).channel = some c →
    (s.rank f.rank).group = some g →
    (k, st) ∈ [(TaskKind.napEnter, RankState.nap), (.napExit, .online), (.deepEnter, .deep), (.deepExit, .settling)] →
    let u := { s with now := max s.now due }
    let settle := if k = .deepExit then some (u.now + s.timing.deepSettle) else (s.rank f.rank).settle
    let q : Queue := { s.queue c with tasks := (s.queue c).tasks.filter (fun y => !y.executing) }
    let out : State := ((u.setRank f.rank { s.rank f.rank with state := st, settle := settle }).setQueue c q).completeTag x.tag
      .done (.rankState st)
    let exits := k = .deepEnter ∧ (s.rank f.rank).band = 3 ∧ (s.engine c).resetMark = false
    let own : State := if exits then (out.setQueue c (q.insert
        { seq := 0, rank := f.rank, kind := .deepExit, cls := .urgent, count := none, tag := none, origin := .thermal
          executing := false })).notice (.thermalExit f.rank (some c) .entry)
      else out
    let still := (own.scanGroup g).setEngine c { s.engine c with
      state := .standby, flight := none, completion := none, sample := none, sampled := none }
    let waits := (s.nego c).state = .idle ∨ (s.nego c).state = .releasing
    let others := ∃ d : Chan, d ≠ c ∧ (s.engine d).flight.isSome = true
    (s.drain = false ∨ others → ∃ t, exec (.taskCompletion c lines) s = .next t ∧ (t.rank f.rank).state = st ∧
      (∀ r : Slot, r ≠ f.rank → (t.rank r).state = (s.rank r).state) ∧ (t.rank f.rank).settle = settle ∧
      own.records <+: t.records ∧ x ∉ (t.queue c).tasks ∧
      (∀ y ∈ (t.queue c).tasks, y.executing = true → (t.engine c).flight.isSome = true) ∧
      (k = .deepEnter → (s.rank f.rank).band = 3 →
        ∃ y ∈ (t.queue c).tasks, y.rank = f.rank ∧ y.kind = .deepExit ∧ y.cls = .urgent ∧ y.origin = .thermal)) ∧
    (s.drain = false → (s.engine c).resetMark = false →
      ((s.nego c).state = .opened → exec (.taskCompletion c lines) s = .next (still.runSelection c).settle) ∧
      ((s.nego c).state = .draining → (s.nego c).lost = false →
        exec (.taskCompletion c lines) s = .next (still.setNego c { s.nego c with
          state := .releasing, qreq := false, qurg := false, lost := false, cause := .recall
          releaseTimer := some (u.now + s.timing.releaseWait), releaseMark := false }).settle) ∧
      ((s.nego c).state = .draining → (s.nego c).lost = true →
        exec (.taskCompletion c lines) s = .next (still.setNego c { s.nego c with state := .idle, lost := false }).settle)) ∧
    (s.drain = false → (s.engine c).resetMark = true → waits → ∃ t, exec (.taskCompletion c lines) s = .next t ∧
      t.engine c = { still.engine c with resetMark := false } ∧ t.ranks = own.ranks ∧ t.monitor = s.monitor ∧
      own.records <+: t.records ∧
      (∀ r : Slot, (s.rank r).channel = some c → (own.rank r).state.served = true → (s.rank r).balance < 0 →
        ∃ y ∈ (t.queue c).tasks, y.rank = r ∧ y.kind = .refresh) ∧
      ((s.outstanding.map OutEntry.tag).Nodup → ∀ e ∈ s.outstanding, e.kind = .resetChannel → e.channel = .chan c →
        x.tag ≠ some e.tag → e.report .done (.count e.removed) s.timestamp ∈ t.records ∧ e ∉ t.outstanding)) ∧
    (s.drain = true → others → (s.engine c).resetMark = false → waits →
      exec (.taskCompletion c lines) s = .next still) ∧
    (s.drain = true → ¬ others → waits → exec (.taskCompletion c lines) s = .next (s.drained u.now lines.sda))

/-- The completion of a calibration (R16, R18, R87, R88, R93, R128, R142, R144, R161, R162, R167, R174): OK makes the rank VALID and
a FAULTED one ONLINE, a first FAIL asks for a LONG retry at the head of the list, a second faults the rank, a FAULTED rank's FAIL
leaves it so, and with the discard mark set the result is dropped and the calibration asked for again. Its records come first, in
the order the rules give, the task leaves the queue, the token is free and the group is scanned. In OPEN the engine then selects
again, in DRAINING it is in STANDBY and the negotiator releases with cause RECALL or is IDLE after a loss. During a channel reset
the reset ends: the mark is clear, the debts of the channel's ranks have their tasks again and the RESET_CHANNEL commands complete
with their counts. During a drain the completion is taken with all these effects, and the drain ends where the other engine has no
task in flight, a sensor read in progress being abandoned, with a stop condition where the data line is high (R69, R94, R168, R184).
That the clock moves to the expiry's time, that clock, waiting commands and last word read are kept, the values the fields of the
bus's progress take at the drain's end, the removed counts, and the data line as an operand with the stop condition recorded, are
the model's choices (entries 1, 4, 9, 18, 19, 31). -/
def Obligations.CompletionOfCalibration : Prop :=
  ∀ (s : State) (c : Chan) (lines : CompletionLines) (f : Flight) (due : Nat) (kind : CalKind) (g : GroupId),
    s.inReset = false → (s.engine c).completion = some due → (s.engine c).flight = some f →
    f.kind = .task (match kind with | .short => .calShort | .long => .calLong) → (s.engine c).sample = none →
    (s.rank f.rank).group = some g → (∀ y ∈ (s.queue c).tasks, y.rank = f.rank → y.kind ≠ .deepEnter) →
    (∀ e ∈ (s.group g).waiting, e.rank ≠ f.rank) →
    let k := s.rank f.rank
    let result := (s.engine c).sampled.getD lines.result
    let tag := (s.group g).heldEntry.bind Entry.tag
    let n := min 2 (k.failures + 1)
    let u := { s with now := max s.now due }
    let failed := u.notice (.calFailed f.rank g n)
    let others := ∃ d : Chan, d ≠ c ∧ (s.engine d).flight.isSome = true
    let waits := (s.nego c).state = .idle ∨ (s.nego c).state = .releasing
    let retry : Entry := { rank := f.rank, kind := .long, origin := .retry, tag := tag, revocations := 0 }
    let again : Entry :=
      { rank := f.rank, kind := ((s.group g).heldEntry.map Entry.kind).getD kind, tag := tag, revocations := 0
        origin := if k.state = .faulted then .host else .reset }
    let ending : State × List Entry :=
      if (s.group g).discard = true then
        (u.setRank f.rank { k with calStatus := .stale, periodic := none }, (s.group g).waiting ++ [again])
      else if result = .ok then
        ((u.completeTag tag .done (.calibration kind .ok)).setRank f.rank { k with
          calStatus := .valid, failures := 0, calTemp := if k.sensorStatus = .good then k.lastTemp else none
          state := if k.state = .faulted then .online else k.state
          periodic := if s.timing.calPeriod = 0 then none else some (u.now + s.timing.calPeriod) }, (s.group g).waiting)
      else if k.state = .faulted then
        ((failed.completeTag tag .calFailed (.calibration kind .fail)).setRank f.rank { k with failures := n }, (s.group g).waiting)
      else if n = 1 then (failed.setRank f.rank { k with failures := 1 }, retry :: (s.group g).waiting)
      else
        (((failed.notice (.rankFaulted f.rank g kind)).completeTag tag .calFailed (.calibration kind .fail)).setRank f.rank { k with
          failures := 2, state := .faulted, calStatus := .stale, periodic := none }, (s.group g).waiting)
    let own : State := (ending.1.setQueue c { s.queue c with
      tasks := (s.queue c).tasks.filter (fun y => !(y.rank == f.rank && (y.kind == .calShort || y.kind == .calLong))) }).setGroup g
        { state := .free, holder := none, heldEntry := none, waiting := ending.2, tokenTimer := none, discard := false }
    let still := (own.scanGroup g).setEngine c { s.engine c with
      state := .standby, flight := none, completion := none, sample := none, sampled := none }
    let gone (t : State) : Prop := (s.rank f.rank).channel = some c →
      (∀ (h : GroupId), ∀ e ∈ (s.group h).waiting, e.rank ≠ f.rank) →
      ∀ y ∈ (t.queue c).tasks, y.rank = f.rank → y.kind ≠ .calShort ∧ y.kind ≠ .calLong
    (s.drain = true → ¬ others → waits →
      exec (.taskCompletion c lines) s = .next (s.drained u.now lines.sda)) ∧
    (s.drain = false ∨ others → ∃ t, exec (.taskCompletion c lines) s = .next t ∧
      (∀ r : Slot, r ≠ f.rank → (t.rank r).state = (s.rank r).state ∧ (t.rank r).calStatus = (s.rank r).calStatus ∧
        (t.rank r).failures = (s.rank r).failures) ∧
      ((s.group g).discard = false → result = .ok →
        (t.rank f.rank).calStatus = .valid ∧ (t.rank f.rank).failures = 0 ∧
        (t.rank f.rank).calTemp = (if k.sensorStatus = .good then k.lastTemp else none) ∧
        (t.rank f.rank).state = (if k.state = .faulted then .online else k.state) ∧
        (t.rank f.rank).periodic =
          (if s.timing.calPeriod = 0 then none else some (max s.now due + s.timing.calPeriod)) ∧
        (t.group g).holder ≠ some f.rank ∧ gone t ∧
        (s.completeTag tag .done (.calibration kind .ok)).records <+: t.records) ∧
      ((s.group g).discard = false → result = .fail → k.state ≠ .faulted → n = 1 →
        (t.rank f.rank).failures = 1 ∧ (t.rank f.rank).state = k.state ∧ (t.rank f.rank).calStatus = k.calStatus ∧
        (t.rank f.rank).calTemp = k.calTemp ∧ (t.rank f.rank).periodic = k.periodic ∧ failed.records <+: t.records ∧
        ((t.group g).waiting.head? = some retry ∨ (t.group g).heldEntry = some retry)) ∧
      ((s.group g).discard = false → result = .fail → k.state ≠ .faulted → n = 2 →
        (t.rank f.rank).failures = 2 ∧ (t.rank f.rank).state = .faulted ∧ (t.rank f.rank).calStatus = .stale ∧
        (t.rank f.rank).periodic = none ∧ (t.group g).holder ≠ some f.rank ∧ gone t ∧
        ((failed.notice (.rankFaulted f.rank g kind)).completeTag tag .calFailed (.calibration kind .fail)).records <+:
          t.records) ∧
      ((s.group g).discard = false → result = .fail → k.state = .faulted →
        (t.rank f.rank).failures = n ∧ (t.rank f.rank).state = .faulted ∧ (t.rank f.rank).calStatus = k.calStatus ∧
        (t.group g).holder ≠ some f.rank ∧ gone t ∧
        (failed.completeTag tag .calFailed (.calibration kind .fail)).records <+: t.records) ∧
      ((s.group g).discard = true →
        (t.rank f.rank).calStatus = .stale ∧ (t.rank f.rank).failures = k.failures ∧ (t.rank f.rank).periodic = none ∧
        (t.rank f.rank).calTemp = k.calTemp ∧ (t.rank f.rank).state = k.state ∧ s.records <+: t.records ∧
        (again ∈ (t.group g).waiting ∨ (t.group g).heldEntry = some again))) ∧
    (k.channel = some c →
      (s.drain = false → (s.engine c).resetMark = false →
        ((s.nego c).state = .opened → exec (.taskCompletion c lines) s = .next (still.runSelection c).settle) ∧
        ((s.nego c).state = .draining → (s.nego c).lost = false →
          exec (.taskCompletion c lines) s = .next (still.setNego c { s.nego c with
            state := .releasing, qreq := false, qurg := false, lost := false, cause := .recall
            releaseTimer := some (u.now + s.timing.releaseWait), releaseMark := false }).settle) ∧
        ((s.nego c).state = .draining → (s.nego c).lost = true →
          exec (.taskCompletion c lines) s = .next (still.setNego c { s.nego c with state := .idle, lost := false }).settle)) ∧
      (s.drain = false → (s.engine c).resetMark = true → waits → ∃ t, exec (.taskCompletion c lines) s = .next t ∧
        t.engine c = { still.engine c with resetMark := false } ∧ t.ranks = own.ranks ∧ t.monitor = s.monitor ∧
        own.records <+: t.records ∧
        (∀ r : Slot, (s.rank r).channel = some c → (own.rank r).state.served = true → (s.rank r).balance < 0 →
          ∃ y ∈ (t.queue c).tasks, y.rank = r ∧ y.kind = .refresh) ∧
        ((s.outstanding.map OutEntry.tag).Nodup → ∀ e ∈ s.outstanding, e.kind = .resetChannel → e.channel = .chan c →
          tag ≠ some e.tag → e.report .done (.count e.removed) s.timestamp ∈ t.records ∧ e ∉ t.outstanding)) ∧
      (s.drain = true → others → (s.engine c).resetMark = false → waits → exec (.taskCompletion c lines) s = .next still))

/-- The completion of refresh work (R33, R38, R128, R142, R144, R161, R162, R167, R174, R184): an internal refresh task stays,
reclassed, while the rank owes and the channel is not resetting, and leaves otherwise; a REFRESH_NOW writes DONE with its count and
leaves; a fill leaves no record. In OPEN the engine selects again. In DRAINING the engine is in STANDBY, and the negotiator releases
with cause RECALL, or is IDLE after a loss. During a channel reset the reset ends: the mark is clear, the debts of the channel's
ranks have their tasks again and the RESET_CHANNEL commands complete with their counts. During a drain the completion is taken, and
the drain ends where the other engine has no task in flight, a sensor read in progress being abandoned, with a stop condition where
the data line is high (R69). That the clock moves to the expiry's time, that clock, waiting commands and last word read are kept,
the values the fields of the bus's progress take at the drain's end, the removed counts, and the data line as an operand with the
stop condition recorded, are the model's choices (entries 1, 4, 9, 18, 19, 31). -/
def Obligations.CompletionInDrainingWindow : Prop :=
  ∀ (s : State) (c : Chan) (lines : CompletionLines) (f : Flight) (due : Nat), s.inReset = false →
    (s.engine c).completion = some due → (s.engine c).flight = some f →
    f.kind = .task .refresh ∨ f.kind = .task .refreshNow ∨ f.kind = .fill → (s.rank f.rank).channel = some c →
    let u := { s with now := max s.now due }
    let cls := if (s.rank f.rank).urgent = true then TaskClass.urgent else .routine
    let kept (x : Task) : Task :=
      if x.rank = f.rank ∧ x.kind = .refresh then { x with executing := false, cls := cls } else { x with executing := false }
    let tasks := if f.kind = .fill then (s.queue c).tasks
      else if f.kind = .task .refresh ∧ (s.rank f.rank).balance < 0 ∧ (s.engine c).resetMark = false then
        (s.queue c).tasks.map kept
      else (s.queue c).tasks.filter (fun x => !x.executing)
    let q : Queue := { s.queue c with tasks := tasks }
    let tag := ((s.queue c).tasks.find? (fun x => x.executing)).bind Task.tag
    let v := if f.kind = .task .refreshNow then u.completeTag tag .done (.count f.n) else u
    let still := (v.setQueue c q).setEngine c { s.engine c with
      state := .standby, flight := none, completion := none, sample := none, sampled := none }
    let waits := (s.nego c).state = .idle ∨ (s.nego c).state = .releasing
    (s.drain = false → (s.engine c).resetMark = false →
      ((s.nego c).state = .opened → exec (.taskCompletion c lines) s = .next (still.runSelection c).settle) ∧
      ((s.nego c).state = .draining → (s.nego c).lost = false →
        exec (.taskCompletion c lines) s = .next (still.setNego c { s.nego c with
          state := .releasing, qreq := false, qurg := false, lost := false, cause := .recall
          releaseTimer := some (u.now + s.timing.releaseWait), releaseMark := false }).settle) ∧
      ((s.nego c).state = .draining → (s.nego c).lost = true →
        exec (.taskCompletion c lines) s = .next (still.setNego c { s.nego c with state := .idle, lost := false }).settle)) ∧
    (s.drain = false → (s.engine c).resetMark = true → waits → ∃ t, exec (.taskCompletion c lines) s = .next t ∧
      t.engine c = { still.engine c with resetMark := false } ∧ t.ranks = s.ranks ∧ t.monitor = s.monitor ∧
      v.records <+: t.records ∧
      (∀ r : Slot, (s.rank r).channel = some c → (s.rank r).state.served = true → (s.rank r).balance < 0 →
        ∃ x ∈ (t.queue c).tasks, x.rank = r ∧ x.kind = .refresh) ∧
      ((s.outstanding.map OutEntry.tag).Nodup → ∀ e ∈ s.outstanding, e.kind = .resetChannel → e.channel = .chan c →
        tag ≠ some e.tag → e.report .done (.count e.removed) s.timestamp ∈ t.records ∧ e ∉ t.outstanding)) ∧
    (s.drain = true → (∃ d : Chan, d ≠ c ∧ (s.engine d).flight.isSome = true) → (s.engine c).resetMark = false → waits →
      exec (.taskCompletion c lines) s = .next still) ∧
    (s.drain = true → (∀ d : Chan, d ≠ c → (s.engine d).flight = none) → waits →
      exec (.taskCompletion c lines) s = .next (s.drained u.now lines.sda))

/-- The sample of a calibration on a napping rank (R157, R158): the result is held, and the closing NAP_IN is driven in OPEN and
DRAINING unless the result is about to fault the rank. That the clock moves to the sample's time and that the operations driven
are kept in the flight are the model's choices (entries 1, 16). -/
def Obligations.CalResultSample : Prop :=
  ∀ (s : State) (c : Chan) (line : CalResult) (f : Flight) (due : Nat) (g : GroupId), s.inReset = false → s.Settled →
    (s.engine c).sample = some due → (s.engine c).flight = some f → (s.rank f.rank).group = some g →
    let drives := ((s.nego c).state = .opened ∨ (s.nego c).state = .draining) ∧
      (line = .ok ∨ (s.group g).discard = true ∨ (s.rank f.rank).failures = 0)
    exec (.calResultSample c line) s = .next (({ s with now := max s.now due }).setEngine c { s.engine c with
      sampled := some line, sample := none
      flight := some { f with ops := if drives then f.ops ++ [MaintOp.napIn] else f.ops, napInHeld := false } })

/-! ### The sensor bus -/

/-- A poll expiry (R49, R51, R52): the timer restarts; with a read in progress or no slot to read nothing else happens;
otherwise the first slot from the cursor that qualifies is read. That the clock moves to the expiry's time is the model's choice
(entry 1), that a data line found low is a bus fault at once also with the clock low, and that the levels are operands, are
entry 8, that a wait for the clock belongs to the attempt is entry 28, and the fields of the bus's progress are entry 9. -/
def Obligations.PollTimerExpiry : Prop :=
  ∀ (s : State) (scl sda : Bool) (due : Nat), s.inReset = false → s.Settled → s.monitor.pollTimer = some due →
    let now := max s.now due
    let m := { s.monitor with pollTimer := some (now + s.thermal.pollPeriod) }
    let has (r : Slot) : Prop := (s.rank r).state ≠ .absent ∧ (s.rank r).sensor.isSome = true
    (s.monitor.bus ≠ .idle ∨ (∀ r : Slot, ¬ has r) →
      exec (.pollTimerExpiry scl sda) s = .next { s with now := now, monitor := m }) ∧
    (s.monitor.bus = .idle → ∀ i : Slot, (∀ j : Slot, j < i → ¬ has (s.monitor.cursor + j)) → has (s.monitor.cursor + i) →
      exec (.pollTimerExpiry scl sda) s = .next { s with
        now := now
        monitor := { m with
          bus := if sda = true then .read else .recovery
          readSlot := some (s.monitor.cursor + i), discard := false, speed := s.thermal.busSpeed, phaseStart := now
          cursor := s.monitor.cursor + i + 1
          pulses := if sda = true then s.monitor.pulses else 0
          stopping := if sda = true then s.monitor.stopping else false } })

/-- The end of a read attempt (R25 to R27, R30, R50, R54 to R56, R59 to R61, R65, R76 to R78, R90, R107), after its bit periods and
the waits for the clock: a first failure is retried one bit period after, a second makes the read fail, and a good sample is
recorded with its notices. A change of band is taken by the planner as State.withBand spells it out, here and where a third failed
read puts the rank on the fallback band: the running interval, or its expiry with balance, urgent flag and refresh task; that a
running interval timer is one of a rank in service is a law every step keeps (RankLawKept). A band that so becomes 3 is taken by the
rank's power work. Then a sample that differs from the last calibration's by CalDrift makes a SHORT DRIFT request for a VALID rank
in ONLINE or NAP, which joins its group's tail and is scanned or is taken by the rank's entry, held entry or running calibration,
and any other sample asks for nothing. A fault starts recovery with its first look at the data line, and a discarded read leaves no
trace. No other slot's record changes. The clock, the levels and the waits as operands, the fields of the bus's progress and the cut
of an interval an earlier rise had cut shorter are the model's choices (entries 1, 8, 9, 10), as is what waits answer that no board
produces (entry 30). -/
def Obligations.AttemptEnd : Prop :=
  ∀ (s : State) (e : AttemptEnding) (r : Slot), s.inReset = false → s.Settled → s.monitor.readSlot = some r →
    s.monitor.bus = .read ∨ s.monitor.bus = .retry →
    let k := s.rank r
    let t := (e.word.extractLsb' 0 12).toInt
    let bit := match s.monitor.speed with | .khz100 => 1000 | .khz400 => 250
    let bad : Prop := e.ack = false ∨ e.word.getLsbD 15 = false ∨ t < -160 ∨ 511 < t
    let outcome : ReadOutcome :=
      if e.ack = false then .noAck else if e.word.getLsbD 15 = false then .invalid else .outOfRange
    let now := max s.now (s.monitor.phaseStart + (if e.ack = true then 29 * bit else 11 * bit) + e.stretch)
    let ended : Monitor := { s.monitor with bus := .idle, readSlot := none, discard := false, stopping := false, pulses := 0 }
    let band := if k.sensorStatus = .good then bandByHysteresis s.thermal k.band t else bandAfresh s.thermal t
    let drifts : Prop := s.thermal.calDrift ≠ 0 ∧ (k.state = .online ∨ k.state = .nap) ∧ k.calStatus = .valid ∧
      ∃ t0 ∈ k.calTemp, s.thermal.calDrift ≤ (t - t0).natAbs
    let good := { s with
      now := now, monitor := ended
      ranks := s.ranks.set r { k with
        sensorStatus := .good, lastTemp := some t, sensorFailures := 0, bandSource := .sensor } }
    let good1 := if k.sensorStatus = .failed then good.notice (.sensorRestored r k.channel t) else good
    let good2 := if band ≠ k.band then good1.notice (.bandChange r k.channel band) else good1
    (e.fault = false →
      (bad → s.monitor.bus = .read → exec (.attemptEnd e) s =
        .next { s with now := now, monitor := { s.monitor with bus := .retry, phaseStart := now + bit } }) ∧
      (bad → s.monitor.bus = .retry → s.FailsRead r outcome now ended (exec (.attemptEnd e) s)) ∧
      (¬ bad → s.monitor.discard = true → exec (.attemptEnd e) s = .next { s with now := now, monitor := ended }) ∧
      (¬ bad → s.monitor.discard = false → ∃ v, exec (.attemptEnd e) s = .next v ∧ v.monitor = ended ∧
        (∀ q : Slot, q ≠ r → v.rank q = s.rank q) ∧
        (v.rank r).sensorStatus = .good ∧ (v.rank r).lastTemp = some t ∧ (v.rank r).sensorFailures = 0 ∧
        (v.rank r).bandSource = .sensor ∧ (v.rank r).state = k.state ∧
        (v.rank r).band = band ∧ good2.records <+: v.records ∧
        (∀ ch : Chan, k.channel = some ch → (k.interval.isSome = true → k.state.served = true) →
          (good2.withBand r ch band).HandsOn v ((k.band ≠ 3 ∧ band = 3) ∨ drifts)) ∧
        (k.band ≠ 3 → band = 3 → s.TakesCriticalBand v r) ∧
        (∀ (g : GroupId) (ch : Chan), k.group = some g → k.channel = some ch →
          let request : Entry := { rank := r, kind := .short, origin := .drift, tag := none, revocations := 0 }
          (drifts → (v.group g).holder = some r ∨ ∃ x ∈ (v.group g).waiting, x.rank = r) ∧
          (band ≠ 3 ∨ k.band = 3 ∨ (∀ x ∈ (s.queue ch).tasks, x.rank = r → x.kind ≠ .deepEnter) →
            (¬ drifts → v.groups = s.groups) ∧
            (drifts → ¬ s.NoStanding g r → v.groups = s.groups) ∧
            (drifts → s.NoStanding g r →
              v.groups = ((({ s with now := now }).joinTail g request).scanGroup g).groups ∧
              ((v.group g).holder = some r → ∃ x ∈ (v.queue ch).tasks, x.rank = r ∧ x.kind = .calShort ∧ x.cls = .cal ∧
                x.origin = .drift ∧ x.tag = none ∧ x.executing = false)))))) ∧
    (e.fault = true →
      let start := max s.now (s.monitor.phaseStart + e.stretch)
      exec (.attemptEnd e) s = .next { s with
        now := start
        monitor := { s.monitor with bus := .recovery, pulses := 0, stopping := e.sda, phaseStart := start } })

/-- Bus recovery (R49, R55, R60 to R62): a clock held low in an attempt for 25 ms from its release starts it with its first look at
the data line, a pulse counts up to nine, a data line found high leads to a stop condition of one bit period, whose end makes the
read a failed one with BUS_FAULT, and a ninth pulse in vain or a clock held low for 25 ms stops polling and puts every sensor on
fallback, with the planner's part in each change of band as State.withBand spells it out for one rank (R27, R65). The clock, the
levels, releases and waits as operands, the fields of recovery's progress and the cut of an interval an earlier rise had cut shorter
are the model's choices (entries 1, 8, 9, 10), as are the moment from which the 25 ms before the stop condition count (entry 29),
SENSOR_BUS_FAULT as the last record of a failed recovery (entry 21) and what waits answer that no board produces (entry 30). -/
def Obligations.BusRecovery : Prop :=
  ∀ (s : State) (n : Nat) (sda : Bool) (r : Slot), s.inReset = false → s.Settled → s.monitor.readSlot = some r →
    let bit := match s.monitor.speed with | .khz100 => 1000 | .khz400 => 250
    let late := max s.now (s.monitor.phaseStart + n + 2500000)
    let pulse := max s.now (s.monitor.phaseStart + bit + n)
    let ended (start : Nat) : Monitor :=
      { s.monitor with bus := .idle, readSlot := none, discard := false, stopping := false, pulses := 0, phaseStart := start }
    let failed (v : State) (start : Nat) : Prop :=
      v.monitor = { ended start with polling := false, pollTimer := none } ∧
      (∀ q : Slot, ((s.rank q).sensor = none → v.rank q = s.rank q) ∧ ((s.rank q).sensor.isSome = true →
        (v.rank q).sensorStatus = .failed ∧ (v.rank q).lastTemp = none ∧ (v.rank q).sensorFailures = 3 ∧
        (v.rank q).bandSource = .fallback ∧ (v.rank q).band = s.thermal.fallbackBand ∧
        (v.rank q).state = (s.rank q).state ∧
        ∀ ch : Chan, (s.rank q).channel = some ch → ((s.rank q).interval.isSome = true → (s.rank q).state.served = true) →
          let w := ({ s with
            now := v.now
            ranks := s.ranks.set q { s.rank q with
              sensorStatus := .failed, lastTemp := none, sensorFailures := 3, bandSource := .fallback } }).withBand q ch
            s.thermal.fallbackBand
          let debt (v : State) : List Task := ((v.refreshTasks ch).filter (fun x => x.rank = q)).map (fun x => { x with seq := 0 })
          v.rank q = w.rank q ∧ debt v = debt w)) ∧
      (v.records.getLast? = some (.notice (.sensorBusFault
        (allSlots.filter (fun q => (s.rank q).sensor.isSome)).length) s.timestamp) ∨ min 255 (s.lost + 1) ≤ v.lost)
    (s.monitor.bus = .read ∨ s.monitor.bus = .retry → exec (.clockStretchTimeout n sda) s = .next { s with
      now := late, monitor := { s.monitor with bus := .recovery, pulses := 0, stopping := sda, phaseStart := late } }) ∧
    (s.monitor.bus = .recovery →
      (∃ v, exec (.clockStretchTimeout n sda) s = .next v ∧ v.now = late ∧ failed v s.monitor.phaseStart) ∧
      (s.monitor.stopping = true →
        s.FailsRead r .busFault pulse (ended s.monitor.phaseStart) (exec (.recoveryPulse n sda) s)) ∧
      (s.monitor.stopping = false →
        (sda = false → 8 ≤ s.monitor.pulses →
          ∃ v, exec (.recoveryPulse n sda) s = .next v ∧ v.now = pulse ∧ failed v pulse) ∧
        (sda = true ∨ s.monitor.pulses < 8 → exec (.recoveryPulse n sda) s = .next { s with
          now := pulse
          monitor := { s.monitor with pulses := s.monitor.pulses + 1, stopping := sda, phaseStart := pulse } })))

/-! ### Shared operations -/

/-- The request and urgency conditions (R129), what a negotiator makes of them at the end of an event (R130, R134, R136, R139),
and that it leaves them taken and all else alone. That conditions are taken by level at the end of an event is the model's
choice (entry 13). -/
def Obligations.Conditions : Prop :=
  ∀ (s : State) (c : Chan),
    (s.requestCondition c = true ↔ (s.engine c).resetMark = false ∧ s.drain = false ∧
      ((∃ x ∈ (s.queue c).tasks, x.cls = .urgent ∨ x.cls = .cal ∨ x.cls = .power ∨ x.kind = .refreshNow) ∨
        s.policy.gatherThreshold ≤
          (((s.queue c).tasks.filter (fun x => x.kind = .refresh)).map (fun x => (-(s.rank x.rank).balance).toNat)).sum)) ∧
    (s.urgencyCondition c = true ↔ (s.engine c).resetMark = false ∧ s.drain = false ∧
      ∃ x ∈ (s.queue c).tasks, x.cls = .urgent) ∧
    s.settle.nego c = (s.nego c).takes (s.urgencyCondition c) (s.requestCondition c) (s.now + s.timing.grantWait) ∧
    s.settle = { s with negotiators := s.settle.negotiators } ∧ s.settle.Settled

/-- The grant scan (R80, R81, R83): an entry is eligible on its four conditions, where its rank has at most one power task (R117);
the scan does nothing in a group that is not FREE or has no eligible entry, and otherwise the first eligible entry takes the token
and its calibration task joins the queue of its rank's channel. -/
def Obligations.GrantScan : Prop :=
  ∀ (s : State) (g : GroupId),
    (∀ (e : Entry) (ch : Chan), (s.rank e.rank).channel = some ch →
      (∀ x ∈ (s.queue ch).tasks, ∀ y ∈ (s.queue ch).tasks, x.rank = e.rank → y.rank = e.rank → x.kind.place = .power →
        y.kind.place = .power → x = y) →
      (s.eligible e = true ↔
        ((s.rank e.rank).state = .online ∨ (s.rank e.rank).state = .nap ∨
          ((s.rank e.rank).state = .faulted ∧ e.origin = .host)) ∧
        (∀ x ∈ (s.queue ch).tasks, x.rank = e.rank → x.kind ≠ .deepEnter) ∧
        (s.nego ch).state ≠ .stalled ∧ (s.engine ch).resetMark = false)) ∧
    ((s.group g).state ≠ .free ∨ (∀ e ∈ (s.group g).waiting, s.eligible e = false) → s.scanGroup g = s) ∧
    (∀ (before after : List Entry) (e : Entry) (ch : Chan), (s.group g).state = .free →
      (s.group g).waiting = before ++ e :: after → (∀ x ∈ before, s.eligible x = false) → s.eligible e = true →
      (s.rank e.rank).channel = some ch →
      s.scanGroup g = (s.setGroup g { s.group g with
          state := .held, holder := some e.rank, heldEntry := some e, waiting := before ++ after
          tokenTimer := some (s.now + s.timing.tokenHold) }).setQueue ch ((s.queue ch).insert
        { seq := 0, rank := e.rank, kind := if e.kind = .short then .calShort else .calLong, cls := .cal, count := none
          tag := e.tag, origin := e.origin.task, executing := false }))

/-- What a selection takes (R23, R31, R32, R34, R37, R38, R41, R84, R96, R98, R102, R110, R153 to R159): the first task in queue
order that can start, of a rank in a state it can serve, its duration that of its kind, within the budget and charged to it, its
operations driven in their order, the closing NAP_IN of a calibration held back. An internal refresh task has as many refreshes as
the debt, the policy and the budget allow and a REFRESH_NOW as many as its count and the advance limit, credited at once, and a
REFRESH_NOW that pays a debt withdraws its waiting task. A calibration makes its group CALIBRATING with the token-hold timer
stopped. A DEEP_ENTER closes the account and absorbs the waiting refresh task. A task of zero duration is completed in the
selection, which then goes on: a REFRESH_NOW with nothing to perform with DONE and 0, a nap task of a FAULTED rank with RANK_STATE.
A task passed over is executing, serves no rank in that state, does not fit or is one with no debt. That a nap task is served in
ONLINE and in NAP alike, with the duration of its kind, is the model's reading (entry 11), and that the operations driven are kept
in the flight its choice (entry 16). -/
def Obligations.SelectionStartsFirst : Prop :=
  ∀ (s : State) (c : Chan) (x : Task) (p : Plan), s.findPlan c = some (x, p) →
    let k := s.rank x.rank
    let nap (y : Task) (n : Nat) : Nat := if (s.rank y.rank).state = .nap then n else 0
    let overhead (y : Task) : Nat := nap y (s.timing.napExit + s.timing.napEntry)
    let serves (y : Task) : Prop :=
      if y.kind = .deepExit then (s.rank y.rank).state = .deep
      else if y.kind = .deepEnter then (s.rank y.rank).state = .online ∨ (s.rank y.rank).state = .nap
      else (s.rank y.rank).state = .online ∨ (s.rank y.rank).state = .nap ∨ (s.rank y.rank).state = .faulted
    let owed (y : Task) : Nat := (-(s.rank y.rank).balance).toNat
    let asked (y : Task) : Nat := min (y.count.getD 0) ((s.policy.advanceLimit : Int) - (s.rank y.rank).balance).toNat
    let length (y : Task) (n : Nat) : Nat := match y.kind with
      | .refresh | .refreshNow => overhead y + n * s.timing.refreshBusy
      | .calShort => overhead y + s.timing.calShort
      | .calLong => overhead y + s.timing.calLong
      | .napEnter => s.timing.napEntry
      | .napExit => s.timing.napExit
      | .deepEnter => nap y s.timing.napExit + n * s.timing.refreshBusy + s.timing.deepEntry
      | .deepExit => s.timing.deepExit
    let least (y : Task) : Nat := length y (match y.kind with
      | .refresh => 1
      | .refreshNow => asked y
      | .calShort | .calLong | .napEnter | .napExit | .deepEnter | .deepExit => owed y)
    let cal := x.kind = .calShort ∨ x.kind = .calLong
    let woken : List MaintOp := if k.state = .nap then [.napOut] else []
    let lowered : List MaintOp := if k.state = .nap then [.napIn] else []
    let ops : List MaintOp := match x.kind with
      | .refresh | .refreshNow => woken ++ List.replicate p.n .refresh ++ lowered
      | .calShort => woken ++ [.calShort]
      | .calLong => woken ++ [.calLong]
      | .napEnter => [.napIn]
      | .napExit => [.napOut]
      | .deepEnter => woken ++ List.replicate p.n .refresh ++ [.deepIn]
      | .deepExit => [.deepOut]
    let v := s.runSelection c
    (∃ before after, queueOrder (s.queue c).tasks = before ++ x :: after ∧ ∀ y ∈ before,
      s.planTask c y = none ∧ (s.ParameterLaw → y.executing = true ∨ ¬ serves y ∨ (s.engine c).budget < least y ∨
        (y.kind = .refresh ∧ owed y = 0))) ∧
    s.planTask c x = some p ∧ x.executing = false ∧ serves x ∧ p.duration ≤ (s.engine c).budget ∧
    (p.instant = true ↔ (x.kind = .refreshNow ∧ asked x = 0) ∨ ((x.kind = .napEnter ∨ x.kind = .napExit) ∧ k.state = .faulted)) ∧
    (p.instant = true → p.duration = 0 ∧ v = State.runSelection ((s.setQueue c { s.queue c with
        tasks := (s.queue c).tasks.filter (fun y => y ≠ x) }).completeTag x.tag
      (if x.kind = .refreshNow then .done else .rankState) (if x.kind = .refreshNow then .count 0 else .rankState .faulted)) c) ∧
    (p.instant = false →
      p.duration = length x p.n ∧ v.negotiators = s.negotiators ∧ (∀ r : Slot, r ≠ x.rank → v.rank r = s.rank r) ∧
      v.engine c = { s.engine c with
        state := .busy, budget := (s.engine c).budget - p.duration, completion := some (s.now + p.duration)
        flight := some { rank := x.rank, kind := .task x.kind, n := p.n, duration := p.duration, ops := ops
                         napInHeld := decide (cal ∧ k.state = .nap) }
        sample := if cal ∧ k.state = .nap then some (s.now + p.duration - s.timing.napEntry) else none } ∧
      (∃ y ∈ (v.queue c).tasks, y.rank = x.rank ∧ y.kind = x.kind ∧ y.tag = x.tag ∧ y.executing = true) ∧
      (x.kind = .refresh → v.rank x.rank = { k with
          balance := k.balance + p.n, urgent := decide (k.balance + p.n ≤ -(s.policy.urgentAt : Int)) } ∧
        1 ≤ p.n ∧ p.n ≤ s.policy.postponeLimit ∧ (p.n : Int) ≤ -k.balance ∧
        (p.n = s.policy.postponeLimit ∨ (p.n : Int) = -k.balance ∨
          (s.engine c).budget < overhead x + (p.n + 1) * s.timing.refreshBusy)) ∧
      (x.kind = .refreshNow → p.n = asked x ∧ v.rank x.rank = { k with
          balance := k.balance + p.n, urgent := decide (k.balance + p.n ≤ -(s.policy.urgentAt : Int)) } ∧
        (k.channel = some c → 0 ≤ k.balance + p.n →
          ∀ y ∈ (v.queue c).tasks, y.rank = x.rank → y.kind = .refresh → y.executing = true)) ∧
      (cal → v.rank x.rank = k ∧ ∀ g ∈ k.group, v.group g = { s.group g with state := .calibrating, tokenTimer := none }) ∧
      (x.kind = .deepEnter → p.n = owed x ∧
        v.rank x.rank = { k with balance := 0, urgent := false, interval := none, periodic := none } ∧
        (k.channel = some c → ∀ y ∈ (v.queue c).tasks, y.rank = x.rank → y.kind = .refresh → y.executing = true)) ∧
      (x.kind = .napEnter ∨ x.kind = .napExit ∨ x.kind = .deepExit → v.rank x.rank = k))

/-- What a selection does when no queued task can start (R39, R40, R155, R163): with fill enabled the first rank from the pointer
that qualifies gets as many refreshes as the advance limit and the budget allow, credited at once, with the pointer behind it;
otherwise the engine reports done and the negotiator releases with cause DONE. -/
def Obligations.FillOrDone : Prop :=
  ∀ (s : State) (c : Chan), s.findPlan c = none → 1 ≤ s.timing.refreshBusy →
    let limit : Int := s.policy.advanceLimit
    let budget := (s.engine c).budget
    let fits (r : Slot) : Prop :=
      (s.rank r).channel = some c ∧ ((s.rank r).state = .online ∨ (s.rank r).state = .faulted) ∧ (s.rank r).balance < limit ∧
        s.deepEnterQueued r = false ∧ s.timing.refreshBusy ≤ budget
    let v := s.runSelection c
    (s.policy.advanceEnable = true → ∀ i : Slot, (∀ j : Slot, j < i → ¬ fits ((s.engine c).pointer + j)) →
      fits ((s.engine c).pointer + i) →
      let r := (s.engine c).pointer + i
      ∃ f ∈ (v.engine c).flight, f.rank = r ∧ f.kind = .fill ∧ 1 ≤ f.n ∧ f.duration = f.n * s.timing.refreshBusy ∧
        (v.engine c).state = .busy ∧ (v.engine c).budget + f.duration = budget ∧
        (v.engine c).completion = some (s.now + f.duration) ∧ (v.engine c).pointer = r + 1 ∧
        (v.rank r).balance = (s.rank r).balance + f.n ∧ (v.rank r).balance ≤ limit ∧
        ((v.rank r).balance = limit ∨ budget < (f.n + 1) * s.timing.refreshBusy)) ∧
    (s.policy.advanceEnable = false ∨ (∀ r : Slot, ¬ fits r) →
      v = (s.setEngine c { s.engine c with state := .standby }).setNego c { s.nego c with
        state := .releasing, qreq := false, qurg := false, lost := false, cause := .done
        releaseTimer := some (s.now + s.timing.releaseWait), releaseMark := false })

/-- A task begins on a channel only in OPEN, at a grant or at the completion of the task before it (R140, R151). -/
def Obligations.TasksBeginInOpenWindow : Prop :=
  ∀ (s : State) (i : Instr) (c : Chan) (t : State), exec i s = .next t →
    (t.engine c).completion.isSome = true → (t.engine c).completion ≠ (s.engine c).completion →
    (t.nego c).state = .opened ∧ (t.engine c).state = .busy ∧
      ((i = .qgntRise c ∧ ((s.nego c).state = .requesting ∨ (s.nego c).state = .stalled)) ∨
        ((∃ lines, i = .taskCompletion c lines) ∧ (s.nego c).state = .opened))

/-- The band of a sample (R57, R58): a rise to the highest threshold reached above the band, otherwise the fall to the first band
whose falling threshold the temperature has not passed, and from the fallback band the highest of those. -/
def Obligations.BandSort : Prop :=
  ∀ (th : Thermal) (t : Temp),
    let rise (b : Band) : Temp := if b = 3 then th.rise3 else if b = 2 then th.rise2 else th.rise1
    let afresh := bandAfresh th t
    (∀ c : Band,
      let b := bandByHysteresis th c t
      ((∃ j : Band, c < j ∧ rise j ≤ t) → c < b ∧ rise b ≤ t ∧ ∀ j : Band, b < j → t < rise j) ∧
      ((∀ j : Band, c < j → t < rise j) → b ≤ c ∧ (b = 0 ∨ rise b - th.hyst ≤ t) ∧
        ∀ j : Band, b < j → j ≤ c → t < rise j - th.hyst)) ∧
    (afresh = 0 ∨ rise afresh - th.hyst ≤ t) ∧ ∀ j : Band, afresh < j → t < rise j - th.hyst

/-- A notice is admitted at the tail with the counter's value while the margin is above 0, and counted as lost up to 255 otherwise
(R177, R179), and INT follows the enable bit, the record count and the threshold (R181). -/
def Obligations.NoticeAndInterrupt : Prop :=
  ∀ (s : State) (body : Notice),
    (s.records.length + s.outstanding.length < 64 →
      s.notice body = { s with records := s.records ++ [.notice body s.timestamp] }) ∧
    (64 ≤ s.records.length + s.outstanding.length → s.notice body = { s with lost := min 255 (s.lost + 1) }) ∧
    (s.int = true ↔ s.intEnable = true ∧ s.intThreshold ≤ s.records.length)

/-- A completion joins the tail of the report queue with the fields its table entry holds, and frees that entry and no other
(R171, R175, R178). -/
def Obligations.CompletionRecord : Prop :=
  ∀ (s : State) (e : OutEntry) (status : Status) (detail : Detail), (s.outstanding.map OutEntry.tag).Nodup → e ∈ s.outstanding →
    s.complete e.tag status detail = { s with
      outstanding := s.outstanding.filter (fun x => x.tag ≠ e.tag)
      records := s.records ++ [.completion e.tag e.kind status e.slot e.channel detail s.timestamp] } ∧
    (s.complete e.tag status detail).outstanding.length + (s.complete e.tag status detail).records.length =
      s.outstanding.length + s.records.length

/-! ### Laws every step keeps -/

/-- Every law holds after reset. The fields of the bus's progress, of which SensorLaw speaks, hold the model's values (entry 9). -/
def Obligations.LawsHoldAtReset : Prop :=
  State.reset.ReportLaw ∧ State.reset.ParameterLaw ∧ State.reset.BalanceLaw ∧ State.reset.HandshakeLaw ∧ State.reset.RankLaw ∧
    State.reset.WorkLaw ∧ State.reset.SensorLaw ∧ State.reset.Settled

/-- Records and outstanding commands never exceed 64 together, 16 commands wait at most, no two with one tag (R171, R178). -/
def Obligations.ReportLawKept : Prop := ∀ s t : State, step s = .next t → s.ReportLaw → t.ReportLaw

/-- Every parameter stays in its range, with the window budget at least the longest task (R43, R66, R173). -/
def Obligations.ParameterLawKept : Prop := ∀ s t : State, step s = .next t → s.ParameterLaw → t.ParameterLaw

/-- Every balance stays between −PostponeLimit and +AdvanceLimit (R22). -/
def Obligations.BalanceLawKept : Prop := ∀ s t : State, step s = .next t → s.BalanceLaw → t.BalanceLaw

/-- The negotiators, their lines, timers and marks, and the engines stay in step (R133 to R151, R184). -/
def Obligations.HandshakeLawKept : Prop := ∀ s t : State, step s = .next t → s.HandshakeLaw → t.HandshakeLaw

/-- The timers of a rank follow its state, and work is queued or in flight for ranks of its own channel in service (R1, R4, R118,
R121). And, with the handshake in step, the queues and the groups agree (R70 to R73, R75, R95, R107, R109, R117, R121): one task for
a rank in each place, no task for a rank in SETTLING and none but a DEEP_EXIT for one in DEEP, beside a DEEP_ENTER nothing but the
refresh task it absorbs as it starts, a calibration task exactly for a rank that holds its group's token, one entry for a rank, LONG
for a NEVER one, and an exit on its way for every rank in DEEP and band 3. That such an exit is URGENT also where it is a host
DEEP_EXIT accepted during a channel reset is the model's reading (entry 12). -/
def Obligations.RankLawKept : Prop :=
  ∀ s t : State, step s = .next t → s.RankLaw → t.RankLaw ∧ (s.HandshakeLaw → s.WorkLaw → t.WorkLaw)

/-- The sensor records, the band sources and the polling state agree (R47, R48, R53 to R56). -/
def Obligations.SensorLawKept : Prop := ∀ s t : State, step s = .next t → s.SensorLaw → t.SensorLaw

/-- No event leaves a condition untaken by its negotiator (R130, R134, R136, R139). That conditions are taken by level at the
end of an event is the model's choice (entry 13). -/
def Obligations.ConditionsTaken : Prop := ∀ s t : State, step s = .next t → s.Settled → t.Settled
end

