-- ==== Sys2Proof/Laws/State.lean ====
section
/-! SUPPORT. The small lemmas of the state: what each record update leaves and gives, one lemma per field per update. -/

namespace Sys2Proof.Machine

/-! ### One value for each channel -/

@[simp] theorem PerChan.get_set_self {α : Type} (p : PerChan α) (c : Chan) (x : α) : (p.set c x).get c = x := by
  cases c <;> rfl

theorem PerChan.get_set_ne {α : Type} (p : PerChan α) {c d : Chan} (x : α) (h : d ≠ c) : (p.set c x).get d = p.get d := by
  cases c <;> cases d <;> first | rfl | exact absurd rfl h

theorem PerChan.get_set {α : Type} (p : PerChan α) (c d : Chan) (x : α) : (p.set c x).get d = if d = c then x else p.get d := by
  cases c <;> cases d <;> rfl

@[simp] theorem PerChan.set_get {α : Type} (p : PerChan α) (c : Chan) : p.set c (p.get c) = p := by
  cases c <;> rfl

@[simp] theorem PerChan.set_set {α : Type} (p : PerChan α) (c : Chan) (x y : α) : (p.set c x).set c y = p.set c y := by
  cases c <;> rfl

/-! ### The record an update writes -/

@[simp] theorem State.rank_setRank_self (s : State) (r : Slot) (k : Rank) : (s.setRank r k).rank r = k := by
  simp [State.rank, State.setRank]

theorem State.rank_setRank (s : State) (r q : Slot) (k : Rank) : (s.setRank r k).rank q = if q = r then k else s.rank q := by
  by_cases h : q = r
  · simp [h]
  · have h' : r.val ≠ q.val := fun e => h (Fin.ext e.symm)
    simp [State.rank, State.setRank, h, h']

theorem State.rank_setRank_ne (s : State) {r q : Slot} (k : Rank) (h : q ≠ r) : (s.setRank r k).rank q = s.rank q := by
  simp [State.rank_setRank, h]

@[simp] theorem State.group_setGroup_self (s : State) (g : GroupId) (x : CalGroup) : (s.setGroup g x).group g = x := by
  simp [State.group, State.setGroup]

theorem State.group_setGroup (s : State) (g h : GroupId) (x : CalGroup) :
    (s.setGroup g x).group h = if h = g then x else s.group h := by
  by_cases e : h = g
  · simp [e]
  · have e' : g.val ≠ h.val := fun i => e (Fin.ext i.symm)
    simp [State.group, State.setGroup, e, e']

theorem State.group_setGroup_ne (s : State) {g h : GroupId} (x : CalGroup) (e : h ≠ g) :
    (s.setGroup g x).group h = s.group h := by
  simp [State.group_setGroup, e]

@[simp] theorem State.queue_setQueue_self (s : State) (c : Chan) (q : Queue) : (s.setQueue c q).queue c = q :=
  PerChan.get_set_self ..

theorem State.queue_setQueue (s : State) (c d : Chan) (q : Queue) : (s.setQueue c q).queue d = if d = c then q else s.queue d :=
  PerChan.get_set ..

theorem State.queue_setQueue_ne (s : State) {c d : Chan} (q : Queue) (h : d ≠ c) : (s.setQueue c q).queue d = s.queue d :=
  PerChan.get_set_ne _ _ h

@[simp] theorem State.setQueue_queue_same (s : State) (c : Chan) : s.setQueue c (s.queue c) = s := by
  simp [State.setQueue, State.queue]

@[simp] theorem State.setQueue_setQueue (s : State) (c : Chan) (x y : Queue) : (s.setQueue c x).setQueue c y = s.setQueue c y := by
  simp [State.setQueue]

@[simp] theorem State.nego_setNego_self (s : State) (c : Chan) (n : Negotiator) : (s.setNego c n).nego c = n :=
  PerChan.get_set_self ..

theorem State.nego_setNego (s : State) (c d : Chan) (n : Negotiator) : (s.setNego c n).nego d = if d = c then n else s.nego d :=
  PerChan.get_set ..

theorem State.nego_setNego_ne (s : State) {c d : Chan} (n : Negotiator) (h : d ≠ c) : (s.setNego c n).nego d = s.nego d :=
  PerChan.get_set_ne _ _ h

@[simp] theorem State.setNego_nego_same (s : State) (c : Chan) : s.setNego c (s.nego c) = s := by
  simp [State.setNego, State.nego]

@[simp] theorem State.setNego_setNego (s : State) (c : Chan) (x y : Negotiator) : (s.setNego c x).setNego c y = s.setNego c y := by
  simp [State.setNego]

@[simp] theorem State.engine_setEngine_self (s : State) (c : Chan) (e : Engine) : (s.setEngine c e).engine c = e :=
  PerChan.get_set_self ..

theorem State.engine_setEngine (s : State) (c d : Chan) (e : Engine) : (s.setEngine c e).engine d = if d = c then e else s.engine d :=
  PerChan.get_set ..

theorem State.engine_setEngine_ne (s : State) {c d : Chan} (e : Engine) (h : d ≠ c) : (s.setEngine c e).engine d = s.engine d :=
  PerChan.get_set_ne _ _ h

@[simp] theorem State.setEngine_engine_same (s : State) (c : Chan) : s.setEngine c (s.engine c) = s := by
  simp [State.setEngine, State.engine]

@[simp] theorem State.setEngine_setEngine (s : State) (c : Chan) (x y : Engine) : (s.setEngine c x).setEngine c y = s.setEngine c y := by
  simp [State.setEngine]

@[simp] theorem State.setRank_rank_same (s : State) (r : Slot) : s.setRank r (s.rank r) = s := by
  simp [State.setRank, State.rank]

@[simp] theorem State.setRank_setRank (s : State) (r : Slot) (x y : Rank) : (s.setRank r x).setRank r y = s.setRank r y := by
  simp [State.setRank]

@[simp] theorem State.setGroup_group_same (s : State) (g : GroupId) : s.setGroup g (s.group g) = s := by
  simp [State.setGroup, State.group]

@[simp] theorem State.setGroup_setGroup (s : State) (g : GroupId) (x y : CalGroup) :
    (s.setGroup g x).setGroup g y = s.setGroup g y := by
  simp [State.setGroup]

@[simp] theorem State.reach_now (s : State) (due : Nat) : (s.reach due).now = max s.now due := rfl
@[simp] theorem State.setMonitor_monitor (s : State) (m : Monitor) : (s.setMonitor m).monitor = m := rfl

/-! ### Everything else an update leaves -/

@[simp] theorem State.setRank_now (s : State) (r : Slot) (k : Rank) : (s.setRank r k).now = s.now := rfl
@[simp] theorem State.setRank_tickBase (s : State) (r : Slot) (k : Rank) : (s.setRank r k).tickBase = s.tickBase := rfl
@[simp] theorem State.setRank_timestamp (s : State) (r : Slot) (k : Rank) : (s.setRank r k).timestamp = s.timestamp := rfl
@[simp] theorem State.setRank_inReset (s : State) (r : Slot) (k : Rank) : (s.setRank r k).inReset = s.inReset := rfl
@[simp] theorem State.setRank_drain (s : State) (r : Slot) (k : Rank) : (s.setRank r k).drain = s.drain := rfl
@[simp] theorem State.setRank_timing (s : State) (r : Slot) (k : Rank) : (s.setRank r k).timing = s.timing := rfl
@[simp] theorem State.setRank_policy (s : State) (r : Slot) (k : Rank) : (s.setRank r k).policy = s.policy := rfl
@[simp] theorem State.setRank_thermal (s : State) (r : Slot) (k : Rank) : (s.setRank r k).thermal = s.thermal := rfl
@[simp] theorem State.setRank_monitor (s : State) (r : Slot) (k : Rank) : (s.setRank r k).monitor = s.monitor := rfl
@[simp] theorem State.setRank_groups (s : State) (r : Slot) (k : Rank) : (s.setRank r k).groups = s.groups := rfl
@[simp] theorem State.setRank_queues (s : State) (r : Slot) (k : Rank) : (s.setRank r k).queues = s.queues := rfl
@[simp] theorem State.setRank_negotiators (s : State) (r : Slot) (k : Rank) : (s.setRank r k).negotiators = s.negotiators := rfl
@[simp] theorem State.setRank_engines (s : State) (r : Slot) (k : Rank) : (s.setRank r k).engines = s.engines := rfl
@[simp] theorem State.setRank_staging (s : State) (r : Slot) (k : Rank) : (s.setRank r k).staging = s.staging := rfl
@[simp] theorem State.setRank_submitStatus (s : State) (r : Slot) (k : Rank) : (s.setRank r k).submitStatus = s.submitStatus := rfl
@[simp] theorem State.setRank_outstanding (s : State) (r : Slot) (k : Rank) : (s.setRank r k).outstanding = s.outstanding := rfl
@[simp] theorem State.setRank_records (s : State) (r : Slot) (k : Rank) : (s.setRank r k).records = s.records := rfl
@[simp] theorem State.setRank_lost (s : State) (r : Slot) (k : Rank) : (s.setRank r k).lost = s.lost := rfl
@[simp] theorem State.setRank_intEnable (s : State) (r : Slot) (k : Rank) : (s.setRank r k).intEnable = s.intEnable := rfl
@[simp] theorem State.setRank_intThreshold (s : State) (r : Slot) (k : Rank) : (s.setRank r k).intThreshold = s.intThreshold := rfl
@[simp] theorem State.setRank_rankCopies (s : State) (r : Slot) (k : Rank) : (s.setRank r k).rankCopies = s.rankCopies := rfl
@[simp] theorem State.setRank_groupCopies (s : State) (r : Slot) (k : Rank) : (s.setRank r k).groupCopies = s.groupCopies := rfl
@[simp] theorem State.setRank_readData (s : State) (r : Slot) (k : Rank) : (s.setRank r k).readData = s.readData := rfl
@[simp] theorem State.setRank_pending (s : State) (r : Slot) (k : Rank) : (s.setRank r k).pending = s.pending := rfl
@[simp] theorem State.group_of_setRank (s : State) (r : Slot) (k : Rank) (h' : GroupId) :
    (s.setRank r k).group h' = s.group h' := rfl
@[simp] theorem State.queue_of_setRank (s : State) (r : Slot) (k : Rank) (d' : Chan) : (s.setRank r k).queue d' = s.queue d' := rfl
@[simp] theorem State.nego_of_setRank (s : State) (r : Slot) (k : Rank) (d' : Chan) : (s.setRank r k).nego d' = s.nego d' := rfl
@[simp] theorem State.engine_of_setRank (s : State) (r : Slot) (k : Rank) (d' : Chan) :
    (s.setRank r k).engine d' = s.engine d' := rfl

@[simp] theorem State.setGroup_now (s : State) (g : GroupId) (x : CalGroup) : (s.setGroup g x).now = s.now := rfl
@[simp] theorem State.setGroup_tickBase (s : State) (g : GroupId) (x : CalGroup) : (s.setGroup g x).tickBase = s.tickBase := rfl
@[simp] theorem State.setGroup_timestamp (s : State) (g : GroupId) (x : CalGroup) : (s.setGroup g x).timestamp = s.timestamp := rfl
@[simp] theorem State.setGroup_inReset (s : State) (g : GroupId) (x : CalGroup) : (s.setGroup g x).inReset = s.inReset := rfl
@[simp] theorem State.setGroup_drain (s : State) (g : GroupId) (x : CalGroup) : (s.setGroup g x).drain = s.drain := rfl
@[simp] theorem State.setGroup_ranks (s : State) (g : GroupId) (x : CalGroup) : (s.setGroup g x).ranks = s.ranks := rfl
@[simp] theorem State.setGroup_timing (s : State) (g : GroupId) (x : CalGroup) : (s.setGroup g x).timing = s.timing := rfl
@[simp] theorem State.setGroup_policy (s : State) (g : GroupId) (x : CalGroup) : (s.setGroup g x).policy = s.policy := rfl
@[simp] theorem State.setGroup_thermal (s : State) (g : GroupId) (x : CalGroup) : (s.setGroup g x).thermal = s.thermal := rfl
@[simp] theorem State.setGroup_monitor (s : State) (g : GroupId) (x : CalGroup) : (s.setGroup g x).monitor = s.monitor := rfl
@[simp] theorem State.setGroup_queues (s : State) (g : GroupId) (x : CalGroup) : (s.setGroup g x).queues = s.queues := rfl
@[simp] theorem State.setGroup_negotiators (s : State) (g : GroupId) (x : CalGroup) :
    (s.setGroup g x).negotiators = s.negotiators := rfl
@[simp] theorem State.setGroup_engines (s : State) (g : GroupId) (x : CalGroup) : (s.setGroup g x).engines = s.engines := rfl
@[simp] theorem State.setGroup_staging (s : State) (g : GroupId) (x : CalGroup) : (s.setGroup g x).staging = s.staging := rfl
@[simp] theorem State.setGroup_submitStatus (s : State) (g : GroupId) (x : CalGroup) :
    (s.setGroup g x).submitStatus = s.submitStatus := rfl
@[simp] theorem State.setGroup_outstanding (s : State) (g : GroupId) (x : CalGroup) :
    (s.setGroup g x).outstanding = s.outstanding := rfl
@[simp] theorem State.setGroup_records (s : State) (g : GroupId) (x : CalGroup) : (s.setGroup g x).records = s.records := rfl
@[simp] theorem State.setGroup_lost (s : State) (g : GroupId) (x : CalGroup) : (s.setGroup g x).lost = s.lost := rfl
@[simp] theorem State.setGroup_intEnable (s : State) (g : GroupId) (x : CalGroup) : (s.setGroup g x).intEnable = s.intEnable := rfl
@[simp] theorem State.setGroup_intThreshold (s : State) (g : GroupId) (x : CalGroup) :
    (s.setGroup g x).intThreshold = s.intThreshold := rfl
@[simp] theorem State.setGroup_rankCopies (s : State) (g : GroupId) (x : CalGroup) :
    (s.setGroup g x).rankCopies = s.rankCopies := rfl
@[simp] theorem State.setGroup_groupCopies (s : State) (g : GroupId) (x : CalGroup) :
    (s.setGroup g x).groupCopies = s.groupCopies := rfl
@[simp] theorem State.setGroup_readData (s : State) (g : GroupId) (x : CalGroup) : (s.setGroup g x).readData = s.readData := rfl
@[simp] theorem State.setGroup_pending (s : State) (g : GroupId) (x : CalGroup) : (s.setGroup g x).pending = s.pending := rfl
@[simp] theorem State.rank_of_setGroup (s : State) (g : GroupId) (x : CalGroup) (q' : Slot) :
    (s.setGroup g x).rank q' = s.rank q' := rfl
@[simp] theorem State.queue_of_setGroup (s : State) (g : GroupId) (x : CalGroup) (d' : Chan) :
    (s.setGroup g x).queue d' = s.queue d' := rfl
@[simp] theorem State.nego_of_setGroup (s : State) (g : GroupId) (x : CalGroup) (d' : Chan) :
    (s.setGroup g x).nego d' = s.nego d' := rfl
@[simp] theorem State.engine_of_setGroup (s : State) (g : GroupId) (x : CalGroup) (d' : Chan) :
    (s.setGroup g x).engine d' = s.engine d' := rfl

@[simp] theorem State.setQueue_now (s : State) (c : Chan) (q : Queue) : (s.setQueue c q).now = s.now := rfl
@[simp] theorem State.setQueue_tickBase (s : State) (c : Chan) (q : Queue) : (s.setQueue c q).tickBase = s.tickBase := rfl
@[simp] theorem State.setQueue_timestamp (s : State) (c : Chan) (q : Queue) : (s.setQueue c q).timestamp = s.timestamp := rfl
@[simp] theorem State.setQueue_inReset (s : State) (c : Chan) (q : Queue) : (s.setQueue c q).inReset = s.inReset := rfl
@[simp] theorem State.setQueue_drain (s : State) (c : Chan) (q : Queue) : (s.setQueue c q).drain = s.drain := rfl
@[simp] theorem State.setQueue_ranks (s : State) (c : Chan) (q : Queue) : (s.setQueue c q).ranks = s.ranks := rfl
@[simp] theorem State.setQueue_timing (s : State) (c : Chan) (q : Queue) : (s.setQueue c q).timing = s.timing := rfl
@[simp] theorem State.setQueue_policy (s : State) (c : Chan) (q : Queue) : (s.setQueue c q).policy = s.policy := rfl
@[simp] theorem State.setQueue_thermal (s : State) (c : Chan) (q : Queue) : (s.setQueue c q).thermal = s.thermal := rfl
@[simp] theorem State.setQueue_monitor (s : State) (c : Chan) (q : Queue) : (s.setQueue c q).monitor = s.monitor := rfl
@[simp] theorem State.setQueue_groups (s : State) (c : Chan) (q : Queue) : (s.setQueue c q).groups = s.groups := rfl
@[simp] theorem State.setQueue_negotiators (s : State) (c : Chan) (q : Queue) : (s.setQueue c q).negotiators = s.negotiators := rfl
@[simp] theorem State.setQueue_engines (s : State) (c : Chan) (q : Queue) : (s.setQueue c q).engines = s.engines := rfl
@[simp] theorem State.setQueue_staging (s : State) (c : Chan) (q : Queue) : (s.setQueue c q).staging = s.staging := rfl
@[simp] theorem State.setQueue_submitStatus (s : State) (c : Chan) (q : Queue) :
    (s.setQueue c q).submitStatus = s.submitStatus := rfl
@[simp] theorem State.setQueue_outstanding (s : State) (c : Chan) (q : Queue) : (s.setQueue c q).outstanding = s.outstanding := rfl
@[simp] theorem State.setQueue_records (s : State) (c : Chan) (q : Queue) : (s.setQueue c q).records = s.records := rfl
@[simp] theorem State.setQueue_lost (s : State) (c : Chan) (q : Queue) : (s.setQueue c q).lost = s.lost := rfl
@[simp] theorem State.setQueue_intEnable (s : State) (c : Chan) (q : Queue) : (s.setQueue c q).intEnable = s.intEnable := rfl
@[simp] theorem State.setQueue_intThreshold (s : State) (c : Chan) (q : Queue) :
    (s.setQueue c q).intThreshold = s.intThreshold := rfl
@[simp] theorem State.setQueue_rankCopies (s : State) (c : Chan) (q : Queue) : (s.setQueue c q).rankCopies = s.rankCopies := rfl
@[simp] theorem State.setQueue_groupCopies (s : State) (c : Chan) (q : Queue) : (s.setQueue c q).groupCopies = s.groupCopies := rfl
@[simp] theorem State.setQueue_readData (s : State) (c : Chan) (q : Queue) : (s.setQueue c q).readData = s.readData := rfl
@[simp] theorem State.setQueue_pending (s : State) (c : Chan) (q : Queue) : (s.setQueue c q).pending = s.pending := rfl
@[simp] theorem State.rank_of_setQueue (s : State) (c : Chan) (q : Queue) (q' : Slot) : (s.setQueue c q).rank q' = s.rank q' := rfl
@[simp] theorem State.group_of_setQueue (s : State) (c : Chan) (q : Queue) (h' : GroupId) :
    (s.setQueue c q).group h' = s.group h' := rfl
@[simp] theorem State.nego_of_setQueue (s : State) (c : Chan) (q : Queue) (d' : Chan) : (s.setQueue c q).nego d' = s.nego d' := rfl
@[simp] theorem State.engine_of_setQueue (s : State) (c : Chan) (q : Queue) (d' : Chan) :
    (s.setQueue c q).engine d' = s.engine d' := rfl

@[simp] theorem State.setNego_now (s : State) (c : Chan) (n : Negotiator) : (s.setNego c n).now = s.now := rfl
@[simp] theorem State.setNego_tickBase (s : State) (c : Chan) (n : Negotiator) : (s.setNego c n).tickBase = s.tickBase := rfl
@[simp] theorem State.setNego_timestamp (s : State) (c : Chan) (n : Negotiator) : (s.setNego c n).timestamp = s.timestamp := rfl
@[simp] theorem State.setNego_inReset (s : State) (c : Chan) (n : Negotiator) : (s.setNego c n).inReset = s.inReset := rfl
@[simp] theorem State.setNego_drain (s : State) (c : Chan) (n : Negotiator) : (s.setNego c n).drain = s.drain := rfl
@[simp] theorem State.setNego_ranks (s : State) (c : Chan) (n : Negotiator) : (s.setNego c n).ranks = s.ranks := rfl
@[simp] theorem State.setNego_timing (s : State) (c : Chan) (n : Negotiator) : (s.setNego c n).timing = s.timing := rfl
@[simp] theorem State.setNego_policy (s : State) (c : Chan) (n : Negotiator) : (s.setNego c n).policy = s.policy := rfl
@[simp] theorem State.setNego_thermal (s : State) (c : Chan) (n : Negotiator) : (s.setNego c n).thermal = s.thermal := rfl
@[simp] theorem State.setNego_monitor (s : State) (c : Chan) (n : Negotiator) : (s.setNego c n).monitor = s.monitor := rfl
@[simp] theorem State.setNego_groups (s : State) (c : Chan) (n : Negotiator) : (s.setNego c n).groups = s.groups := rfl
@[simp] theorem State.setNego_queues (s : State) (c : Chan) (n : Negotiator) : (s.setNego c n).queues = s.queues := rfl
@[simp] theorem State.setNego_engines (s : State) (c : Chan) (n : Negotiator) : (s.setNego c n).engines = s.engines := rfl
@[simp] theorem State.setNego_staging (s : State) (c : Chan) (n : Negotiator) : (s.setNego c n).staging = s.staging := rfl
@[simp] theorem State.setNego_submitStatus (s : State) (c : Chan) (n : Negotiator) :
    (s.setNego c n).submitStatus = s.submitStatus := rfl
@[simp] theorem State.setNego_outstanding (s : State) (c : Chan) (n : Negotiator) :
    (s.setNego c n).outstanding = s.outstanding := rfl
@[simp] theorem State.setNego_records (s : State) (c : Chan) (n : Negotiator) : (s.setNego c n).records = s.records := rfl
@[simp] theorem State.setNego_lost (s : State) (c : Chan) (n : Negotiator) : (s.setNego c n).lost = s.lost := rfl
@[simp] theorem State.setNego_intEnable (s : State) (c : Chan) (n : Negotiator) : (s.setNego c n).intEnable = s.intEnable := rfl
@[simp] theorem State.setNego_intThreshold (s : State) (c : Chan) (n : Negotiator) :
    (s.setNego c n).intThreshold = s.intThreshold := rfl
@[simp] theorem State.setNego_rankCopies (s : State) (c : Chan) (n : Negotiator) : (s.setNego c n).rankCopies = s.rankCopies := rfl
@[simp] theorem State.setNego_groupCopies (s : State) (c : Chan) (n : Negotiator) :
    (s.setNego c n).groupCopies = s.groupCopies := rfl
@[simp] theorem State.setNego_readData (s : State) (c : Chan) (n : Negotiator) : (s.setNego c n).readData = s.readData := rfl
@[simp] theorem State.setNego_pending (s : State) (c : Chan) (n : Negotiator) : (s.setNego c n).pending = s.pending := rfl
@[simp] theorem State.rank_of_setNego (s : State) (c : Chan) (n : Negotiator) (q' : Slot) :
    (s.setNego c n).rank q' = s.rank q' := rfl
@[simp] theorem State.group_of_setNego (s : State) (c : Chan) (n : Negotiator) (h' : GroupId) :
    (s.setNego c n).group h' = s.group h' := rfl
@[simp] theorem State.queue_of_setNego (s : State) (c : Chan) (n : Negotiator) (d' : Chan) :
    (s.setNego c n).queue d' = s.queue d' := rfl
@[simp] theorem State.engine_of_setNego (s : State) (c : Chan) (n : Negotiator) (d' : Chan) :
    (s.setNego c n).engine d' = s.engine d' := rfl

@[simp] theorem State.setEngine_now (s : State) (c : Chan) (e : Engine) : (s.setEngine c e).now = s.now := rfl
@[simp] theorem State.setEngine_tickBase (s : State) (c : Chan) (e : Engine) : (s.setEngine c e).tickBase = s.tickBase := rfl
@[simp] theorem State.setEngine_timestamp (s : State) (c : Chan) (e : Engine) : (s.setEngine c e).timestamp = s.timestamp := rfl
@[simp] theorem State.setEngine_inReset (s : State) (c : Chan) (e : Engine) : (s.setEngine c e).inReset = s.inReset := rfl
@[simp] theorem State.setEngine_drain (s : State) (c : Chan) (e : Engine) : (s.setEngine c e).drain = s.drain := rfl
@[simp] theorem State.setEngine_ranks (s : State) (c : Chan) (e : Engine) : (s.setEngine c e).ranks = s.ranks := rfl
@[simp] theorem State.setEngine_timing (s : State) (c : Chan) (e : Engine) : (s.setEngine c e).timing = s.timing := rfl
@[simp] theorem State.setEngine_policy (s : State) (c : Chan) (e : Engine) : (s.setEngine c e).policy = s.policy := rfl
@[simp] theorem State.setEngine_thermal (s : State) (c : Chan) (e : Engine) : (s.setEngine c e).thermal = s.thermal := rfl
@[simp] theorem State.setEngine_monitor (s : State) (c : Chan) (e : Engine) : (s.setEngine c e).monitor = s.monitor := rfl
@[simp] theorem State.setEngine_groups (s : State) (c : Chan) (e : Engine) : (s.setEngine c e).groups = s.groups := rfl
@[simp] theorem State.setEngine_queues (s : State) (c : Chan) (e : Engine) : (s.setEngine c e).queues = s.queues := rfl
@[simp] theorem State.setEngine_negotiators (s : State) (c : Chan) (e : Engine) :
    (s.setEngine c e).negotiators = s.negotiators := rfl
@[simp] theorem State.setEngine_staging (s : State) (c : Chan) (e : Engine) : (s.setEngine c e).staging = s.staging := rfl
@[simp] theorem State.setEngine_submitStatus (s : State) (c : Chan) (e : Engine) :
    (s.setEngine c e).submitStatus = s.submitStatus := rfl
@[simp] theorem State.setEngine_outstanding (s : State) (c : Chan) (e : Engine) :
    (s.setEngine c e).outstanding = s.outstanding := rfl
@[simp] theorem State.setEngine_records (s : State) (c : Chan) (e : Engine) : (s.setEngine c e).records = s.records := rfl
@[simp] theorem State.setEngine_lost (s : State) (c : Chan) (e : Engine) : (s.setEngine c e).lost = s.lost := rfl
@[simp] theorem State.setEngine_intEnable (s : State) (c : Chan) (e : Engine) : (s.setEngine c e).intEnable = s.intEnable := rfl
@[simp] theorem State.setEngine_intThreshold (s : State) (c : Chan) (e : Engine) :
    (s.setEngine c e).intThreshold = s.intThreshold := rfl
@[simp] theorem State.setEngine_rankCopies (s : State) (c : Chan) (e : Engine) : (s.setEngine c e).rankCopies = s.rankCopies := rfl
@[simp] theorem State.setEngine_groupCopies (s : State) (c : Chan) (e : Engine) :
    (s.setEngine c e).groupCopies = s.groupCopies := rfl
@[simp] theorem State.setEngine_readData (s : State) (c : Chan) (e : Engine) : (s.setEngine c e).readData = s.readData := rfl
@[simp] theorem State.setEngine_pending (s : State) (c : Chan) (e : Engine) : (s.setEngine c e).pending = s.pending := rfl
@[simp] theorem State.rank_of_setEngine (s : State) (c : Chan) (e : Engine) (q' : Slot) :
    (s.setEngine c e).rank q' = s.rank q' := rfl
@[simp] theorem State.group_of_setEngine (s : State) (c : Chan) (e : Engine) (h' : GroupId) :
    (s.setEngine c e).group h' = s.group h' := rfl
@[simp] theorem State.queue_of_setEngine (s : State) (c : Chan) (e : Engine) (d' : Chan) :
    (s.setEngine c e).queue d' = s.queue d' := rfl
@[simp] theorem State.nego_of_setEngine (s : State) (c : Chan) (e : Engine) (d' : Chan) :
    (s.setEngine c e).nego d' = s.nego d' := rfl

@[simp] theorem State.setMonitor_now (s : State) (m : Monitor) : (s.setMonitor m).now = s.now := rfl
@[simp] theorem State.setMonitor_tickBase (s : State) (m : Monitor) : (s.setMonitor m).tickBase = s.tickBase := rfl
@[simp] theorem State.setMonitor_timestamp (s : State) (m : Monitor) : (s.setMonitor m).timestamp = s.timestamp := rfl
@[simp] theorem State.setMonitor_inReset (s : State) (m : Monitor) : (s.setMonitor m).inReset = s.inReset := rfl
@[simp] theorem State.setMonitor_drain (s : State) (m : Monitor) : (s.setMonitor m).drain = s.drain := rfl
@[simp] theorem State.setMonitor_ranks (s : State) (m : Monitor) : (s.setMonitor m).ranks = s.ranks := rfl
@[simp] theorem State.setMonitor_timing (s : State) (m : Monitor) : (s.setMonitor m).timing = s.timing := rfl
@[simp] theorem State.setMonitor_policy (s : State) (m : Monitor) : (s.setMonitor m).policy = s.policy := rfl
@[simp] theorem State.setMonitor_thermal (s : State) (m : Monitor) : (s.setMonitor m).thermal = s.thermal := rfl
@[simp] theorem State.setMonitor_groups (s : State) (m : Monitor) : (s.setMonitor m).groups = s.groups := rfl
@[simp] theorem State.setMonitor_queues (s : State) (m : Monitor) : (s.setMonitor m).queues = s.queues := rfl
@[simp] theorem State.setMonitor_negotiators (s : State) (m : Monitor) : (s.setMonitor m).negotiators = s.negotiators := rfl
@[simp] theorem State.setMonitor_engines (s : State) (m : Monitor) : (s.setMonitor m).engines = s.engines := rfl
@[simp] theorem State.setMonitor_staging (s : State) (m : Monitor) : (s.setMonitor m).staging = s.staging := rfl
@[simp] theorem State.setMonitor_submitStatus (s : State) (m : Monitor) : (s.setMonitor m).submitStatus = s.submitStatus := rfl
@[simp] theorem State.setMonitor_outstanding (s : State) (m : Monitor) : (s.setMonitor m).outstanding = s.outstanding := rfl
@[simp] theorem State.setMonitor_records (s : State) (m : Monitor) : (s.setMonitor m).records = s.records := rfl
@[simp] theorem State.setMonitor_lost (s : State) (m : Monitor) : (s.setMonitor m).lost = s.lost := rfl
@[simp] theorem State.setMonitor_intEnable (s : State) (m : Monitor) : (s.setMonitor m).intEnable = s.intEnable := rfl
@[simp] theorem State.setMonitor_intThreshold (s : State) (m : Monitor) : (s.setMonitor m).intThreshold = s.intThreshold := rfl
@[simp] theorem State.setMonitor_rankCopies (s : State) (m : Monitor) : (s.setMonitor m).rankCopies = s.rankCopies := rfl
@[simp] theorem State.setMonitor_groupCopies (s : State) (m : Monitor) : (s.setMonitor m).groupCopies = s.groupCopies := rfl
@[simp] theorem State.setMonitor_readData (s : State) (m : Monitor) : (s.setMonitor m).readData = s.readData := rfl
@[simp] theorem State.setMonitor_pending (s : State) (m : Monitor) : (s.setMonitor m).pending = s.pending := rfl
@[simp] theorem State.rank_of_setMonitor (s : State) (m : Monitor) (q' : Slot) : (s.setMonitor m).rank q' = s.rank q' := rfl
@[simp] theorem State.group_of_setMonitor (s : State) (m : Monitor) (h' : GroupId) : (s.setMonitor m).group h' = s.group h' := rfl
@[simp] theorem State.queue_of_setMonitor (s : State) (m : Monitor) (d' : Chan) : (s.setMonitor m).queue d' = s.queue d' := rfl
@[simp] theorem State.nego_of_setMonitor (s : State) (m : Monitor) (d' : Chan) : (s.setMonitor m).nego d' = s.nego d' := rfl
@[simp] theorem State.engine_of_setMonitor (s : State) (m : Monitor) (d' : Chan) : (s.setMonitor m).engine d' = s.engine d' := rfl

@[simp] theorem State.reach_tickBase (s : State) (due : Nat) : (s.reach due).tickBase = s.tickBase := rfl
@[simp] theorem State.reach_timestamp (s : State) (due : Nat) : (s.reach due).timestamp = s.timestamp := rfl
@[simp] theorem State.reach_inReset (s : State) (due : Nat) : (s.reach due).inReset = s.inReset := rfl
@[simp] theorem State.reach_drain (s : State) (due : Nat) : (s.reach due).drain = s.drain := rfl
@[simp] theorem State.reach_ranks (s : State) (due : Nat) : (s.reach due).ranks = s.ranks := rfl
@[simp] theorem State.reach_timing (s : State) (due : Nat) : (s.reach due).timing = s.timing := rfl
@[simp] theorem State.reach_policy (s : State) (due : Nat) : (s.reach due).policy = s.policy := rfl
@[simp] theorem State.reach_thermal (s : State) (due : Nat) : (s.reach due).thermal = s.thermal := rfl
@[simp] theorem State.reach_monitor (s : State) (due : Nat) : (s.reach due).monitor = s.monitor := rfl
@[simp] theorem State.reach_groups (s : State) (due : Nat) : (s.reach due).groups = s.groups := rfl
@[simp] theorem State.reach_queues (s : State) (due : Nat) : (s.reach due).queues = s.queues := rfl
@[simp] theorem State.reach_negotiators (s : State) (due : Nat) : (s.reach due).negotiators = s.negotiators := rfl
@[simp] theorem State.reach_engines (s : State) (due : Nat) : (s.reach due).engines = s.engines := rfl
@[simp] theorem State.reach_staging (s : State) (due : Nat) : (s.reach due).staging = s.staging := rfl
@[simp] theorem State.reach_submitStatus (s : State) (due : Nat) : (s.reach due).submitStatus = s.submitStatus := rfl
@[simp] theorem State.reach_outstanding (s : State) (due : Nat) : (s.reach due).outstanding = s.outstanding := rfl
@[simp] theorem State.reach_records (s : State) (due : Nat) : (s.reach due).records = s.records := rfl
@[simp] theorem State.reach_lost (s : State) (due : Nat) : (s.reach due).lost = s.lost := rfl
@[simp] theorem State.reach_intEnable (s : State) (due : Nat) : (s.reach due).intEnable = s.intEnable := rfl
@[simp] theorem State.reach_intThreshold (s : State) (due : Nat) : (s.reach due).intThreshold = s.intThreshold := rfl
@[simp] theorem State.reach_rankCopies (s : State) (due : Nat) : (s.reach due).rankCopies = s.rankCopies := rfl
@[simp] theorem State.reach_groupCopies (s : State) (due : Nat) : (s.reach due).groupCopies = s.groupCopies := rfl
@[simp] theorem State.reach_readData (s : State) (due : Nat) : (s.reach due).readData = s.readData := rfl
@[simp] theorem State.reach_pending (s : State) (due : Nat) : (s.reach due).pending = s.pending := rfl
@[simp] theorem State.rank_of_reach (s : State) (due : Nat) (q' : Slot) : (s.reach due).rank q' = s.rank q' := rfl
@[simp] theorem State.group_of_reach (s : State) (due : Nat) (h' : GroupId) : (s.reach due).group h' = s.group h' := rfl
@[simp] theorem State.queue_of_reach (s : State) (due : Nat) (d' : Chan) : (s.reach due).queue d' = s.queue d' := rfl
@[simp] theorem State.nego_of_reach (s : State) (due : Nat) (d' : Chan) : (s.reach due).nego d' = s.nego d' := rfl
@[simp] theorem State.engine_of_reach (s : State) (due : Nat) (d' : Chan) : (s.reach due).engine d' = s.engine d' := rfl

end Sys2Proof.Machine
end

