-- ==== Sys2Proof/Laws/Frames.lean ====
section
/-! SUPPORT. What each shared operation can change, said once: every lemma `_frame` rewrites an operation's result as its argument with
the named fields replaced, so every other field is unchanged. -/

namespace Sys2Proof.Machine

/-! ### Reports -/

theorem State.notice_frame (s : State) (b : Notice) :
    s.notice b = { s with records := (s.notice b).records, lost := (s.notice b).lost } := by
  unfold State.notice; split <;> rfl

/-- A notice is admitted where the margin is above 0 (R179). -/
theorem State.notice_of_margin (s : State) (b : Notice) (h : s.margin ≠ 0) :
    s.notice b = { s with records := s.records ++ [.notice b s.timestamp] } := by
  simp [State.notice, h]

/-- A notice is counted where the margin is 0 (R179). -/
theorem State.notice_of_full (s : State) (b : Notice) (h : s.margin = 0) :
    s.notice b = { s with lost := min 255 (s.lost + 1) } := by
  simp [State.notice, h, Config.lostMax]

/-- The records a notice leaves extend the records before it (R177). -/
theorem State.notice_records (s : State) (b : Notice) : ∃ l, (s.notice b).records = s.records ++ l := by
  unfold State.notice; split
  · exact ⟨[], by simp⟩
  · exact ⟨_, rfl⟩

theorem State.complete_frame (s : State) (tag : Tag) (st : Status) (d : Detail) :
    s.complete tag st d =
      { s with outstanding := (s.complete tag st d).outstanding, records := (s.complete tag st d).records } := by
  unfold State.complete; split <;> rfl

/-- A completion moves one entry from the table to the queue, so their sum stays (R178). -/
theorem State.complete_sum (s : State) (tag : Tag) (st : Status) (d : Detail) :
    (s.complete tag st d).records.length + (s.complete tag st d).outstanding.length =
      s.records.length + s.outstanding.length := by
  unfold State.complete
  split
  · rfl
  · next e h =>
    have hm : e ∈ s.outstanding := List.mem_of_find?_eq_some h
    have hp : (e.tag == tag) = true := by simpa using List.find?_some h
    have hl : 0 < s.outstanding.length := List.length_pos_of_mem hm
    have := List.length_eraseP_of_mem (p := fun e : OutEntry => e.tag == tag) hm hp
    simp only [List.length_append, List.length_singleton]
    omega

theorem State.completeTag_frame (s : State) (tag : Option Tag) (st : Status) (d : Detail) :
    s.completeTag tag st d =
      { s with outstanding := (s.completeTag tag st d).outstanding, records := (s.completeTag tag st d).records } := by
  cases tag with
  | none => rfl
  | some t => exact State.complete_frame s t st d

theorem State.abortTasks_frame (s : State) (ts : List Task) :
    s.abortTasks ts = { s with outstanding := (s.abortTasks ts).outstanding, records := (s.abortTasks ts).records } := by
  unfold State.abortTasks
  generalize queueOrder ts = l
  induction l generalizing s with
  | nil => rfl
  | cons t l ih =>
    simp only [List.foldl_cons]
    rw [ih, State.completeTag_frame]

/-! ### Conditions -/

theorem State.settleNego_frame (s : State) (c : Chan) :
    s.settleNego c = { s with negotiators := (s.settleNego c).negotiators } := by
  unfold State.settleNego
  split <;> (try split) <;> rfl

theorem State.settle_frame (s : State) : s.settle = { s with negotiators := s.settle.negotiators } := by
  unfold State.settle
  rw [State.settleNego_frame (s.settleNego .a) .b, State.settleNego_frame s .a]

/-! ### Planner -/

theorem State.setRefreshClass_frame (s : State) (r : Slot) :
    s.setRefreshClass r = { s with queues := (s.setRefreshClass r).queues } := by
  unfold State.setRefreshClass; split <;> rfl

theorem State.reevaluate_frame (s : State) (r : Slot) :
    s.reevaluate r = { s with
      ranks := (s.reevaluate r).ranks, records := (s.reevaluate r).records, lost := (s.reevaluate r).lost,
      queues := (s.reevaluate r).queues } := by
  unfold State.reevaluate
  simp only
  split
  · split
    · rw [State.setRefreshClass_frame, State.notice_frame]; rfl
    · rw [State.setRefreshClass_frame]; rfl
  · rfl

theorem State.debit_frame (s : State) (r : Slot) :
    s.debit r = { s with
      ranks := (s.debit r).ranks, records := (s.debit r).records, lost := (s.debit r).lost } := by
  unfold State.debit
  simp only
  split
  · rw [State.notice_frame]; rfl
  · rfl

theorem State.ensureRefresh_frame (s : State) (r : Slot) :
    s.ensureRefresh r = { s with queues := (s.ensureRefresh r).queues } := by
  unfold State.ensureRefresh State.createRefresh State.insertTask
  split
  · split
    · rw [State.setRefreshClass_frame]
    · split
      · rfl
      · split
        · rfl
        · split <;> rfl
  · rfl

theorem State.takeInterval_frame (s : State) (r : Slot) :
    s.takeInterval r = { s with
      ranks := (s.takeInterval r).ranks, records := (s.takeInterval r).records, lost := (s.takeInterval r).lost,
      queues := (s.takeInterval r).queues } := by
  unfold State.takeInterval
  rw [State.ensureRefresh_frame, State.reevaluate_frame, State.startInterval, State.debit_frame]
  rfl

/-- A band change leaves the interval timer alone, takes its expiry, or gives the running interval the new length (R27, R28). -/
theorem State.bandToPlanner_cases (s : State) (r : Slot) (old new : Band) :
    s.bandToPlanner r old new = s ∨
      ∃ it, (s.rank r).interval = some it ∧ old < new ∧ intervalLength s.timing new < it.full ∧
        ((it.started + intervalLength s.timing new ≤ s.now ∧ s.bandToPlanner r old new = s.takeInterval r) ∨
          (s.now < it.started + intervalLength s.timing new ∧ s.bandToPlanner r old new =
            s.setRank r { s.rank r with interval := some { it with length := intervalLength s.timing new } })) := by
  unfold State.bandToPlanner
  split
  · exact .inl rfl
  · rename_i it h
    simp only
    split
    · rename_i c
      refine .inr ⟨it, h, c.1, c.2.2, ?_⟩
      split
      · rename_i e; exact .inl ⟨e, rfl⟩
      · rename_i e; exact .inr ⟨Nat.lt_of_not_le e, rfl⟩
    · exact .inl rfl

theorem State.bandToPlanner_frame (s : State) (r : Slot) (old new : Band) :
    s.bandToPlanner r old new = { s with
      ranks := (s.bandToPlanner r old new).ranks, records := (s.bandToPlanner r old new).records,
      lost := (s.bandToPlanner r old new).lost, queues := (s.bandToPlanner r old new).queues } := by
  unfold State.bandToPlanner
  split
  · rfl
  · simp only
    split
    · split
      · exact State.takeInterval_frame s r
      · rfl
    · rfl

/-! ### Arbiter -/

theorem State.grant_frame (s : State) (g : GroupId) (e : Entry) :
    s.grant g e = { s with groups := (s.grant g e).groups, queues := (s.grant g e).queues } := by
  unfold State.grant
  simp only
  split <;> rfl

theorem State.scanGroup_frame (s : State) (g : GroupId) :
    s.scanGroup g = { s with groups := (s.scanGroup g).groups, queues := (s.scanGroup g).queues } := by
  unfold State.scanGroup
  split
  · split
    · rfl
    · exact State.grant_frame s g _
  · rfl
  · rfl

theorem State.scanAll_frame (s : State) :
    s.scanAll = { s with groups := s.scanAll.groups, queues := s.scanAll.queues } := by
  unfold State.scanAll
  generalize allGroups = l
  induction l generalizing s with
  | nil => rfl
  | cons g l ih =>
    simp only [List.foldl_cons]
    rw [ih, State.scanGroup_frame]

theorem State.scanRank_frame (s : State) (r : Slot) :
    s.scanRank r = { s with groups := (s.scanRank r).groups, queues := (s.scanRank r).queues } := by
  unfold State.scanRank
  split
  · rfl
  · exact State.scanGroup_frame s _

/-- A scan leaves every group but its own (R81). -/
theorem State.scanGroup_group_ne (s : State) {g h : GroupId} (e : h ≠ g) : (s.scanGroup g).group h = s.group h := by
  unfold State.scanGroup
  split
  · split
    · rfl
    · unfold State.grant
      simp only
      split
      · simp [State.group_setGroup_ne _ _ e]
      · simp [State.insertTask, State.group_setGroup_ne _ _ e]
  · rfl
  · rfl

/-- A scan of a FREE group without an eligible entry changes nothing (R81). -/
theorem State.scanGroup_of_none (s : State) (g : GroupId) (h : (s.group g).waiting.find? s.eligible = none) :
    s.scanGroup g = s := by
  unfold State.scanGroup
  split
  · simp [h]
  · rfl
  · rfl

/-- A scan of a group that is not FREE changes nothing (R81). -/
theorem State.scanGroup_of_taken (s : State) (g : GroupId) (h : (s.group g).state ≠ .free) : s.scanGroup g = s := by
  unfold State.scanGroup
  split
  · next h' => exact absurd h' h
  · rfl
  · rfl

/-- A scan of a FREE group grants its first eligible entry (R81, R83). -/
theorem State.scanGroup_of_some (s : State) (g : GroupId) (e : Entry) (hf : (s.group g).state = .free)
    (h : (s.group g).waiting.find? s.eligible = some e) : s.scanGroup g = s.grant g e := by
  unfold State.scanGroup
  simp [hf, h]

theorem State.requestIn_frame (s : State) (g : GroupId) (r : Slot) (k : CalKind) (o : CalOrigin) (t : Option Tag) :
    s.requestIn g r k o t =
      { s with groups := (s.requestIn g r k o t).groups, queues := (s.requestIn g r k o t).queues } := by
  unfold State.requestIn
  simp only
  split
  · split
    · unfold State.mergeHeld
      split
      · rfl
      · simp only
        split <;> rfl
    · rfl
    · rfl
  · split
    · split
      · rw [State.scanGroup_frame]; rfl
      · rfl
    · rw [State.scanGroup_frame]; rfl

theorem State.request_frame (s : State) (r : Slot) (k : CalKind) (o : CalOrigin) (t : Option Tag) :
    s.request r k o t = { s with groups := (s.request r k o t).groups, queues := (s.request r k o t).queues } := by
  unfold State.request
  split
  · rfl
  · exact State.requestIn_frame s _ r k o t

theorem State.internalRequest_frame (s : State) (r : Slot) (k : CalKind) (o : CalOrigin) :
    s.internalRequest r k o =
      { s with groups := (s.internalRequest r k o).groups, queues := (s.internalRequest r k o).queues } := by
  unfold State.internalRequest
  split
  · exact State.request_frame s r k o none
  · rfl

/-! ### Power logic -/

theorem State.createExit_frame (s : State) (c : Chan) (r : Slot) (x : ExitCause) :
    s.createExit c r x = { s with
      queues := (s.createExit c r x).queues, records := (s.createExit c r x).records, lost := (s.createExit c r x).lost } := by
  unfold State.createExit
  rw [State.notice_frame]; rfl

theorem State.raiseExit_frame (s : State) (c : Chan) (r : Slot) :
    s.raiseExit c r = { s with
      queues := (s.raiseExit c r).queues, records := (s.raiseExit c r).records, lost := (s.raiseExit c r).lost } := by
  unfold State.raiseExit
  rw [State.notice_frame]; rfl

theorem State.bringOut_frame (s : State) (r : Slot) (x : ExitCause) :
    s.bringOut r x = { s with
      queues := (s.bringOut r x).queues, records := (s.bringOut r x).records, lost := (s.bringOut r x).lost } := by
  unfold State.bringOut
  split
  · rfl
  · split
    · rfl
    · split
      · exact State.createExit_frame s _ r x
      · split
        · exact State.raiseExit_frame s _ r
        · rfl

theorem State.removeDeepEnter_frame (s : State) (r : Slot) :
    s.removeDeepEnter r = { s with
      queues := (s.removeDeepEnter r).queues, groups := (s.removeDeepEnter r).groups,
      outstanding := (s.removeDeepEnter r).outstanding, records := (s.removeDeepEnter r).records } := by
  unfold State.removeDeepEnter
  split
  · split
    · rw [State.scanRank_frame, State.completeTag_frame]; rfl
    · rfl
  · rfl

theorem State.criticalBand_frame (s : State) (r : Slot) :
    s.criticalBand r = { s with
      queues := (s.criticalBand r).queues, groups := (s.criticalBand r).groups,
      outstanding := (s.criticalBand r).outstanding, records := (s.criticalBand r).records,
      lost := (s.criticalBand r).lost } := by
  unfold State.criticalBand
  split
  · rw [State.bringOut_frame]
  · rw [State.removeDeepEnter_frame]

theorem State.handBand_frame (s : State) (r : Slot) (old new : Band) :
    s.handBand r old new = { s with
      ranks := (s.handBand r old new).ranks, queues := (s.handBand r old new).queues,
      groups := (s.handBand r old new).groups, outstanding := (s.handBand r old new).outstanding,
      records := (s.handBand r old new).records, lost := (s.handBand r old new).lost } := by
  unfold State.handBand
  split
  · rfl
  · simp only
    split
    · rw [State.criticalBand_frame, State.bandToPlanner_frame]
    · rw [State.bandToPlanner_frame]

/-! ### Negotiator -/

theorem State.enterReleasing_frame (s : State) (c : Chan) (x : ReleaseCause) :
    s.enterReleasing c x = { s with negotiators := (s.enterReleasing c x).negotiators } := rfl

theorem State.recall_frame (s : State) (c : Chan) : s.recall c = { s with negotiators := (s.recall c).negotiators } := by
  unfold State.recall
  simp only
  split <;> rfl

theorem State.dropRequest_frame (s : State) (c : Chan) (x : ReleaseCause) :
    s.dropRequest c x = { s with
      negotiators := (s.dropRequest c x).negotiators, groups := (s.dropRequest c x).groups,
      queues := (s.dropRequest c x).queues } := by
  unfold State.dropRequest
  simp only
  split <;> (split <;> (try split)) <;> first
    | rfl
    | (rw [State.scanAll_frame]; rfl)

/-! ### Sensor bus -/

/-- The start of recovery in one update: its first look at the data line decides whether it is at its stop condition (R61). -/
theorem State.startRecovery_eq (s : State) (sda : Bool) : s.startRecovery sda =
    s.setMonitor { s.monitor with bus := .recovery, pulses := 0, stopping := sda, phaseStart := s.now } := by
  cases sda <;> rfl

/-- A read begun in one update: the data line alone decides between the attempt and recovery (R49, R52). -/
theorem State.startRead_eq (s : State) (r : Slot) (scl sda : Bool) : s.startRead r scl sda =
    s.setMonitor { s.monitor with
      bus := if sda then .read else .recovery
      readSlot := some r, discard := false, speed := s.thermal.busSpeed, phaseStart := s.now, cursor := r + 1
      pulses := if sda then s.monitor.pulses else 0, stopping := if sda then s.monitor.stopping else false } := by
  cases sda <;> cases scl <;> rfl

/-- A pulse that ends with the data line high leads to the stop condition (R61). -/
theorem State.endPulse_high (s : State) : s.endPulse true =
    s.setMonitor { s.monitor with pulses := s.monitor.pulses + 1, stopping := true, phaseStart := s.now } := rfl

/-- A pulse that ends with the data line low is followed by another, or by the failure of recovery after the ninth (R61, R62). -/
theorem State.endPulse_low (s : State) : s.endPulse false =
    if s.monitor.pulses + 1 < 9 then s.setMonitor { s.monitor with pulses := s.monitor.pulses + 1, phaseStart := s.now }
    else (s.setMonitor { s.monitor with pulses := s.monitor.pulses + 1, phaseStart := s.now }).recoveryFails := rfl

end Sys2Proof.Machine
end

