-- ==== Sys2Proof/Laws/Port.lean ====
section
/-! SUPPORT. The lemmas of the end of an event and of the command port: what taking the conditions does, what an admitted command
starts from, and what its completion leaves. -/

namespace Sys2Proof.Machine

/-! ### The end of an event -/

/-- A channel that has taken its conditions takes them again without effect. -/
theorem State.settleNego_of_settledOn (s : State) (c : Chan) (h : s.SettledOn c) : s.settleNego c = s := by
  obtain ⟨h1, h2⟩ := h
  unfold State.settleNego
  split
  · next hi =>
    by_cases hq : (s.nego c).qgnt = true
    · simp [hq]
    · simp [h1 hi (by simpa using hq)]
  · next hs =>
    by_cases hu : s.urgencyCondition c = true
    · simp only [hu, if_true]
      have hq := h2 (Or.inl hs) hu
      generalize hn : s.nego c = n at *
      cases n
      simp only at hq
      subst hq
      rw [← hn, State.setNego_nego_same]
    · simp [hu]
  · next hs =>
    by_cases hu : s.urgencyCondition c = true
    · simp only [hu, if_true]
      have hq := h2 (Or.inr hs) hu
      generalize hn : s.nego c = n at *
      cases n
      simp only at hq
      subst hq
      rw [← hn, State.setNego_nego_same]
    · simp [hu]
  · rfl
  · rfl
  · rfl

theorem State.settle_of_settled (s : State) (h : s.Settled) : s.settle = s := by
  unfold State.settle
  rw [State.settleNego_of_settledOn s .a h.1, State.settleNego_of_settledOn s .b h.2]

/-- The conditions depend on no line and no mark of a negotiator. -/
theorem State.requestCondition_setNego (s : State) (c d : Chan) (n : Negotiator) :
    (s.setNego c n).requestCondition d = s.requestCondition d := rfl

theorem State.urgencyCondition_setNego (s : State) (c d : Chan) (n : Negotiator) :
    (s.setNego c n).urgencyCondition d = s.urgencyCondition d := rfl

/-- Taking one channel's conditions settles it. -/
theorem State.settledOn_settleNego (s : State) (c : Chan) : (s.settleNego c).SettledOn c := by
  unfold State.settleNego
  split
  · next hi =>
    split
    · constructor
      · intro h; simp [State.raiseRequest] at h
      · intro _ hu
        simp only [State.raiseRequest, State.urgencyCondition_setNego] at hu
        simp [State.raiseRequest, hu]
    · next hc =>
      constructor
      · intro _ hq
        cases hr : s.requestCondition c
        · rfl
        · simp [hr, hq] at hc
      · intro h; simp [hi] at h
  · next hs =>
    split
    · exact ⟨fun h => by simp [hs] at h, fun _ _ => by simp⟩
    · next hu => exact ⟨fun h => by simp [hs] at h, fun _ h => absurd h hu⟩
  · next hs =>
    split
    · exact ⟨fun h => by simp [hs] at h, fun _ _ => by simp⟩
    · next hu => exact ⟨fun h => by simp [hs] at h, fun _ h => absurd h hu⟩
  · next hs => exact ⟨fun h => by simp [hs] at h, fun h => by simp [hs] at h⟩
  · next hs => exact ⟨fun h => by simp [hs] at h, fun h => by simp [hs] at h⟩
  · next hs => exact ⟨fun h => by simp [hs] at h, fun h => by simp [hs] at h⟩

/-! ### An admitted command -/

/-- The row of a host command runs that command. -/
theorem exec_instr (tag : Tag) (c : HostCommand) (s : State) : exec (c.instr tag) s = hostCommand tag c s := by
  cases c <;> rfl

/-- An admitted command is taken on the state that has accepted it (R170, R172). -/
theorem hostCommand_of_admits (tag : Tag) (c : HostCommand) (s : State) (h : s.Admits tag) :
    hostCommand tag c s = .next (takeCommand tag c (s.taken tag c)).settle := by
  obtain ⟨h1, h2, h3, h4, h5, -⟩ := h
  have ht : s.tagInUse tag = false := by
    simp only [State.tagInUse, List.any_eq_false]
    intro e he; simpa using h3 e he
  have hf : s.tableFull = false := by
    unfold State.tableFull Config.outstandingCapacity Config.reportCapacity
    rw [decide_eq_false (by omega), decide_eq_false (by omega)]
    rfl
  have ho : ({ s with staging := stageRecord tag c s.staging } : State).submitOutcome tag (some c) = .accepted := by
    have e1 : ({ s with staging := stageRecord tag c s.staging } : State).tagInUse tag = false := ht
    have e2 : ({ s with staging := stageRecord tag c s.staging } : State).tableFull = false := hf
    unfold State.submitOutcome
    rw [if_neg (by simp [h2])]
    simp only [e1, e2, Bool.false_eq_true, if_false]
  unfold hostCommand State.event State.submit
  rw [if_neg (by simp [h1])]
  simp only [ho]
  rfl

/-- The completion of a command that has just been accepted frees its entry (R171, R175). -/
theorem State.complete_taken (s t : State) (tag : Tag) (c : HostCommand) (st : Status) (d : Detail)
    (h : ∀ e ∈ s.outstanding, e.tag ≠ tag) (ht : t.outstanding = s.outstanding ++ [outEntryOf tag c]) :
    t.complete tag st d =
      { t with outstanding := s.outstanding, records := t.records ++ [t.completionOf tag c st d] } := by
  have hnone : s.outstanding.find? (fun e => e.tag == tag) = none := by
    rw [List.find?_eq_none]; intro e he; simpa using h e he
  have hfind : t.outEntry tag = some (outEntryOf tag c) := by
    simp [State.outEntry, ht, List.find?_append, hnone, outEntryOf]
  have herase : t.outstanding.eraseP (fun e => e.tag == tag) = s.outstanding := by
    rw [ht, List.eraseP_append_right _ (fun e he => by simpa using h e he)]
    simp [outEntryOf]
  simp only [State.complete, hfind, herase]
  rfl

/-- A command answered in its own event, with nothing else changed. -/
theorem State.complete_of_taken (s : State) (tag : Tag) (c : HostCommand) (st : Status) (d : Detail)
    (h : ∀ e ∈ s.outstanding, e.tag ≠ tag) : (s.taken tag c).complete tag st d = s.answered tag c st d := by
  rw [State.complete_taken s (s.taken tag c) tag c st d h rfl]
  rfl

/-! ### The end of a drain -/

/-- The end of a drain leaves every block at its soft-reset values, with the stop condition of an abandoned read recorded (R69, R184). -/
theorem State.endDrain_eq_drained (s : State) (sda : Bool) : s.endDrain sda = s.drained s.now sda := by
  have h : s.monitor.afterDrain s.now sda = (s.drained s.now sda).monitor := by
    simp only [Monitor.afterDrain, State.drained, Monitor.initial, Bool.decide_and, Bool.decide_eq_true]
    congr 1
    rw [Bool.and_comm]
    congr 1
    cases s.monitor.bus <;> rfl
  show ({ State.initial s.now (s.nego .a).levels (s.nego .b).levels s.pending with
    readData := s.readData, monitor := s.monitor.afterDrain s.now sda } : State) = _
  rw [h]
  rfl

/-- A look at whether the drain has ended: it has where one is in progress and neither engine has a task in flight (R184). -/
theorem State.checkDrain_cases (s : State) (sda : Bool) :
    (s.drain = true ∧ (s.engine .a).flight = none ∧ (s.engine .b).flight = none ∧ s.checkDrain sda = s.drained s.now sda) ∨
      ((s.drain = false ∨ (s.engine .a).flight.isSome = true ∨ (s.engine .b).flight.isSome = true) ∧ s.checkDrain sda = s) := by
  unfold State.checkDrain State.enginesStill
  rw [State.endDrain_eq_drained]
  cases s.drain <;> cases (s.engine .a).flight <;> cases (s.engine .b).flight <;> simp

end Sys2Proof.Machine
end

