-- ==== Sys2Proof/Tests/Slice0.lean ====
section
/-! SUPPORT. Tests: ill-formed commands refused, the command records of 10.4 and the report words of 10.5 written out by hand, single
steps with results taken from the spec's rules and worked figures, and for every obligation with hypotheses a state that meets them. -/

set_option maxRecDepth 8000

namespace Sys2Proof.Tests

open Sys2Proof Sys2Proof.Machine

/-! ### Well-formed commands -/

theorem test_unknown_command_holds_no_code : WellFormed (.unknownCommand 0x00000003#32) = false := by decide
theorem test_unknown_command_zero : WellFormed (.unknownCommand 0x00000000#32) = true := by decide
theorem test_unknown_command_above : WellFormed (.unknownCommand 0x00000012#32) = true := by decide
theorem test_register_write_unaligned : WellFormed (.registerWrite 0x021#12 { word := 0, sda := true }) = false := by decide
theorem test_register_write_control : WellFormed (.registerWrite 0x008#12 { word := 0, sda := true }) = false := by decide
theorem test_register_write_submit : WellFormed (.registerWrite 0x010#12 { word := 0, sda := true }) = false := by decide
theorem test_register_write_staging : WellFormed (.registerWrite 0x020#12 { word := 0, sda := true }) = true := by decide

/-! ### Records, written out from 10.4 -/

/-- A staging area of the words a host writes. -/
def staged (w0 w1 w2 w3 w4 w5 w6 w7 : Word) : Record := #v[w0, w1, w2, w3, w4, w5, w6, w7]

theorem test_record_configure_rank : decodeRecord (staged 0x01024401#32 0x00009803#32 0 0 0 0 0 0) =
    some (.configureRank 2 1 3 0x18 true) := by decide
theorem test_record_bring_online : decodeRecord (staged 0x00053103#32 0 0 0 0 0 0 0) = some (.bringOnline 5) := by decide
theorem test_record_tag : recordTag (staged 0x00053103#32 0 0 0 0 0 0 0) = 0x31 := by decide
theorem test_record_set_band : decodeRecord (staged 0x00040706#32 0x00000003#32 0 0 0 0 0 0) = some (.setBand 4 3) := by decide
/-- The reset values of 00_scope.md 1.7, packed by hand into the SET_TIMING words of 10.4. -/
theorem test_record_set_timing : decodeRecord
    (staged 0x00000007#32 0x051A0203#32 0x0010030C#32 0x00068190#32 0x000C80C8#32 0x008003E8#32 0x002807D0#32 0x00C35000#32) =
    some (.setTiming {
      napExit := 3, napEntry := 2, refreshBusy := 26, deepEntry := 5, baseInterval := 780, calLong := 256, windowBudget := 400, deepSettle := 52, grantWait := 200, releaseWait := 50, urgentGrantWait := 1000, calShort := 64,
      tokenHold := 2000, deepExit := 20, calPeriod := 12800000 }) := by decide
theorem test_record_set_refresh_policy : decodeRecord (staged 0x00000008#32 0x02030205#32 0x00000001#32 0 0 0 0 0) =
    some (.setRefreshPolicy { postponeLimit := 5, advanceLimit := 2, urgentAt := 3, gatherThreshold := 2, advanceEnable := 1 }) := by
  decide
theorem test_record_set_thermal :
    decodeRecord (staged 0x00000009#32 0x017C0154#32 0x020801A4#32 0x280186A0#32 0x00000000#32 0 0 0) =
    some (.setThermal { rise1 := 340, rise2 := 380, rise3 := 420, hyst := 8, fallbackBand := 2, pollPeriod := 100000, calDrift := 40,
                        busSpeed := 0 }) := by decide
theorem test_record_flush_host : decodeRecord (staged 0x0100000A#32 0 0 0 0 0 0 0) = some (.flushHost 1) := by decide
theorem test_record_refresh_now : decodeRecord (staged 0x0001220C#32 0x00000008#32 0 0 0 0 0 0) = some (.refreshNow 1 8) := by
  decide
theorem test_record_calibrate : decodeRecord (staged 0x0000500D#32 0x00000001#32 0 0 0 0 0 0) = some (.calibrate 0 1) := by decide
theorem test_record_deep_exit : decodeRecord (staged 0x00076111#32 0 0 0 0 0 0 0) = some (.deepExit 7) := by decide
theorem test_record_unknown : decodeRecord (staged 0x00000012#32 0 0 0 0 0 0 0) = none := by decide
theorem test_record_words_deep_enter :
    stageRecord 0x61 (.deepEnter 2) (Vector.replicate 8 0) = staged 0x00026110#32 0 0 0 0 0 0 0 := by decide
theorem test_table_word : decodeTableWord 32 0x0003 = none := by decide

/-! ### Report words, written out from 10.5 -/

theorem test_words_of_completion :
    (Report.completion 0x61 .deepEnter .thermal (.slot 2) .absent (.rankState .nap) 7).words =
      #v[0x000AD850#32, 0x00000003#32, 0#32, 7#32] := by decide
theorem test_words_of_notice :
    (Report.notice (.rankUrgent 3 (some .b) (-3)) 9).words = #v[0x008C0022#32, 0xFFFFFFFD#32, 0#32, 9#32] := by decide
theorem test_words_of_group_notice :
    (Report.notice (.calFailed 1 2 1) 0).words = #v[0x01840027#32, 0x00000001#32, 0#32, 0#32] := by decide
theorem test_identifier : State.reset.readRegister 0x000 = 0x0082B510#32 := by decide

/-! ### Small states -/

/-- A rank in service on channel A in group 0, as it is after a successful calibration. -/
def online : Rank :=
  { Rank.initial with
    state := .online, channel := some .a, group := some 0, calStatus := .valid, interval := some { started := 0, full := 780, length := 780 } }

/-- Slot 0 in service and nothing else. -/
def one : State := State.reset.setRank 0 online

/-- Slot 0 with this record and nothing else. -/
def withRank (k : Rank) : State := State.reset.setRank 0 k

/-- A slot configured and not in service. -/
def configured : Rank := { Rank.initial with state := .offline, channel := some .a, group := some 0 }

/-- A task of slot 0. -/
def task (kind : TaskKind) (cls : TaskClass) (executing : Bool) : Task :=
  { seq := 0, rank := 0, kind := kind, cls := cls, count := some 1, tag := some 0x40, origin := .host, executing := executing }

/-- Slot 0 in service with tasks in queue A. -/
def queued (ts : List Task) : State := one.setQueue .a { tasks := ts, seq := 1 }

/-- A waiting entry of slot 0. -/
def entry : Entry := { rank := 0, kind := .short, origin := .drift, tag := none, revocations := 0 }

/-- The negotiator of channel A in a stage. -/
def staging (s : State) (st : NegState) : State :=
  s.setNego .a { s.nego .a with
    state := st
    qreq := st == .requesting || st == .stalled || st == .opened || st == .draining
    qurg := st == .stalled
    qgnt := st == .opened || st == .draining || st == .releasing
    grantTimer := if st = .requesting then some 200 else none
    releaseTimer := if st = .releasing then some 50 else none }

/-- A task of slot 0 in flight on channel A. -/
def inFlight (s : State) (kind : FlightKind) : State :=
  s.setEngine .a { s.engine .a with
    state := .busy, budget := 100, completion := some 26
    flight := some { rank := 0, kind := kind, n := 1, duration := 26, ops := [], napInHeld := false } }

/-- A window open on channel A with a task of slot 0 executing in it. -/
def busy (kind : TaskKind) (cls : TaskClass) : State := staging (inFlight (queued [task kind cls true]) (.task kind)) .opened

/-- The record of slot 0 after a command on a state, if the command answers a next state. -/
def rankAfter (r : Result) : Option Rank :=
  match r with
  | .next t => some (t.rank 0)
  | .fault _ => none
  | .refused _ => none

/-- A value of the next state. -/
def after {α : Type} (r : Result) (f : State → α) : Option α :=
  match r with
  | .next t => some (f t)
  | .fault _ => none
  | .refused _ => none

/-! ### Single steps -/

/-- R25, R26, R29: the first debit makes a ROUTINE refresh task. -/
theorem test_interval_expiry : after (exec (.intervalExpiry 0) one)
    (fun t => ((t.rank 0).balance, (t.rank 0).interval, ((t.queue .a).tasks.map Task.cls))) =
    some (-1, some { started := 780, full := 780, length := 780 }, [.routine]) := by decide
/-- R25: at −PostponeLimit the debit is an overrun. -/
theorem test_interval_overrun : after (exec (.intervalExpiry 0) (withRank { online with balance := -5, urgent := true }))
    (fun t => ((t.rank 0).balance, (t.rank 0).overruns, t.records)) =
    some (-5, 1, [.notice (.refreshOverrun 0 (some .a) 1) 0]) := by decide
/-- R27: a rise from band 0 to band 2 at 100 TU leaves 95 TU of the interval. -/
theorem test_band_rise_cuts : rankAfter (exec (.setBand 1 0 2) { one with now := 100 }) =
    some { online with band := 2, interval := some { started := 0, full := 780, length := 195 } } := by decide
/-- R27: a rise after the new length has run takes the expiry. -/
theorem test_band_rise_expires : rankAfter (exec (.setBand 1 0 2) { one with now := 200 }) =
    some { online with band := 2, balance := -1, interval := some { started := 200, full := 195, length := 195 } } := by decide
/-- R27, R28: after a rise to band 2 and a fall, a rise to band 1 is tested against the 780 TU of the start and leaves 390 − e. -/
theorem test_band_rise_after_fall : rankAfter (exec (.setBand 1 0 1)
      { withRank { online with interval := some { started := 0, full := 780, length := 195 } } with now := 100 }) =
    some { online with band := 1, interval := some { started := 0, full := 780, length := 390 } } := by decide
/-- R49, R61: with the clock released 500 TU into an attempt, the 25 ms run to 2,500,500, and recovery begins. -/
theorem test_clock_timeout : after (exec (.clockStretchTimeout 500 true)
      (State.reset.setMonitor { State.reset.monitor with bus := .read, readSlot := some 0 }))
    (fun t => (t.now, t.monitor.bus, t.monitor.stopping)) = some (2500500, .recovery, true) := by decide
/-- R61: the stop condition of recovery takes one bit period, 1000 TU at 100 kHz, and ends the read. -/
theorem test_recovery_stop : after (exec (.recoveryPulse 0 true)
      (State.reset.setMonitor { State.reset.monitor with bus := .recovery, readSlot := some 0, stopping := true }))
    (fun t => (t.now, t.monitor.bus, t.monitor.polling)) = some (1000, .idle, true) := by decide
/-- R107: a band that becomes 3 takes a waiting DEEP_ENTER out. -/
theorem test_critical_band : after (exec (.setBand 1 0 3) (queued [task .deepEnter .power false]))
    (fun t => (t.queue .a).tasks.map Task.kind) = some [] := by decide
/-- R10: BRING_ONLINE asks for a LONG calibration, granted at once, and the channel asks for a window. -/
theorem test_bring_online : after (exec (.bringOnline 1 0) (withRank configured))
    (fun t => ((t.group 0).state, (t.queue .a).tasks.map Task.kind, (t.nego .a).qreq)) =
    some (.held, [.calLong], true) := by decide
/-- R137: an unanswered routine request is escalated, then STALLED. -/
theorem test_escalation : after (exec (.grantTimerExpiry .a) (staging one .requesting))
    (fun t => ((t.nego .a).qurg, (t.nego .a).escalated, (t.nego .a).grantTimer)) = some (true, true, some 1200) := by decide
/-- R139, R153, R159: the window starts the refresh owed, 26 TU of 400. -/
theorem test_grant_starts_refresh : after (exec (.qgntRise .a)
      (staging ((queued [{ task .refresh .routine false with origin := .planner, tag := none }]).setRank 0
        { online with balance := -1 }) .requesting))
    (fun t => ((t.engine .a).budget, (t.rank 0).balance, (t.nego .a).state)) = some (374, 0, .opened) := by decide
/-- R103, R107: a DEEP_ENTER that completes in band 3 makes a thermal exit. -/
theorem test_deep_enter_in_band_3 : after (exec (.taskCompletion .a { result := .ok, sda := true })
      (staging ((inFlight (queued [task .deepEnter .power true]) (.task .deepEnter)).setRank 0
        { online with band := 3, interval := none }) .draining))
    (fun t => ((t.rank 0).state, (t.queue .a).tasks.map Task.kind, (t.nego .a).state)) =
    some (.deep, [.deepExit], .releasing) := by decide
/-- R57, the reset thresholds: from 3 to 1 when the sample is below 103.00 and 93.00 °C but not below 83.00 °C. -/
theorem test_hysteresis_fall : bandByHysteresis Config.thermal 3 340 = 1 := by decide
/-- R57: a temperature between a fall and its rise stays where it is. -/
theorem test_hysteresis_gap : bandByHysteresis Config.thermal 1 376 = 1 ∧ bandByHysteresis Config.thermal 2 376 = 2 := by decide
/-- R58, worked figures: 84.50 °C gives band 1, 103.50 °C band 3 and 40.00 °C band 0. -/
theorem test_afresh : bandAfresh Config.thermal 338 = 1 ∧ bandAfresh Config.thermal 414 = 3 ∧ bandAfresh Config.thermal 160 = 0 := by
  decide
/-- R50: the word of −10.25 °C with its valid flag. -/
theorem test_sensor_word : classify { fault := false, ack := true, word := 0x8FD7#16, stretch := 0, sda := true } = .good (-41) := by
  decide
/-- R115, its worked example: the queue order of five tasks. -/
theorem test_queue_order :
    (queueOrder [{ task .refresh .routine false with seq := 20 }, { task .refreshNow .routine false with seq := 21 },
      { task .napEnter .power false with seq := 22 }, { task .calShort .cal false with seq := 23 },
      { task .deepExit .urgent false with seq := 24 }]).map Task.seq = [24, 23, 22, 20, 21] := by decide
/-- 00_scope.md 1.7: MaxTask at the reset values is 261 TU. -/
theorem test_max_task : maxTask Config.timing 5 = 261 := by decide

/-! ### States that meet the hypotheses of the obligations -/

/-- Sixteen outstanding commands. -/
def crowd : List OutEntry :=
  [0, 1, 2, 3, 4, 5, 6, 7, 8, 9, 10, 11, 12, 13, 14, 15].map (fun n =>
    { tag := BitVec.ofNat 8 n, kind := .refreshNow, slot := .slot 0, channel := .absent, removed := 0 })

/-- Sixty-four records. -/
def full : List Report := List.replicate 64 (.notice (.lost 1) 0)

theorem witness_step_takes_front : ({ State.reset with pending := [.pop, .timestampTick] } : State).pending = .pop :: [.timestampTick] := by decide
theorem witness_model_conventions :
    State.reset.pending = [] ∧ ({ State.reset with inReset := true } : State).inReset = true ∧ State.reset.inReset = false ∧
      State.reset.Settled ∧ (State.reset.nego .a).qgnt = false ∧ (State.reset.nego .b).qrcl = false ∧
      (State.reset.rank 7).interval = none ∧ (State.reset.rank 0).settle = none ∧ (State.reset.rank 7).periodic = none ∧
      (State.reset.group 3).tokenTimer = none ∧ (State.reset.nego .a).grantTimer = none ∧
      (State.reset.nego .a).releaseTimer = none ∧ (State.reset.engine .b).completion = none ∧
      (State.reset.engine .b).sample = none ∧ State.reset.monitor.bus = .idle := by and_intros <;> decide
theorem witness_model_conventions_high :
    (State.reset.setNego .a { State.reset.nego .a with qgnt := true, qrcl := true }).Settled ∧
      ((State.reset.setNego .a { State.reset.nego .a with qgnt := true, qrcl := true }).nego .a).qgnt = true ∧
      ((State.reset.setMonitor { State.reset.monitor with polling := false, pollTimer := none })).monitor.pollTimer = none ∧
      ((State.reset.setMonitor { State.reset.monitor with polling := false, pollTimer := none })).Settled := by and_intros <;> decide
theorem witness_soft_reset_drain :
    State.reset.inReset = false ∧ State.reset.drain = false ∧ (State.reset.engine .a).flight = none ∧
      (State.reset.engine .b).flight = none ∧ ((busy .refresh .routine).engine .a).flight.isSome = true ∧
      (busy .refresh .routine).drain = false ∧ ({ busy .refresh .routine with drain := true } : State).Settled := by and_intros <;> decide
theorem witness_submission_accepted : State.reset.Admits 255 := by and_intros <;> decide
theorem witness_submission_refused :
    State.reset.Settled ∧ ({ State.reset with drain := true } : State).Settled ∧
      ({ State.reset with outstanding := crowd } : State).Settled ∧ (∃ e ∈ crowd, e.tag = 15) ∧ (∀ e ∈ crowd, e.tag ≠ 16) ∧
      16 ≤ crowd.length ∧ ({ State.reset with records := full } : State).Settled ∧ 64 ≤ full.length := by and_intros <;> decide
theorem witness_submission_unknown :
    ((0x00#32).extractLsb' 0 8).toNat = 0 ∧ 17 < ((0x12#32).extractLsb' 0 8).toNat := by and_intros <;> decide
theorem witness_field_checks :
    State.reset.Admits 1 ∧ (16, false) ∈ (HostCommand.setBand 8 9).rangeChecks ∧
      (∀ p ∈ (HostCommand.setBand 8 9).rangeChecks, p.1 < 16 → p.2 = true) ∧
      (32, false) ∈ (HostCommand.setBand 7 4).rangeChecks ∧
      (∀ p ∈ (HostCommand.setBand 7 4).rangeChecks, p.1 < 32 → p.2 = true) := by and_intros <;> decide
theorem witness_state_checks :
    State.reset.Admits 1 ∧ (∀ p ∈ (HostCommand.removeRank 7).rangeChecks, p.2 = true) ∧
      (HostCommand.removeRank 7).slotByte = some 7 ∧ slotOf 7 = some 7 ∧
      stateCheck CommandKind.removeRank (State.reset.rank 7).state = some .rankState := by and_intros <;> decide
theorem witness_configure_rank :
    State.reset.Admits 1 ∧ State.reset.RankLaw ∧ slotOf 7 = some 7 ∧ chanOf 1 = some .b ∧ groupOf 3 = some 3 ∧
      0x08 ≤ (0x08#7).toNat ∧ (0x77#7).toNat ≤ 0x77 ∧ (State.reset.rank 7).state = .absent ∧
      (∀ q : Slot, q ≠ 7 → (State.reset.rank q).state ≠ .absent → (State.reset.rank q).sensor ≠ some 0x08) := by and_intros <;> decide
theorem witness_configure_rank_taken_address :
    (withRank { configured with sensor := some 0x08, sensorStatus := .unread }).Admits 1 ∧
      (withRank { configured with sensor := some 0x08, sensorStatus := .unread }).RankLaw ∧ slotOf 7 = some 7 ∧
      ((withRank { configured with sensor := some 0x08, sensorStatus := .unread }).rank 7).state = .absent ∧
      ∃ q : Slot, q ≠ 7 ∧ ((withRank { configured with sensor := some 0x08, sensorStatus := .unread }).rank q).state ≠ .absent ∧
        ((withRank { configured with sensor := some 0x08, sensorStatus := .unread }).rank q).sensor = some 0x08 := by and_intros <;> decide
theorem witness_remove_and_bring_online :
    (withRank configured).Admits 1 ∧ (withRank configured).RankLaw ∧ slotOf 0 = some 0 ∧
      ((withRank configured).rank 0).state = .offline ∧ ((withRank configured).rank 0).group = some 0 ∧
      (withRank configured).NoStanding 0 0 := by and_intros <;> decide
theorem witness_take_offline :
    (one.setGroup 0 { CalGroup.initial with waiting := [{ entry with tag := some 9 }] }).Admits 1 ∧
      (one.setGroup 0 { CalGroup.initial with waiting := [{ entry with tag := some 9 }] }).Fresh 1 ∧
      (one.setGroup 0 { CalGroup.initial with waiting := [{ entry with tag := some 9 }] }).RankLaw ∧
      slotOf 0 = some 0 ∧ stateCheck .takeOffline (one.rank 0).state = none ∧ (one.rank 0).channel = some .a ∧
      (one.rank 0).group = some 0 ∧ (∀ f ∈ (one.engine .a).flight, f.rank ≠ 0) ∧
      ((one.group 0).holder = some 0 → (one.group 0).state = .held) := by and_intros <;> decide
theorem witness_set_band :
    one.Admits 1 ∧ one.Fresh 1 ∧ slotOf 0 = some 0 ∧ bandOf 3 = some 3 ∧ bandOf 0 = some 0 ∧
      stateCheck .setBand (one.rank 0).state = none ∧ (one.rank 0).sensor = none ∧ (one.rank 0).band = 0 ∧
      (one.rank 0).interval = some { started := 0, full := 780, length := 780 } ∧
      ((withRank { online with sensor := some 0x18, sensorStatus := .unread }).rank 0).sensor.isSome = true ∧
      (withRank { online with sensor := some 0x18, sensorStatus := .unread }).Admits 1 := by and_intros <;> decide
theorem witness_set_band_expires :
    ({ one with now := 200 } : State).Admits 1 ∧ ({ one with now := 200 } : State).Fresh 1 ∧ (one.rank 0).channel = some .a ∧
      (one.rank 0).state.served = true ∧ (0 : Band) < 2 ∧ (780 : Nat) / 2 ^ 2 < 780 ∧ 0 + 780 / 2 ^ 2 ≤ 200 ∧
      (withRank { online with balance := -5, urgent := true }).Admits 1 ∧
      ((withRank { online with balance := -5, urgent := true }).rank 0).balance ≤ -(one.policy.postponeLimit : Int) ∧
      ((withRank configured).rank 0).interval = none ∧ (withRank configured).Admits 1 ∧
      ((withRank configured).rank 0).channel = some .a := by and_intros <;> decide
theorem witness_set_band_critical :
    (staging (queued [task .deepEnter .power false]) .stalled).Admits 1 ∧
      (staging (queued [task .deepEnter .power false]) .stalled).Fresh 1 ∧
      ((staging (queued [task .deepEnter .power false]) .stalled).rank 0).sensor = none ∧
      ((staging (queued [task .deepEnter .power false]) .stalled).rank 0).band ≠ 3 ∧
      ((staging (queued [task .deepEnter .power false]) .stalled).rank 0).state ≠ .deep ∧
      (∀ x ∈ ((staging (queued [task .deepEnter .power false]) .stalled).queue .a).tasks,
        ∀ y ∈ ((staging (queued [task .deepEnter .power false]) .stalled).queue .a).tasks, x.rank = 0 → y.rank = 0 →
          x.kind.place = .power → y.kind.place = .power → x = y) ∧
      (withRank { online with state := .deep, interval := none }).Admits 1 ∧
      ((withRank { online with state := .deep, interval := none }).rank 0).interval = none ∧
      stateCheck .setBand RankState.deep = none := by and_intros <;> decide

/-- The timing fields at their reset values. -/
def resetTiming : TimingFields :=
  { napExit := 3, napEntry := 2, refreshBusy := 26, deepEntry := 5, baseInterval := 780, calLong := 256, windowBudget := 400,
    deepSettle := 52, grantWait := 200, releaseWait := 50, urgentGrantWait := 1000, calShort := 64, tokenHold := 2000,
    deepExit := 20, calPeriod := 12800000 }

/-- The policy fields at their reset values. -/
def resetPolicy : PolicyFields :=
  { postponeLimit := 5, advanceLimit := 2, urgentAt := 3, gatherThreshold := 2, advanceEnable := 1 }

/-- The thermal fields at their reset values. -/
def resetThermal : ThermalFields :=
  { rise1 := 340, rise2 := 380, rise3 := 420, hyst := 8, fallbackBand := 2, pollPeriod := 100000, calDrift := 40, busSpeed := 0 }

theorem witness_set_timing :
    State.reset.Admits 1 ∧ (timingOf resetTiming).Legal State.reset.policy.postponeLimit ∧
      (∀ r : Slot, (State.reset.rank r).state = .absent ∨ (State.reset.rank r).state = .offline) := by and_intros <;> decide
theorem witness_set_timing_refused :
    one.Admits 1 ∧ (∀ p ∈ timingChecks (timingOf resetTiming), p.2 = true) ∧
      (∃ r : Slot, (one.rank r).state ≠ .absent ∧ (one.rank r).state ≠ .offline) ∧
      (∀ p ∈ timingChecks (timingOf { resetTiming with windowBudget := 260 }), p.2 = true) ∧
      ({ resetTiming with windowBudget := 260 } : TimingFields).windowBudget.toNat <
        maxTask (timingOf { resetTiming with windowBudget := 260 }) State.reset.policy.postponeLimit := by and_intros <;> decide
theorem witness_set_refresh_policy :
    (withRank { online with balance := -5 }).Admits 1 ∧ (∀ p ∈ policyChecks resetPolicy, p.2 = true) ∧
      1 ≤ resetPolicy.urgentAt.toNat ∧ resetPolicy.urgentAt.toNat ≤ resetPolicy.postponeLimit.toNat ∧
      maxTask one.timing resetPolicy.postponeLimit.toNat ≤ one.timing.windowBudget ∧
      (∀ r : Slot, -(resetPolicy.postponeLimit.toNat : Int) ≤ ((withRank { online with balance := -5 }).rank r).balance ∧
        ((withRank { online with balance := -5 }).rank r).balance ≤ (resetPolicy.advanceLimit.toNat : Int)) := by and_intros <;> decide
theorem witness_set_refresh_policy_urgent_at :
    State.reset.Admits 1 ∧ (∀ p ∈ policyChecks { resetPolicy with urgentAt := 0 }, p.2 = true) ∧
      (∀ p ∈ policyChecks { resetPolicy with urgentAt := 6 }, p.2 = true) ∧
      ({ resetPolicy with postponeLimit := 5, urgentAt := 6 } : PolicyFields).postponeLimit.toNat <
        ({ resetPolicy with postponeLimit := 5, urgentAt := 6 } : PolicyFields).urgentAt.toNat := by and_intros <;> decide
theorem witness_set_refresh_policy_budget :
    ({ State.reset with timing := { Config.timing with refreshBusy := 60, windowBudget := 400 } } : State).Admits 1 ∧
      (400 : Nat) < maxTask { Config.timing with refreshBusy := 60, windowBudget := 400 } 7 ∧
      (∀ p ∈ policyChecks { resetPolicy with postponeLimit := 7 }, p.2 = true) := by and_intros <;> decide
theorem witness_set_refresh_policy_out_of_range :
    (withRank { online with balance := -5 }).Admits 1 ∧ (∀ p ∈ policyChecks { resetPolicy with postponeLimit := 4 }, p.2 = true) ∧
      ((withRank { online with balance := -5 }).rank 0).balance < -(4 : Int) ∧ (∀ q : Slot, q < 0 → False) := by and_intros <;> decide
theorem witness_set_thermal :
    State.reset.Admits 1 ∧ State.reset.Fresh 1 ∧ (∀ p ∈ thermalChecks resetThermal, p.2 = true) ∧
      bandOf resetThermal.fallbackBand = some 2 := by and_intros <;> decide

/-- Slot 0 with a REFRESH_NOW that waits for a window. -/
def waiting : State := staging (queued [task .refreshNow .routine false]) .requesting

/-- Slot 0 in DEEP and band 3 with the host's DEEP_EXIT, raised, waiting for a window. -/
def leaving : State :=
  staging ((queued [task .deepExit .urgent false]).setRank 0 { online with state := .deep, band := 3, interval := none }) .stalled

theorem witness_flush_host :
    waiting.Admits 1 ∧ waiting.Fresh 1 ∧ waiting.RankLaw ∧ waiting.WorkLaw ∧ chanOf 0 = some .a ∧ chanOf 1 = some .b ∧
      leaving.Admits 1 ∧ leaving.Fresh 1 ∧ leaving.RankLaw ∧ leaving.WorkLaw ∧ (leaving.engine .a).resetMark = false := by
  and_intros <;> decide
theorem witness_reset_channel :
    waiting.Admits 1 ∧ waiting.Fresh 1 ∧ (waiting.engine .a).flight = none ∧
      (∀ x ∈ (waiting.queue .a).tasks, x.executing = false) ∧ (busy .refresh .routine).Admits 1 ∧
      (busy .refresh .routine).Fresh 1 ∧ ((busy .refresh .routine).engine .a).flight.isSome = true := by and_intros <;> decide
theorem witness_reset_channel_negotiator :
    (staging one .releasing).Admits 1 ∧ ((staging one .releasing).nego .a).qgnt = true ∧
      ((staging one .releasing).engine .a).flight = none ∧
      (State.reset.setNego .a { State.reset.nego .a with qgnt := true }).Admits 1 ∧
      (State.reset.nego .a).qgnt = false ∧ chanOf 0 = some .a := by and_intros <;> decide
theorem witness_reset_channel_recreates :
    leaving.Admits 1 ∧ leaving.Fresh 1 ∧ (leaving.engine .a).flight = none ∧ (leaving.rank 0).channel = some .a ∧
      (leaving.rank 0).state = .deep ∧ (leaving.rank 0).band = 3 ∧ (∀ x ∈ (leaving.queue .a).tasks, x.executing = false) ∧
      (withRank { online with balance := -1 }).Admits 1 ∧
      ((withRank { online with balance := -1 }).rank 0).balance < 0 ∧
      (∀ e ∈ leaving.outstanding, e.kind = .resetChannel → e.channel ≠ .chan .a) := by and_intros <;> decide
theorem witness_refresh_now :
    one.Admits 1 ∧ slotOf 0 = some 0 ∧ 1 ≤ (1#8).toNat ∧ (8#8).toNat ≤ 8 ∧ (one.rank 0).state = .online ∧
      (one.rank 0).channel = some .a ∧ (∀ x ∈ (one.queue .a).tasks, x.rank = 0 → x.kind ≠ .deepEnter ∧ x.kind ≠ .refreshNow) ∧
      ((one.queue .a).tasks.filter (fun x => x.kind = .refreshNow)).length < 8 := by and_intros <;> decide
theorem witness_calibrate_new :
    one.Admits 1 ∧ calKindOf 0 = some .short ∧ calKindOf 1 = some .long ∧ (one.rank 0).state = .online ∧
      (one.rank 0).group = some 0 ∧ one.NoStanding 0 0 ∧ slotOf 0 = some 0 ∧ (one.rank 0).channel = some .a ∧
      (∀ x ∈ (one.queue .a).tasks, x.rank = 0 → x.kind ≠ .deepEnter ∧
        (x.kind = .calShort ∨ x.kind = .calLong → x.executing = false)) := by and_intros <;> decide

/-- Slot 0 with a waiting entry that is not eligible, its channel being STALLED. -/
def listed : State := staging (one.setGroup 0 { CalGroup.initial with waiting := [entry] }) .stalled

/-- Slot 0 with the token in HELD and its task queued. -/
def held : State :=
  staging ((queued [{ task .calShort .cal false with tag := none, origin := .drift }]).setGroup 0
    { CalGroup.initial with state := .held, holder := some 0, heldEntry := some entry, tokenTimer := some 2000 }) .requesting

theorem witness_calibrate_listed :
    listed.Admits 1 ∧ (listed.group 0).holder ≠ some 0 ∧ (∃ e ∈ (listed.group 0).waiting, e.rank = 0) ∧
      (∀ e ∈ (listed.group 0).waiting, e.rank = 0 → e.tag = none) ∧ (listed.rank 0).state = .online ∧
      (listed.rank 0).channel = some .a ∧ (listed.rank 0).group = some 0 ∧ (listed.queue .a).tasks = [] := by and_intros <;> decide
theorem witness_calibrate_held :
    held.Admits 1 ∧ (held.group 0).holder = some 0 ∧ (held.group 0).state = .held ∧ (held.group 0).heldEntry = some entry ∧
      entry.tag = none ∧ (∀ e ∈ (held.group 0).waiting, e.rank ≠ 0) ∧
      (∀ x ∈ (held.queue .a).tasks, x.rank = 0 → x.kind ≠ .deepEnter ∧
        (x.kind = .calShort ∨ x.kind = .calLong → x.executing = false)) ∧ (held.rank 0).state = .online ∧
      (held.rank 0).channel = some .a ∧ (held.rank 0).group = some 0 := by and_intros <;> decide
/-- Slot 0's task in flight on channel A, slot 1 of channel A with the token of group 1 in HELD and slot 2 of channel B waiting. -/
def contended : State :=
  (((busy .refresh .routine).setRank 1 { online with group := some 1 }).setRank 2
    { online with channel := some .b, group := some 1 }).setGroup 1
    { CalGroup.initial with
      state := .held, holder := some 1, heldEntry := some { entry with rank := 1 }, tokenTimer := some 2000
      waiting := [{ entry with rank := 2 }] }

theorem witness_reset_channel_idle_groups :
    held.Admits 1 ∧ held.Fresh 1 ∧ (held.engine .a).flight = none ∧ (∀ x ∈ (held.queue .a).tasks, x.executing = false) ∧
      (held.group 0).state = .held ∧ (held.group 0).heldEntry = some entry ∧ (held.rank entry.rank).channel = some .a ∧
      (held.rank entry.rank).channel ≠ some .b ∧ (held.engine .b).flight = none ∧ (held.queue .b).tasks = [] ∧
      listed.Admits 1 ∧ listed.Fresh 1 ∧ (listed.engine .a).flight = none ∧ (listed.queue .a).tasks = [] ∧
      (listed.group 0).state = .free ∧
      (∀ e ∈ (listed.group 0).waiting, ((listed.rank e.rank).channel != some .a && listed.eligible e) = false) := by
  and_intros <;> decide
theorem witness_reset_channel_takes_token :
    contended.Admits 1 ∧ contended.Fresh 1 ∧ (contended.engine .a).flight.isSome = true ∧ (contended.group 1).state = .held ∧
      (contended.group 1).heldEntry = some { entry with rank := 1 } ∧ (contended.rank 1).channel = some .a ∧
      contended.eligible { entry with rank := 2 } = true ∧ (contended.rank 2).channel = some .b := by and_intros <;> decide
theorem witness_power_commands :
    one.Admits 1 ∧ (one.rank 0).state = .online ∧ (one.rank 0).band ≠ 3 ∧
      (∀ g ∈ (one.rank 0).group, (one.group g).holder ≠ some 0 ∧ ∀ e ∈ (one.group g).waiting, e.rank = 0 → e.tag = none) ∧
      (withRank { online with state := .nap }).Admits 1 ∧ ((withRank { online with state := .nap }).rank 0).state = .nap ∧
      (withRank { online with state := .deep, interval := none }).Admits 1 ∧
      ((withRank { online with state := .deep, interval := none }).rank 0).state = .deep ∧
      (∀ x ∈ (one.queue .a).tasks, x.rank = 0 → x.kind ≠ .napEnter) := by and_intros <;> decide
theorem witness_work_refusals_busy :
    (busy .refresh .routine).Admits 1 ∧ stateCheck .takeOffline ((busy .refresh .routine).rank 0).state = none ∧
      (∃ f ∈ ((busy .refresh .routine).engine .a).flight, f.rank = 0) ∧ slotOf 0 = some 0 ∧
      ((busy .refresh .routine).rank 0).channel = some .a := by and_intros <;> decide
theorem witness_work_refusals_deep :
    (staging (queued [task .deepEnter .power false]) .requesting).Admits 1 ∧
      (staging (queued [task .deepEnter .power false]) .requesting).deepEnterQueued 0 = true ∧
      ((staging (queued [task .deepEnter .power false]) .requesting).rank 0).state.served = true := by and_intros <;> decide
theorem witness_work_refusals_queued :
    waiting.Admits 1 ∧ ¬ waiting.deepEnterQueued 0 = true ∧ (waiting.rank 0).channel = some .a ∧
      (waiting.rank 0).state.served = true ∧
      (∃ x ∈ (waiting.queue .a).tasks, x.rank = 0 ∧ x.kind = .refreshNow) := by and_intros <;> decide

/-- Eight REFRESH_NOW tasks of other slots in queue A. -/
def poolFull : State :=
  staging (one.setQueue .a { tasks := List.replicate 8 { task .refreshNow .routine false with rank := 1 }, seq := 8 }) .requesting

theorem witness_work_refusals_full :
    poolFull.Admits 1 ∧ ¬ poolFull.deepEnterQueued 0 = true ∧
      (∀ x ∈ (poolFull.queue .a).tasks, ¬ (x.rank = 0 ∧ x.kind = .refreshNow)) ∧
      8 ≤ ((poolFull.queue .a).tasks.filter (fun x => x.kind = .refreshNow)).length := by and_intros <;> decide
theorem witness_work_refusals_calibrating :
    (busy .calShort .cal).Admits 1 ∧ (busy .calShort .cal).calExecuting 0 = true ∧ ((1#8).toNat ≤ 1) ∧
      ¬ (busy .calShort .cal).deepEnterQueued 0 = true := by and_intros <;> decide
theorem witness_work_refusals_pending :
    (staging (one.setGroup 0 { CalGroup.initial with waiting := [{ entry with tag := some 9 }] }) .stalled).Admits 1 ∧
      (∃ g ∈ (one.rank 0).group, ∃ e ∈ ((staging (one.setGroup 0
        { CalGroup.initial with waiting := [{ entry with tag := some 9 }] }) .stalled).group g).waiting,
        e.rank = 0 ∧ e.tag.isSome = true) := by and_intros <;> decide
theorem witness_power_refusals :
    (staging (queued [task .napEnter .power false]) .requesting).Admits 1 ∧
      (∃ x ∈ ((staging (queued [task .napEnter .power false]) .requesting).queue .a).tasks, x.rank = 0 ∧ x.kind = .napEnter) ∧
      stateCheck .napEnter (one.rank 0).state = none ∧ (withRank { online with band := 3 }).Admits 1 ∧
      ((withRank { online with band := 3 }).rank 0).band = 3 ∧ stateCheck .deepEnter (one.rank 0).state = none ∧
      (∃ x ∈ (waiting.queue .a).tasks, x.rank = 0 ∧ x.kind = .refreshNow) ∧ (waiting.rank 0).band ≠ 3 := by and_intros <;> decide
theorem witness_window_registers :
    State.reset.inReset = false ∧ State.reset.Settled ∧ State.reset.Admits 1 ∧ slotOf 7 = some 7 ∧
      ((0x000 : BitVec 12).toNat % 4 = 0 ∧ (0x000 : BitVec 12).toNat < 0x020) ∧
      ((0x040 : BitVec 12).toNat % 4 = 0 ∧ 0x03C < (0x040 : BitVec 12).toNat) ∧
      (0x04C < (0x04D : BitVec 12).toNat ∧ (0x0FF : BitVec 12).toNat < 0x100) ∧
      (0x17C < (0x17D : BitVec 12).toNat ∧ (0x1FF : BitVec 12).toNat < 0x200) ∧ 0x21C < (0x21D : BitVec 12).toNat ∧
      decodeRecord State.reset.staging = none ∧ (0x00000001#32).getLsbD 0 = true ∧ (0x00004000#32).getLsbD 0 = false := by and_intros <;> decide
theorem witness_pop :
    State.reset.records = [] ∧ ({ State.reset with records := full, lost := 3 } : State).Settled ∧ full.tail.length + 0 < 64 ∧
      64 ≤ full.tail.length + [crowd.head?].length ∧ (.notice (.lost 1) 0) ∈ full.head? := by and_intros <;> decide

/-! ### Hypotheses about the handshake -/

theorem witness_grant_without_window :
    State.reset.Settled ∧ (State.reset.nego .a).qgnt = false ∧ (State.reset.nego .a).state = .idle ∧
      ((staging one .requesting).setNego .a { (staging one .requesting).nego .a with qrcl := true }).Settled ∧
      ((staging one .stalled).setNego .a { (staging one .stalled).nego .a with qrcl := true }).Settled ∧
      ((staging one .requesting).engine .a).flight = none ∧ ((staging one .stalled).nego .a).qgnt = false := by and_intros <;> decide

/-- The window of slot 0's task, its grant lost. -/
def lostWindow (kind : TaskKind) : State :=
  (busy kind .routine).setNego .a { (busy kind .routine).nego .a with
    state := .draining, qreq := false, qgnt := false, lost := true }

theorem witness_grant_after_loss :
    (lostWindow .refresh).Settled ∧ ((lostWindow .refresh).nego .a).qgnt = false ∧
      ((lostWindow .refresh).nego .a).state = .draining ∧ ((lostWindow .refresh).nego .a).lost = true := by and_intros <;> decide
theorem witness_grant_opens_window :
    (staging one .requesting).HandshakeLaw ∧ (staging one .stalled).HandshakeLaw ∧
      ((staging one .requesting).nego .a).qgnt = false ∧ ((staging one .stalled).nego .a).qrcl = false := by and_intros <;> decide
theorem witness_grant_fall :
    ((busy .refresh .routine).nego .a).qgnt = true ∧ (busy .refresh .routine).Settled ∧
      ((busy .refresh .routine).nego .a).state = .opened ∧ ((busy .refresh .routine).engine .a).flight.isSome = true ∧
      ((staging one .opened).engine .a).flight = none ∧ ((staging one .draining).nego .a).lost = false ∧
      ((staging one .releasing).nego .a).qgnt = true ∧
      ((State.reset.setNego .a { State.reset.nego .a with qgnt := true }).nego .a).state = .idle := by and_intros <;> decide
theorem witness_grant_fall_after_loss :
    ((lostWindow .refresh).setNego .a { (lostWindow .refresh).nego .a with qgnt := true }).Settled ∧
      (((lostWindow .refresh).setNego .a { (lostWindow .refresh).nego .a with qgnt := true }).nego .a).qgnt = true := by and_intros <;> decide
theorem witness_recall_edges :
    (busy .refresh .routine).Settled ∧ ((busy .refresh .routine).nego .a).qrcl = false ∧ State.reset.Settled ∧
      (State.reset.nego .a).state ≠ .opened ∧ (staging one .opened).Settled ∧ ((staging one .opened).engine .a).flight = none := by and_intros <;> decide
theorem witness_handshake_timers :
    (staging one .requesting).Settled ∧ ((staging one .requesting).nego .a).grantTimer = some 200 ∧
      ((staging one .requesting).nego .a).escalated = false ∧ ((staging one .requesting).nego .a).qurg = false ∧
      ((staging one .requesting).setNego .a { (staging one .requesting).nego .a with escalated := true, qurg := true }).Settled ∧
      (staging one .releasing).Settled ∧ ((staging one .releasing).nego .a).releaseTimer = some 50 := by and_intros <;> decide

/-! ### Hypotheses about timers, completions and the sensor bus -/

theorem witness_interval_expiry :
    (one.rank 0).state.served = true ∧ (one.rank 0).channel = some .a ∧
      (one.rank 0).interval = some { started := 0, full := 780, length := 780 } ∧
      ((withRank { online with balance := -5 }).rank 0).balance ≤ -((withRank { online with balance := -5 }).policy.postponeLimit : Int) := by and_intros <;> decide

/-- Slot 0 settling, with or without an entry in its group's list. -/
def settling (entries : List Entry) : State :=
  (withRank { online with state := .settling, interval := none, settle := some 52 }).setGroup 0
    { CalGroup.initial with waiting := entries }

theorem witness_settle_expiry :
    ((settling []).rank 0).settle = some 52 ∧ ((settling []).group 0).holder ≠ some 0 ∧
      (∀ e ∈ ((settling []).group 0).waiting, e.rank ≠ 0) ∧ (∃ e ∈ ((settling [entry]).group 0).waiting, e.rank = 0) := by and_intros <;> decide
theorem witness_token_hold_expiry :
    (held.group 0).state = .held ∧ (held.group 0).tokenTimer = some 2000 ∧ (held.group 0).heldEntry = some entry ∧
      (held.rank entry.rank).channel = some .a ∧ entry.revocations < 2 ∧
      ((held.setGroup 0 { held.group 0 with heldEntry := some { entry with revocations := 2 } }).group 0).heldEntry =
        some { entry with revocations := 2 } ∧ 2 ≤ ({ entry with revocations := 2 } : Entry).revocations := by and_intros <;> decide

/-- A state with slot 0's periodic timer running. -/
def periodic (s : State) : State := s.setRank 0 { online with periodic := some 100 }

theorem witness_periodic_expiry :
    (periodic one).Settled ∧ ((periodic one).rank 0).periodic = some 100 ∧ ((periodic one).rank 0).calStatus = .valid ∧
      (periodic one).NoStanding 0 0 ∧ (periodic listed).Settled ∧ ((periodic listed).group 0).holder ≠ some 0 ∧
      (∃ e ∈ ((periodic listed).group 0).waiting, e.rank = 0) ∧ (periodic held).Settled ∧
      ((periodic held).group 0).holder = some 0 ∧ ((periodic held).group 0).state = .held := by and_intros <;> decide

/-- Slot 0's calibration in flight, its group CALIBRATING. -/
def calibrating (k : Rank) : State :=
  ((busy .calLong .cal).setRank 0 k).setGroup 0
    { CalGroup.initial with state := .calibrating, holder := some 0, heldEntry := some { entry with kind := .long } }

theorem witness_periodic_expiry_calibrating :
    (periodic (calibrating online)).Settled ∧ ((periodic (calibrating online)).group 0).state = .calibrating ∧
      ((periodic (calibrating online)).group 0).holder = some 0 := by and_intros <;> decide
/-- A channel that is resetting while its task runs out, its window being released, and the RESET_CHANNEL that waits for it. -/
def resettingIn (s : State) : State :=
  { staging (s.setEngine .a { s.engine .a with resetMark := true }) .releasing with
    outstanding := [{ tag := 7, kind := .resetChannel, slot := .absent, channel := .chan .a, removed := 2 }] }

theorem witness_completion_of_power_task :
    (busy .deepEnter .power).inReset = false ∧ (busy .deepEnter .power).drain = false ∧
      ((busy .deepEnter .power).rank 0).channel = some .a ∧ ((busy .deepEnter .power).rank 0).group = some 0 ∧
      ((busy .deepEnter .power).engine .a).completion = some 26 ∧
      ((busy .deepEnter .power).engine .a).flight.map Flight.kind = some (.task .deepEnter) ∧
      ((busy .deepEnter .power).queue .a).tasks.filter (fun y => y.executing) = [task .deepEnter .power true] ∧
      (task .deepEnter .power true).rank = 0 ∧ ((busy .deepEnter .power).nego .a).state = .opened ∧
      ((busy .deepEnter .power).engine .a).resetMark = false ∧
      (TaskKind.deepEnter, RankState.deep) ∈ [(TaskKind.napEnter, RankState.nap), (.napExit, .online), (.deepEnter, .deep),
        (.deepExit, .settling)] ∧
      (((busy .deepEnter .power).setRank 0 { online with band := 3 }).rank 0).band = 3 ∧
      (∀ y ∈ ((busy .deepEnter .power).queue .a).tasks, y.rank = 0 → y.kind.place = .power → y = task .deepEnter .power true) := by and_intros <;> decide
theorem witness_completion_of_power_task_after :
    ((staging (busy .napExit .power) .draining).nego .a).state = .draining ∧
      ((staging (busy .napExit .power) .draining).nego .a).lost = false ∧ ((lostWindow .napExit).nego .a).lost = true ∧
      ({ staging (busy .napExit .power) .releasing with drain := true } : State).drain = true ∧
      ((staging (busy .napExit .power) .releasing).nego .a).state = .releasing ∧
      ((staging (busy .napExit .power) .releasing).engine .b).flight = none ∧
      ((resettingIn (busy .napExit .power)).engine .a).resetMark = true ∧ (resettingIn (busy .napExit .power)).drain = false ∧
      ((resettingIn (busy .napExit .power)).outstanding.map OutEntry.tag).Nodup ∧ (task .napExit .power true).tag ≠ some 7 ∧
      ((staging ((busy .napExit .power).setEngine .b ((busy .napExit .power).engine .a)) .releasing).engine
        .b).flight.isSome = true := by and_intros <;> decide
theorem witness_completion_of_calibration :
    (calibrating online).drain = false ∧ ((calibrating online).engine .a).completion = some 26 ∧
      ((calibrating online).engine .a).flight.map Flight.kind = some (.task .calLong) ∧
      ((calibrating online).engine .a).sample = none ∧ ((calibrating online).rank 0).group = some 0 ∧
      (∀ y ∈ ((calibrating online).queue .a).tasks, y.rank = 0 → y.kind ≠ .deepEnter) ∧
      (∀ e ∈ ((calibrating online).group 0).waiting, e.rank ≠ 0) ∧ ((calibrating online).group 0).discard = false ∧
      min 2 (((calibrating online).rank 0).failures + 1) = 1 ∧
      min 2 (((calibrating { online with failures := 1 }).rank 0).failures + 1) = 2 ∧
      ((calibrating { online with state := .faulted, failures := 2, calStatus := .stale }).rank 0).state = .faulted ∧
      (((calibrating online).setGroup 0 { (calibrating online).group 0 with discard := true }).group 0).discard = true ∧
      ((calibrating online).rank 0).channel = some .a ∧
      (∀ h : GroupId, ∀ e ∈ ((calibrating online).group h).waiting, e.rank ≠ 0) := by and_intros <;> decide
theorem witness_completion_of_calibration_in_drain :
    ({ staging (calibrating online) .releasing with drain := true } : State).drain = true ∧
      ((staging (calibrating online) .releasing).nego .a).state = .releasing ∧
      ((staging (calibrating online) .releasing).engine .b).flight = none ∧
      ((staging ((calibrating online).setEngine .b ((calibrating online).engine .a)) .releasing).engine
        .b).flight.isSome = true := by and_intros <;> decide
theorem witness_completion_of_calibration_after :
    ((calibrating online).nego .a).state = .opened ∧ ((calibrating online).engine .a).resetMark = false ∧
      ((staging (calibrating online) .draining).nego .a).state = .draining ∧
      ((staging (calibrating online) .draining).nego .a).lost = false ∧
      (((calibrating online).setNego .a ((lostWindow .calLong).nego .a)).nego .a).lost = true ∧
      (((calibrating online).setNego .a ((lostWindow .calLong).nego .a)).nego .a).state = .draining ∧
      ((resettingIn (calibrating online)).engine .a).resetMark = true ∧ (resettingIn (calibrating online)).drain = false ∧
      ((resettingIn (calibrating online)).nego .a).state = .releasing ∧
      ((resettingIn (calibrating online)).outstanding.map OutEntry.tag).Nodup ∧
      ((resettingIn (calibrating online)).group 0).heldEntry.bind Entry.tag ≠ some 7 := by and_intros <;> decide
/-- R87, R161, R162: OK makes the rank VALID, frees the token and, in DRAINING, the window is released. -/
theorem test_calibration_completes : after (exec (.taskCompletion .a { result := .ok, sda := true })
      (staging (calibrating { online with calStatus := .never }) .draining))
    (fun t => ((t.rank 0).calStatus, (t.group 0).state, (t.queue .a).tasks, (t.engine .a).state, (t.nego .a).state)) =
    some (.valid, .free, [], .standby, .releasing) := by decide
theorem witness_completion_in_draining_window :
    (staging (busy .refresh .routine) .draining).inReset = false ∧ (staging (busy .refresh .routine) .draining).drain = false ∧
      ((staging (busy .refresh .routine) .draining).engine .a).completion = some 26 ∧
      ((staging (busy .refresh .routine) .draining).nego .a).state = .draining ∧
      ((staging (busy .refresh .routine) .draining).nego .a).lost = false ∧
      ((staging (busy .refresh .routine) .draining).engine .a).resetMark = false ∧
      ((staging (busy .refresh .routine) .draining).rank 0).channel = some .a ∧
      ((lostWindow .refreshNow).engine .a).flight.map Flight.kind = some (.task .refreshNow) ∧
      ((lostWindow .refreshNow).nego .a).lost = true ∧ ((inFlight one .fill).engine .a).flight.map Flight.kind = some .fill := by and_intros <;> decide
theorem witness_completion_in_open_window :
    (busy .refresh .routine).drain = false ∧ ((busy .refresh .routine).engine .a).resetMark = false ∧
      ((busy .refresh .routine).nego .a).state = .opened ∧ ((busy .refresh .routine).engine .a).completion = some 26 ∧
      ((busy .refresh .routine).rank 0).channel = some .a := by and_intros <;> decide

/-- Slot 0's refresh task in flight on channel A while the channel is resetting, its window being released. -/
def resetting : State := resettingIn (busy .refresh .routine)

theorem witness_completion_in_channel_reset :
    resetting.drain = false ∧ (resetting.engine .a).resetMark = true ∧ (resetting.nego .a).state = .releasing ∧
      (resetting.engine .a).completion = some 26 ∧ (resetting.outstanding.map OutEntry.tag).Nodup ∧
      (resetting.outstanding.map OutEntry.kind) = [.resetChannel] ∧
      (((resetting.queue .a).tasks.find? (fun x => x.executing)).bind Task.tag) ≠ some 7 := by and_intros <;> decide
theorem witness_completion_in_drain :
    ({ staging (busy .refresh .routine) .releasing with drain := true } : State).drain = true ∧
      ((staging (busy .refresh .routine) .releasing).nego .a).state = .releasing ∧
      (∀ f ∈ ((staging (busy .refresh .routine) .releasing).engine .b).flight, False) ∧
      ((staging ((busy .refresh .routine).setEngine .b ((busy .refresh .routine).engine .a)) .releasing).engine
        .b).flight.isSome = true := by and_intros <;> decide

/-- A calibration of slot 0, napping, with its sample due. -/
def sampling : State :=
  (calibrating { online with state := .nap }).setEngine .a
    { (calibrating { online with state := .nap }).engine .a with sample := some 20 }

theorem witness_cal_result_sample :
    sampling.Settled ∧ (sampling.engine .a).sample = some 20 ∧ (sampling.engine .a).flight.isSome = true ∧
      (sampling.rank 0).group = some 0 ∧ (sampling.nego .a).state = .opened := by and_intros <;> decide

/-- Slot 7 with a sensor. -/
def sensed : State := State.reset.setRank 7 { configured with sensor := some 0x18, sensorStatus := .unread }

theorem witness_poll_timer_expiry :
    State.reset.monitor.pollTimer = some 100000 ∧ (∀ r : Slot, ¬ ((State.reset.rank r).state ≠ .absent ∧
      (State.reset.rank r).sensor.isSome = true)) ∧ sensed.Settled ∧ sensed.monitor.bus = .idle ∧
      (∀ j : Slot, j < 7 → ¬ ((sensed.rank (sensed.monitor.cursor + j)).state ≠ .absent ∧
        (sensed.rank (sensed.monitor.cursor + j)).sensor.isSome = true)) ∧
      (sensed.rank (sensed.monitor.cursor + 7)).state ≠ .absent ∧ (sensed.rank (sensed.monitor.cursor + 7)).sensor.isSome = true := by and_intros <;> decide

/-- A read of slot 7 at this stage of the bus. -/
def reading (b : BusState) (k : Rank) (discard : Bool) : State :=
  (sensed.setRank 7 k).setMonitor { sensed.monitor with bus := b, readSlot := some 7, discard := discard }

/-- Slot 7's record with this status and count. -/
def sensor (st : SensorStatus) (failures : Nat) : Rank :=
  { configured with sensor := some 0x18, sensorStatus := st, sensorFailures := failures }

theorem witness_attempt_end :
    (reading .read (sensor .unread 1) false).Settled ∧ (reading .read (sensor .unread 1) false).monitor.readSlot = some 7 ∧
      (reading .retry (sensor .good 2) false).Settled ∧ ((reading .retry (sensor .good 2) false).rank 7).sensorStatus = .good ∧
      2 ≤ ((reading .retry (sensor .good 2) false).rank 7).sensorFailures ∧
      ((reading .retry (sensor .failed 3) false).rank 7).sensorStatus = .failed ∧
      (reading .retry (sensor .unread 0) true).monitor.discard = true ∧ (reading .retry (sensor .unread 0) true).Settled ∧
      -160 ≤ ((0xFF60#16).extractLsb' 0 12).toInt ∧ ((0xFF60#16).extractLsb' 0 12).toInt ≤ 511 ∧
      511 < ((0x8200#16).extractLsb' 0 12).toInt ∧ ((0x8F5F#16).extractLsb' 0 12).toInt < -160 := by and_intros <;> decide

/-- A drain with slot 0's task in flight, its window being released, and a read of slot 7 in progress. -/
def drainingRead : State :=
  { staging (inFlight (reading .read (sensor .good 0) false) .fill) .releasing with drain := true }

theorem witness_drain_ends_in_read :
    (reading .read (sensor .unread 0) false).monitor.bus ≠ .idle ∧
      ((reading .read (sensor .unread 0) false).engine .a).flight = none ∧
      ((reading .read (sensor .unread 0) false).engine .b).flight = none ∧
      (reading .read (sensor .unread 0) false).drain = false ∧ drainingRead.drain = true ∧
      drainingRead.monitor.bus ≠ .idle ∧ (drainingRead.engine .a).completion = some 26 ∧ (drainingRead.engine .b).flight = none ∧
      (drainingRead.nego .a).state = .releasing := by and_intros <;> decide
/-- R69: the end of a drain abandons a read with a stop condition where the data line is high, and without one where it is low. -/
theorem test_drain_abandons_read : [true, false].map (fun sda =>
      after (exec (.taskCompletion .a { result := .ok, sda := sda }) drainingRead)
        (fun t => (t.drain, t.monitor.bus, t.monitor.abandonStop))) =
    [some (false, .idle, true), some (false, .idle, false)] := by decide

/-- A second attempt of slot 7's read, its sensor two failures down and its interval running in band 0. -/
def failing : State :=
  reading .retry { online with sensor := some 0x18, sensorStatus := .good, lastTemp := some 100, sensorFailures := 2 } false

theorem witness_band_of_a_read :
    failing.Settled ∧ failing.monitor.readSlot = some 7 ∧ failing.monitor.discard = false ∧ (failing.rank 7).channel = some .a ∧
      (failing.rank 7).interval.isSome = true ∧ (failing.rank 7).state.served = true ∧ (failing.rank 7).band = 0 ∧
      failing.thermal.fallbackBand = 2 ∧ failing.Admits 1 ∧ failing.Fresh 1 := by and_intros <;> decide
/-- R27, R55: the third failed read, 11 bit periods on, raises the rank to the fallback band 2, whose 195 TU have run. -/
theorem test_fallback_expires : after (exec (.attemptEnd { fault := false, ack := false, word := 0, stretch := 0, sda := true }) failing)
    (fun t => ((t.rank 7).band, (t.rank 7).balance, (t.rank 7).interval, (t.queue .a).tasks.map Task.kind)) =
    some (2, -1, some { started := 11000, full := 195, length := 195 }, [.refresh]) := by decide
/-- R27, R57: a good sample of 97.50 °C, 29 bit periods on, raises the rank to band 2 with the same expiry. -/
theorem test_sample_expires : after (exec (.attemptEnd { fault := false, ack := true, word := 0x8186#16, stretch := 0, sda := true }) failing)
    (fun t => ((t.rank 7).band, (t.rank 7).balance, (t.rank 7).interval, (t.queue .a).tasks.map Task.kind)) =
    some (2, -1, some { started := 29000, full := 195, length := 195 }, [.refresh]) := by decide

/-- A read of slot 7, ONLINE and VALID, last calibrated at 25.00 °C. -/
def drifting : State :=
  reading .read { online with sensor := some 0x18, sensorStatus := .good, lastTemp := some 100, calTemp := some 100 } false

theorem witness_drift_check :
    drifting.Settled ∧ drifting.monitor.readSlot = some 7 ∧ (drifting.rank 7).group = some 0 ∧
      (drifting.rank 7).channel = some .a ∧ drifting.thermal.calDrift ≠ 0 ∧ (drifting.rank 7).state = .online ∧
      (drifting.rank 7).calStatus = .valid ∧ (∃ t0 ∈ (drifting.rank 7).calTemp,
        drifting.thermal.calDrift ≤ (((0x808C#16).extractLsb' 0 12).toInt - t0).natAbs) ∧
      (∀ t0 ∈ (drifting.rank 7).calTemp,
        ¬ drifting.thermal.calDrift ≤ (((0x808B#16).extractLsb' 0 12).toInt - t0).natAbs) ∧
      drifting.NoStanding 0 7 ∧ (drifting.queue .a).tasks = [] ∧
      (drifting.setGroup 0 { CalGroup.initial with waiting := [{ entry with rank := 7 }] }).Settled ∧
      ¬ (drifting.setGroup 0 { CalGroup.initial with waiting := [{ entry with rank := 7 }] }).NoStanding 0 7 := by
  and_intros <;> decide
/-- R90: a sample 10.00 °C from the last calibration's makes a DRIFT calibration, granted at once. -/
theorem test_drift_check : after (exec (.attemptEnd { fault := false, ack := true, word := 0x808C#16, stretch := 0, sda := true }) drifting)
    (fun t => ((t.group 0).holder, (t.queue .a).tasks.map Task.kind)) = some (some 7, [.calShort]) := by decide

theorem witness_bus_recovery :
    (reading .recovery (sensor .good 0) false).Settled ∧ (reading .recovery (sensor .good 0) false).monitor.bus = .recovery ∧
      (reading .recovery (sensor .good 0) false).monitor.pulses < 8 ∧
      8 ≤ ((reading .recovery (sensor .good 0) false).setMonitor
        { (reading .recovery (sensor .good 0) false).monitor with pulses := 8 }).monitor.pulses ∧
      ((reading .recovery (sensor .good 0) false).setMonitor
        { (reading .recovery (sensor .good 0) false).monitor with stopping := true }).Settled ∧
      (reading .read (sensor .good 0) false).monitor.bus = .read := by and_intros <;> decide

/-! ### Hypotheses about the shared operations and the laws -/

theorem witness_grant_scan :
    one.eligible entry = true ∧ ((one.setGroup 0 { CalGroup.initial with waiting := [entry] }).group 0).waiting = [] ++ entry :: [] ∧
      (one.rank entry.rank).channel = some .a ∧ (listed.group 0).state = .free ∧
      (∀ e ∈ (listed.group 0).waiting, listed.eligible e = false) ∧ (held.group 0).state ≠ .free := by and_intros <;> decide

/-- A window open on channel A, its budget whole, with a task of slot 0 waiting. -/
def opening (k : Rank) (t : Task) : State :=
  ((queued [t]).setRank 0 k).setEngine .a { (one.engine .a) with budget := 400 }

theorem witness_selection_starts :
    ((opening { online with balance := -2 } (task .refresh .routine false)).findPlan .a).map (fun x => (x.1.kind, x.2.n)) =
      some (.refresh, 2) ∧
    ((opening online (task .deepEnter .power false)).findPlan .a).map (fun x => (x.1.kind, x.2.duration)) =
      some (.deepEnter, 5) ∧
    ((opening { online with balance := 2 } (task .refreshNow .routine false)).findPlan .a).map (fun x => x.2.instant) =
      some true ∧
    ((opening { online with balance := -1 } (task .refreshNow .routine false)).findPlan .a).map (fun x => (x.2.n, x.2.instant)) =
      some (1, false) ∧
    ((opening { online with state := .nap } (task .calShort .cal false)).findPlan .a).map (fun x => x.2.duration) = some 69 ∧
    ((opening { online with state := .deep } (task .deepExit .power false)).findPlan .a).map (fun x => x.2.duration) = some 20 ∧
    ((opening { online with state := .faulted } (task .napExit .power false)).findPlan .a).map (fun x => x.2.instant) =
      some true ∧
    (opening online (task .calShort .cal false)).ParameterLaw := by and_intros <;> decide
/-- R96, R98, R156: a REFRESH_NOW of a napping rank drives NAP_OUT, its refresh and NAP_IN. -/
theorem test_operations_driven : (((opening { online with state := .nap } (task .refreshNow .routine false)).runSelection .a).engine
    .a).flight.map Flight.ops = some [.napOut, .refresh, .napIn] := by decide
/-- R38, R155: a REFRESH_NOW at the advance limit completes with 0 refreshes in the selection. -/
theorem test_zero_duration : ((opening { online with balance := 2 } (task .refreshNow .routine false)).runSelection .a).queue .a =
    { tasks := [], seq := 1 } := by decide
theorem witness_fill_or_done :
    ((opening online (task .refresh .routine false)).findPlan .a).isNone = true ∧
      1 ≤ one.timing.refreshBusy ∧ one.policy.advanceEnable = true ∧
      (∀ j : Slot, j < 0 → False) ∧ ((opening online (task .refresh .routine false)).rank 0).balance <
        ((opening online (task .refresh .routine false)).policy.advanceLimit : Int) ∧
      (opening online (task .refresh .routine false)).deepEnterQueued 0 = false ∧
      (State.reset.findPlan .a).isNone = true ∧ (∀ r : Slot, (State.reset.rank r).channel ≠ some .a) := by and_intros <;> decide
theorem witness_task_begins :
    after (exec (.qgntRise .a) (staging one .requesting)) (fun t => (t.engine .a).completion) = some (some 52) ∧
      ((staging one .requesting).engine .a).completion = none := by and_intros <;> decide
theorem witness_completion_record :
    (crowd.map OutEntry.tag).Nodup ∧
      { tag := 15, kind := .refreshNow, slot := .slot 0, channel := .absent, removed := 0 } ∈ crowd := by and_intros <;> decide
theorem witness_notice_margin :
    State.reset.records.length + State.reset.outstanding.length < 64 ∧ 64 ≤ full.length + State.reset.outstanding.length := by and_intros <;> decide
theorem witness_report_law : ({ State.reset with outstanding := crowd, pending := [.pop] } : State).ReportLaw := by and_intros <;> decide
theorem witness_parameter_law : ({ State.reset with pending := [.setTiming 1 resetTiming] } : State).ParameterLaw := by and_intros <;> decide
theorem witness_balance_law : ({ one with pending := [.intervalExpiry 0] } : State).BalanceLaw := by decide
theorem witness_handshake_law : ({ busy .refresh .routine with pending := [.qrclRise .a] } : State).HandshakeLaw := by and_intros <;> decide
theorem witness_rank_law : ({ busy .refresh .routine with pending := [.takeOffline 1 0] } : State).RankLaw := by and_intros <;> decide
theorem witness_work_law :
    (calibrating online).RankLaw ∧ (calibrating online).HandshakeLaw ∧ leaving.RankLaw ∧ leaving.HandshakeLaw ∧ leaving.WorkLaw := by
  and_intros <;> decide
theorem witness_work_law_entering :
    (staging (queued [task .refresh .routine false, task .deepEnter .power false]) .requesting).RankLaw ∧
      (staging (queued [task .refresh .routine false, task .deepEnter .power false]) .requesting).HandshakeLaw ∧
      (staging (queued [task .refresh .routine false, task .deepEnter .power false]) .requesting).WorkLaw := by and_intros <;> decide
theorem witness_work_law_held : held.RankLaw ∧ held.HandshakeLaw ∧ held.WorkLaw := by and_intros <;> decide
theorem witness_sensor_law :
    ({ sensed with pending := [.pollTimerExpiry true true] } : State).SensorLaw := by and_intros <;> decide
theorem witness_settled : ({ one with pending := [.calibrate 1 0 0] } : State).Settled := by and_intros <;> decide

end Sys2Proof.Tests
end

section
/-! SUPPORT and the proof of O50: the bands of a sample (R57, R58). What the highest band reached is, what one step down does, what the
fall by steps ends in, and from these the band by hysteresis and the band afresh. -/

namespace Sys2Proof.Machine

theorem riseOf_eq_ite (th : Thermal) (b : Band) :
    riseOf th b = if b = 3 then th.rise3 else if b = 2 then th.rise2 else th.rise1 := by
  fin_cases b <;> rfl

/-! ### The highest band reached -/

/-- The band reached is one whose lowered threshold the temperature reaches, unless it is 0. -/
theorem bandReached_reached (th : Thermal) (d t : Int) :
    bandReached th d t = 0 ∨ riseOf th (bandReached th d t) - d ≤ t := by
  unfold bandReached
  split
  · next h3 => exact Or.inr h3
  split
  · next h2 => exact Or.inr h2
  split
  · next h1 => exact Or.inr h1
  · exact Or.inl rfl

/-- A band whose lowered threshold the temperature reaches is not above the one reached. -/
theorem le_bandReached (th : Thermal) (d t : Int) (j : Band) (h : riseOf th j - d ≤ t) : j ≤ bandReached th d t := by
  unfold bandReached
  match j, h with
  | 0, _ => exact Fin.zero_le _
  | 1, (h1 : th.rise1 - d ≤ t) =>
    rw [if_pos h1]
    split_ifs <;> decide
  | 2, (h2 : th.rise2 - d ≤ t) =>
    rw [if_pos h2]
    split_ifs <;> decide
  | 3, (h3 : th.rise3 - d ≤ t) =>
    rw [if_pos h3]

theorem lt_riseOf_of_bandReached_lt (th : Thermal) (d t : Int) (j : Band) (hj : bandReached th d t < j) :
    t < riseOf th j - d :=
  Int.not_le.mp fun h => absurd hj (Fin.not_lt.mpr (le_bandReached th d t j h))

/-- The band reached is above `c` exactly where some rising threshold above `c` is reached. -/
theorem lt_bandReached_iff (th : Thermal) (c : Band) (t : Temp) :
    c < bandReached th 0 t ↔ ∃ j : Band, c < j ∧ riseOf th j ≤ t := by
  constructor
  · intro hc
    obtain hzero | hreached := bandReached_reached th 0 t
    · exact absurd hc (by simp [hzero])
    · exact ⟨_, hc, by simpa using hreached⟩
  · rintro ⟨j, hcj, hj⟩
    exact lt_of_lt_of_le hcj (le_bandReached th 0 t j (by simpa using hj))

/-! ### The fall by steps -/

/-- A band holds exactly where it is 0 or its falling threshold is not passed. -/
theorem fallOne_eq_self_iff (th : Thermal) (t : Temp) (b : Band) :
    fallOne th t b = b ↔ b = 0 ∨ riseOf th b - th.hyst ≤ t := by
  unfold fallOne
  split
  · next hleave => simp [sub_eq_self, hleave.1, Int.not_le.mpr hleave.2]
  · next hstay => simpa [or_iff_not_imp_left] using hstay

/-- A step down is a step by one, with the threshold of the band left passed. -/
theorem fallOne_of_ne_self (th : Thermal) (t : Temp) (b : Band) (h : fallOne th t b ≠ b) :
    (fallOne th t b).val + 1 = b.val ∧ t < riseOf th b - th.hyst := by
  obtain ⟨hpos, hpassed⟩ : b ≠ 0 ∧ t < riseOf th b - th.hyst := by
    rwa [ne_eq, fallOne_eq_self_iff, not_or, Int.not_le] at h
  have hstep : fallOne th t b = b - 1 := if_pos ⟨hpos, hpassed⟩
  refine ⟨?_, hpassed⟩
  rw [hstep, Fin.val_sub_one_of_ne_zero hpos]
  exact Nat.sub_add_cancel (Fin.pos_iff_ne_zero.mpr hpos)

/-- The fall, given as many steps as the band it starts from, ends in the first band that holds: it or 0, with the falling threshold
of every band above it, up to the start, passed. -/
theorem bandFall_spec (th : Thermal) (t : Temp) (n : Nat) (c : Band) (hn : c.val ≤ n) :
    let b := bandFall th t n c
    b ≤ c ∧ (b = 0 ∨ riseOf th b - th.hyst ≤ t) ∧ ∀ j : Band, b < j → j ≤ c → t < riseOf th j - th.hyst := by
  induction n generalizing c with
  | zero =>
    have hc : c = 0 := Fin.ext (Nat.le_zero.mp hn)
    exact ⟨le_rfl, Or.inl hc, fun j hbj hjc => absurd hbj (Fin.not_lt.mpr hjc)⟩
  | succ n ih =>
    by_cases hstay : fallOne th t c = c
    · simp only [bandFall, if_pos hstay]
      exact ⟨le_rfl, (fallOne_eq_self_iff th t c).mp hstay, fun j hbj hjc => absurd hbj (Fin.not_lt.mpr hjc)⟩
    · obtain ⟨hval, hpassed⟩ := fallOne_of_ne_self th t c hstay
      obtain ⟨hle, hholds, habove⟩ := ih (fallOne th t c) (by omega)
      simp only [bandFall, if_neg hstay]
      have hbelow : fallOne th t c ≤ c := Nat.le_of_succ_le hval.le
      refine ⟨hle.trans hbelow, hholds, fun j hbj hjc => ?_⟩
      obtain rfl | hne := eq_or_ne j c
      · exact hpassed
      · have hlt : j.val < c.val := Fin.lt_def.mp (lt_of_le_of_ne hjc hne)
        exact habove j hbj (Nat.le_of_lt_succ (hlt.trans_eq hval.symm))

/-! ### The band of a sample -/

/-- R57's rise: the band by hysteresis is the highest one whose rising threshold is reached, where that is above the band held. -/
theorem bandByHysteresis_of_rise (th : Thermal) (c : Band) (t : Temp) (h : ∃ j : Band, c < j ∧ riseOf th j ≤ t) :
    let b := bandByHysteresis th c t
    c < b ∧ riseOf th b ≤ t ∧ ∀ j : Band, b < j → t < riseOf th j := by
  have hc := (lt_bandReached_iff th c t).mpr h
  have hne : bandReached th 0 t ≠ 0 := Fin.ne_zero_of_lt hc
  simp only [bandByHysteresis, if_pos hc]
  refine ⟨hc, ?_, fun j hj => ?_⟩
  · simpa using (bandReached_reached th 0 t).resolve_left hne
  · simpa using lt_riseOf_of_bandReached_lt th 0 t j hj

/-- R57's fall: without a rise the band by hysteresis is the band the fall from the band held ends in. -/
theorem bandByHysteresis_of_no_rise (th : Thermal) (c : Band) (t : Temp) (h : ∀ j : Band, c < j → t < riseOf th j) :
    bandByHysteresis th c t = bandFall th t 3 c := by
  have hc : ¬ c < bandReached th 0 t := by
    rw [lt_bandReached_iff]
    rintro ⟨j, hcj, hj⟩
    exact absurd (h j hcj) (Int.not_lt.mpr hj)
  exact if_neg hc

/-- Settles O50: a rise goes to the highest band reached, a fall to the first band that holds, and the sort afresh to the highest band
whose falling threshold is reached. -/
theorem bandSort : Obligations.BandSort := by
  intro th t
  simp only [← riseOf_eq_ite]
  refine ⟨fun c => ⟨bandByHysteresis_of_rise th c t, fun hlow => ?_⟩, bandReached_reached th th.hyst t,
    lt_riseOf_of_bandReached_lt th th.hyst t⟩
  rw [bandByHysteresis_of_no_rise th c t hlow]
  exact bandFall_spec th t 3 c (Nat.le_of_lt_succ c.isLt)

end Sys2Proof.Machine
end

section
/-! SUPPORT and the proof of O46: the grant scan (R80, R81, R83). What the lookup of a power task finds where a rank has one at most,
what eligibility then says, and what the first eligible entry of a list leaves when it takes the token. -/

namespace Sys2Proof.Machine

/-! ### Eligibility -/

/-- A rank has at most one task in a place of a channel's queue (R117). -/
def State.OneInPlace (s : State) (ch : Chan) (r : Slot) (p : TaskSlot) : Prop :=
  ∀ x ∈ (s.queue ch).tasks, ∀ y ∈ (s.queue ch).tasks, x.rank = r → y.rank = r → x.kind.place = p → y.kind.place = p → x = y

/-- Where a rank has at most one task in a place of its channel's queue, the lookup finds that task (R117). -/
theorem State.taskAt_eq_some_iff {s : State} {r : Slot} {ch : Chan} {p : TaskSlot} (hch : (s.rank r).channel = some ch)
    (hone : s.OneInPlace ch r p) (t : Task) :
    s.taskAt r p = some t ↔ t ∈ (s.queue ch).tasks ∧ t.rank = r ∧ t.kind.place = p := by
  have hfound : ∀ u, s.taskAt r p = some u → u ∈ (s.queue ch).tasks ∧ u.rank = r ∧ u.kind.place = p := by
    intro u hu
    simp only [State.taskAt, hch] at hu
    exact ⟨List.mem_of_find?_eq_some hu, by simpa using List.find?_some hu⟩
  refine ⟨hfound t, fun ⟨hmem, hrank, hplace⟩ => ?_⟩
  cases hu : s.taskAt r p with
  | none =>
    simp only [State.taskAt, hch, List.find?_eq_none] at hu
    exact absurd (by simp [hrank, hplace]) (hu t hmem)
  | some u =>
    obtain ⟨humem, hurank, huplace⟩ := hfound u hu
    rw [hone u humem t hmem hurank hrank huplace hplace]

/-- Where a rank has at most one power task, a DEEP_ENTER is not queued for it where none of its tasks is one (R95, R117). -/
theorem State.deepEnterQueued_eq_false_iff {s : State} {r : Slot} {ch : Chan} (hch : (s.rank r).channel = some ch)
    (hone : s.OneInPlace ch r .power) :
    s.deepEnterQueued r = false ↔ ∀ x ∈ (s.queue ch).tasks, x.rank = r → x.kind ≠ .deepEnter := by
  have hfind := State.taskAt_eq_some_iff hch hone
  have hplace : ∀ x : Task, x.kind = .deepEnter → x.kind.place = .power := fun x hx => by rw [hx]; rfl
  cases ht : s.taskAt r .power with
  | none =>
    simp only [State.deepEnterQueued, ht, true_iff]
    intro x hmem hrank hdeep
    simp [(hfind x).mpr ⟨hmem, hrank, hplace x hdeep⟩] at ht
  | some t =>
    obtain ⟨htmem, htrank, -⟩ := (hfind t).mp ht
    simp only [State.deepEnterQueued, ht, beq_eq_false_iff_ne]
    refine ⟨fun hne x hmem hrank hdeep => hne ?_, fun hno => hno t htmem htrank⟩
    have hx : s.taskAt r .power = some x := (hfind x).mpr ⟨hmem, hrank, hplace x hdeep⟩
    rw [Option.some.inj (ht.symm.trans hx), hdeep]

/-- The four conditions of an entry whose rank has a channel (R80). -/
theorem State.eligible_iff {s : State} {e : Entry} {ch : Chan} (hch : (s.rank e.rank).channel = some ch) :
    s.eligible e = true ↔
      ((s.rank e.rank).state = .online ∨ (s.rank e.rank).state = .nap ∨ ((s.rank e.rank).state = .faulted ∧ e.origin = .host)) ∧
        s.deepEnterQueued e.rank = false ∧ (s.nego ch).state ≠ .stalled ∧ (s.engine ch).resetMark = false := by
  simp [State.eligible, State.resetting, hch, or_assoc, and_assoc]

/-! ### The first eligible entry -/

theorem State.insertTask_eq (s : State) (c : Chan) (t : Task) : s.insertTask c t = s.setQueue c ((s.queue c).insert t) := rfl

theorem calTaskKind_eq_ite (k : CalKind) : calTaskKind k = if k = .short then .calShort else .calLong := by
  cases k <;> rfl

/-- The first eligible entry of a list is what the search finds. -/
theorem find?_eligible_of_first {s : State} {before after : List Entry} {e : Entry} (hbefore : ∀ x ∈ before, s.eligible x = false)
    (he : s.eligible e = true) : (before ++ e :: after).find? s.eligible = some e := by
  have hnone : before.find? s.eligible = none := List.find?_eq_none.mpr fun x hx => by simp [hbefore x hx]
  rw [List.find?_append, hnone, Option.none_or, List.find?_cons_of_pos he]

/-- The first eligible entry of a list is what a grant takes out of it. -/
theorem eraseP_eligible_of_first {s : State} {before after : List Entry} {e : Entry} (hbefore : ∀ x ∈ before, s.eligible x = false)
    (he : s.eligible e = true) : (before ++ e :: after).eraseP s.eligible = before ++ after := by
  rw [List.eraseP_append_right _ fun x hx => by simp [hbefore x hx], List.eraseP_cons_of_pos he]

/-- A grant in a group that waits behind the entries `before`, none of them eligible (R83). -/
theorem State.grant_of_first {s : State} {g : GroupId} {before after : List Entry} {e : Entry} {ch : Chan}
    (hwait : (s.group g).waiting = before ++ e :: after) (hbefore : ∀ x ∈ before, s.eligible x = false) (he : s.eligible e = true)
    (hch : (s.rank e.rank).channel = some ch) :
    s.grant g e = (s.setGroup g { s.group g with
        state := .held, holder := some e.rank, heldEntry := some e, waiting := before ++ after
        tokenTimer := some (s.now + s.timing.tokenHold) }).setQueue ch ((s.queue ch).insert e.toTask) := by
  simp only [State.grant, hch, hwait, eraseP_eligible_of_first hbefore he, State.insertTask_eq, State.queue_of_setGroup]

/-- Settles O46: eligibility by the lookup of the rank's one power task, and the scan by what the search of the waiting list finds. -/
theorem grantScan : Obligations.GrantScan := by
  intro s g
  refine ⟨fun e ch hch hone => ?_, ?_, fun before after e ch hfree hwait hbefore he hch => ?_⟩
  · rw [State.eligible_iff hch, State.deepEnterQueued_eq_false_iff hch hone]
  · rintro (htaken | hnone)
    · exact State.scanGroup_of_taken s g htaken
    · exact State.scanGroup_of_none s g (List.find?_eq_none.mpr fun e he => by simp [hnone e he])
  · have hfind : (s.group g).waiting.find? s.eligible = some e := by rw [hwait, find?_eligible_of_first hbefore he]
    rw [State.scanGroup_of_some s g e hfree hfind, State.grant_of_first hwait hbefore he hch, Entry.toTask, calTaskKind_eq_ite]

end Sys2Proof.Machine
end

section
/-! SUPPORT and the proof of O51: notices and INT (R177, R178, R179, R181). When the margin is 0 and when INT is high, in the counts
of the report queue and the outstanding commands. -/

namespace Sys2Proof.Machine

/-- The margin is 0 where records and outstanding commands fill the report queue (R178). -/
theorem State.margin_eq_zero_iff (s : State) : s.margin = 0 ↔ 64 ≤ s.records.length + s.outstanding.length := by
  rw [State.margin, Nat.sub_eq_zero_iff_le, Config.reportCapacity]

/-- INT is high where it is enabled and the records reach the threshold (R181). -/
theorem State.int_eq_true_iff (s : State) : s.int = true ↔ s.intEnable = true ∧ s.intThreshold ≤ s.records.length := by
  rw [State.int, Bool.and_eq_true, decide_eq_true_iff]

/-- Settles O51: the notice by its two cases, told apart by the margin in counts, and INT by its two conditions. -/
theorem noticeAndInterrupt : Obligations.NoticeAndInterrupt := by
  intro s body
  refine ⟨fun hroom => ?_, fun hfull => ?_, s.int_eq_true_iff⟩
  · exact s.notice_of_margin body fun hzero => Nat.not_le_of_lt hroom (s.margin_eq_zero_iff.mp hzero)
  · exact s.notice_of_full body (s.margin_eq_zero_iff.mpr hfull)

end Sys2Proof.Machine
end

section
/-! SUPPORT. What an event does to the state, said once. A `Write` replaces a record, a group or a queue, writes a notice or completes a
command; an operation of the planner, the arbiter, the power logic or the sensors is a sequence of them (`Quiet`) and leaves every other
field. The handshake, the engines, the polling state and the clock add writes of their own (`Evolves`). What all these writes keep, every
event made of them keeps. -/

namespace Sys2Proof.Machine

-- Proofs are elaborated one after the other, which bounds the memory a compile reserves.
set_option Elab.async false

/-- A balance lies between −PostponeLimit and +AdvanceLimit (R22). -/
def State.InBounds (s : State) (b : Int) : Prop := -(s.policy.postponeLimit : Int) ≤ b ∧ b ≤ (s.policy.advanceLimit : Int)

theorem State.inBounds_zero (s : State) : s.InBounds 0 := ⟨by omega, by omega⟩

/-- The fields of a sensor record (R47) and the band source. -/
def Rank.sensorPart (k : Rank) : Option (BitVec 7) × SensorStatus × Option Temp × Nat × BandSource :=
  (k.sensor, k.sensorStatus, k.lastTemp, k.sensorFailures, k.bandSource)

/-- One write of an event: a rank's record with its balance kept within bounds, and its sensor record kept unless `free`; a group; a
queue; a notice; a completion. -/
inductive State.Write (free : Prop) (s : State) : State → Prop
  | rank (r : Slot) (k : Rank) (hbalance : s.InBounds (s.rank r).balance → s.InBounds k.balance)
      (hsensor : free ∨ k.sensorPart = (s.rank r).sensorPart) : State.Write free s (s.setRank r k)
  | group (g : GroupId) (x : CalGroup) : State.Write free s (s.setGroup g x)
  | queue (c : Chan) (q : Queue) : State.Write free s (s.setQueue c q)
  | notice (b : Notice) : State.Write free s (s.notice b)
  | complete (tag : Tag) (st : Status) (d : Detail) : State.Write free s (s.complete tag st d)

/-- A sequence of writes. -/
def State.Quiet (free : Prop) : State → State → Prop := Relation.ReflTransGen (State.Write free)

namespace State.Quiet

variable {free : Prop} {s t u : State}

theorem refl (s : State) : s.Quiet free s := Relation.ReflTransGen.refl

theorem trans (h : s.Quiet free t) (h' : t.Quiet free u) : s.Quiet free u := Relation.ReflTransGen.trans h h'

theorem single (h : s.Write free t) : s.Quiet free t := Relation.ReflTransGen.single h

theorem toFree (h : s.Quiet False t) : s.Quiet True t := by
  refine Relation.ReflTransGen.mono (fun a b hw => ?_) _ _ h
  cases hw with
  | rank r k hbalance _ => exact .rank r k hbalance (.inl trivial)
  | group g x => exact .group g x
  | queue c q => exact .queue c q
  | notice b => exact .notice b
  | complete tag st d => exact .complete tag st d

/-- A record written with its balance and its sensor record as they were. -/
theorem rank (s : State) (r : Slot) (k : Rank) (hbalance : k.balance = (s.rank r).balance := by rfl)
    (hsensor : k.sensorPart = (s.rank r).sensorPart := by rfl) : s.Quiet free (s.setRank r k) :=
  single (.rank r k (fun h => hbalance ▸ h) (.inr hsensor))

theorem setGroup (s : State) (g : GroupId) (x : CalGroup) : s.Quiet free (s.setGroup g x) := single (.group g x)

theorem setQueue (s : State) (c : Chan) (q : Queue) : s.Quiet free (s.setQueue c q) := single (.queue c q)

theorem notice (s : State) (b : Notice) : s.Quiet free (s.notice b) := single (.notice b)

theorem complete (s : State) (tag : Tag) (st : Status) (d : Detail) : s.Quiet free (s.complete tag st d) :=
  single (.complete tag st d)

/-- A fold of sequences of writes is one. -/
theorem foldl {α : Type} (f : State → α → State) (l : List α) (s : State) (h : ∀ (s : State) (a : α), s.Quiet free (f s a)) :
    s.Quiet free (l.foldl f s) := by
  induction l generalizing s with
  | nil => exact refl s
  | cons a l ih => exact (h s a).trans (ih (f s a))

/-- What a sequence of writes can change. -/
theorem frame (h : s.Quiet free t) :
    t = { s with
      ranks := t.ranks, groups := t.groups, queues := t.queues, outstanding := t.outstanding, records := t.records, lost := t.lost } := by
  induction h with
  | refl => rfl
  | tail _ hw ih =>
    cases hw with
    | rank | group | queue => rw [ih]; rfl
    | notice b => rw [State.notice_frame, ih]
    | complete tag st d => rw [State.complete_frame, ih]

theorem policy_eq (h : s.Quiet free t) : t.policy = s.policy := by rw [h.frame]
theorem timing_eq (h : s.Quiet free t) : t.timing = s.timing := by rw [h.frame]
theorem thermal_eq (h : s.Quiet free t) : t.thermal = s.thermal := by rw [h.frame]
theorem monitor_eq (h : s.Quiet free t) : t.monitor = s.monitor := by rw [h.frame]
theorem drain_eq (h : s.Quiet free t) : t.drain = s.drain := by rw [h.frame]
theorem pending_eq (h : s.Quiet free t) : t.pending = s.pending := by rw [h.frame]
theorem engines_eq (h : s.Quiet free t) : t.engines = s.engines := by rw [h.frame]
theorem negotiators_eq (h : s.Quiet free t) : t.negotiators = s.negotiators := by rw [h.frame]
theorem nego_eq (h : s.Quiet free t) (c : Chan) : t.nego c = s.nego c := by rw [State.nego, h.negotiators_eq]; rfl
theorem engine_eq (h : s.Quiet free t) (c : Chan) : t.engine c = s.engine c := by rw [State.engine, h.engines_eq]; rfl

end State.Quiet

/-! ### Reports and queues -/

theorem State.completeTag_quiet {free : Prop} (s : State) (tag : Option Tag) (st : Status) (d : Detail) :
    s.Quiet free (s.completeTag tag st d) := by
  cases tag with
  | none => exact .refl s
  | some t => exact .complete s t st d

theorem State.abortTasks_quiet {free : Prop} (s : State) (ts : List Task) : s.Quiet free (s.abortTasks ts) :=
  .foldl _ _ _ fun s t => s.completeTag_quiet t.tag .aborted .none

theorem State.insertTask_quiet {free : Prop} (s : State) (c : Chan) (t : Task) : s.Quiet free (s.insertTask c t) := .setQueue s c _

theorem State.removeTasks_quiet {free : Prop} (s : State) (c : Chan) (p : Task → Bool) : s.Quiet free (s.removeTasks c p) :=
  .setQueue s c _

theorem State.mapTasks_quiet {free : Prop} (s : State) (c : Chan) (f : Task → Task) : s.Quiet free (s.mapTasks c f) :=
  .setQueue s c _

/-! ### Arbiter -/

theorem State.grant_quiet {free : Prop} (s : State) (g : GroupId) (e : Entry) : s.Quiet free (s.grant g e) := by
  unfold State.grant
  split
  · exact .setGroup s g _
  · exact (State.Quiet.setGroup s g _).trans (State.insertTask_quiet _ _ _)

theorem State.scanGroup_quiet {free : Prop} (s : State) (g : GroupId) : s.Quiet free (s.scanGroup g) := by
  unfold State.scanGroup
  split
  · split
    · exact .refl s
    · exact s.grant_quiet g _
  · exact .refl s
  · exact .refl s

theorem State.scanAll_quiet {free : Prop} (s : State) : s.Quiet free s.scanAll := .foldl _ _ _ State.scanGroup_quiet

theorem State.scanRank_quiet {free : Prop} (s : State) (r : Slot) : s.Quiet free (s.scanRank r) := by
  unfold State.scanRank
  split
  · exact .refl s
  · exact s.scanGroup_quiet _

theorem State.mergeHeld_quiet {free : Prop} (s : State) (g : GroupId) (r : Slot) (k : CalKind) (o : CalOrigin) (t : Option Tag) :
    s.Quiet free (s.mergeHeld g r k o t) := by
  unfold State.mergeHeld
  split
  · exact .refl s
  · simp only
    split
    · exact .setGroup s g _
    · exact (State.Quiet.setGroup s g _).trans (State.mapTasks_quiet _ _ _)

theorem State.requestIn_quiet {free : Prop} (s : State) (g : GroupId) (r : Slot) (k : CalKind) (o : CalOrigin) (t : Option Tag) :
    s.Quiet free (s.requestIn g r k o t) := by
  unfold State.requestIn
  simp only
  split
  · split
    · exact s.mergeHeld_quiet g r _ o t
    · exact .refl s
    · exact .refl s
  · split
    · split
      · exact (State.Quiet.setGroup s g _).trans (State.scanGroup_quiet _ g)
      · exact .setGroup s g _
    · exact (State.Quiet.setGroup s g _).trans (State.scanGroup_quiet _ g)

theorem State.request_quiet {free : Prop} (s : State) (r : Slot) (k : CalKind) (o : CalOrigin) (t : Option Tag) :
    s.Quiet free (s.request r k o t) := by
  unfold State.request
  split
  · exact .refl s
  · exact s.requestIn_quiet _ r k o t

theorem State.internalRequest_quiet {free : Prop} (s : State) (r : Slot) (k : CalKind) (o : CalOrigin) :
    s.Quiet free (s.internalRequest r k o) := by
  unfold State.internalRequest
  split
  · exact s.request_quiet r k o none
  · exact .refl s

theorem State.driftCheck_quiet {free : Prop} (s : State) (r : Slot) (t : Temp) : s.Quiet free (s.driftCheck r t) := by
  unfold State.driftCheck
  simp only
  split
  · exact .refl s
  · split
    · exact s.internalRequest_quiet r _ _
    · exact .refl s

theorem State.removeCalTask_quiet {free : Prop} (s : State) (r : Slot) : s.Quiet free (s.removeCalTask r) := by
  unfold State.removeCalTask
  split
  · exact .refl s
  · exact s.removeTasks_quiet _ _

theorem State.makeStale_quiet {free : Prop} (s : State) (r : Slot) : s.Quiet free (s.makeStale r) := .rank s r _

theorem State.requeueOrStarve_quiet {free : Prop} (s : State) (g : GroupId) (e : Entry) : s.Quiet free (s.requeueOrStarve g e) := by
  unfold State.requeueOrStarve
  split
  · exact .setGroup s g _
  · exact ((s.makeStale_quiet e.rank).trans (.notice _ _)).trans (State.completeTag_quiet _ _ _ _)

theorem State.revoke_quiet {free : Prop} (s : State) (g : GroupId) : s.Quiet free (s.revoke g) := by
  unfold State.revoke
  split
  · exact (State.Quiet.setGroup s g _).trans (State.scanGroup_quiet _ g)
  · next e _ =>
    exact (((s.removeCalTask_quiet e.rank).trans (.setGroup _ g _)).trans (State.requeueOrStarve_quiet _ g e)).trans
      (State.scanGroup_quiet _ g)

theorem State.applyOk_quiet {free : Prop} (s : State) (r : Slot) : s.Quiet free (s.applyOk r) := .rank s r _

theorem State.applyFail_quiet {free : Prop} (s : State) (g : GroupId) (r : Slot) (k : CalKind) : s.Quiet free (s.applyFail g r k) := by
  have hcount : s.Quiet free ((s.setRank r { s.rank r with failures := min Config.calFailureLimit ((s.rank r).failures + 1) }).notice
      (.calFailed r g (min Config.calFailureLimit ((s.rank r).failures + 1)))) :=
    .trans (.rank s r _) (.notice _ _)
  unfold State.applyFail
  simp only
  split
  · exact hcount.trans (State.completeTag_quiet _ _ _ _)
  · split
    · exact hcount.trans (.setGroup _ g _)
    · exact ((hcount.trans (.rank _ r _)).trans (.notice _ _)).trans (State.completeTag_quiet _ _ _ _)

theorem State.applyDiscard_quiet {free : Prop} (s : State) (g : GroupId) (r : Slot) (k : CalKind) :
    s.Quiet free (s.applyDiscard g r k) :=
  (s.makeStale_quiet r).trans (.setGroup _ g _)

theorem State.finishCalibration_quiet {free : Prop} (s : State) (g : GroupId) (r : Slot) (k : CalKind) (x : CalResult) :
    s.Quiet free (s.finishCalibration g r k x) := by
  unfold State.finishCalibration
  refine (State.Quiet.trans ?_ (State.removeCalTask_quiet _ r)).trans ((State.Quiet.setGroup _ g _).trans (State.scanGroup_quiet _ g))
  split
  · exact s.applyDiscard_quiet g r k
  · split
    · exact (s.applyOk_quiet r).trans (State.completeTag_quiet _ _ _ _)
    · exact s.applyFail_quiet g r k

theorem State.startCalibrating_quiet {free : Prop} (s : State) (r : Slot) : s.Quiet free (s.startCalibrating r) := by
  unfold State.startCalibrating
  split
  · exact .refl s
  · exact .setGroup s _ _

theorem State.withdrawCalibration_quiet {free : Prop} (s : State) (r : Slot) : s.Quiet free (s.withdrawCalibration r) := by
  unfold State.withdrawCalibration
  refine State.Quiet.trans (.rank s r { s.rank r with periodic := none }) ?_
  split
  · exact .refl _
  · simp only
    split
    · refine State.Quiet.trans ?_ (.setGroup _ _ _)
      split
      · exact .setGroup _ _ _
      · exact (State.Quiet.setGroup _ _ _).trans (State.completeTag_quiet _ _ _ _)
    · split
      · exact .setGroup _ _ _
      · exact (State.Quiet.setGroup _ _ _).trans (State.completeTag_quiet _ _ _ _)

theorem State.resetGroup_quiet {free : Prop} (s : State) (c : Chan) (g : GroupId) : s.Quiet free (s.resetGroup c g) := by
  unfold State.resetGroup
  simp only
  split
  · exact .refl s
  · split
    · split
      · exact ((State.Quiet.setGroup s g _).trans (.setGroup _ g _)).trans (State.scanGroup_quiet _ g)
      · exact .setGroup s g _
      · exact .refl s
    · exact .refl s

/-! ### Planner -/

theorem State.setRefreshClass_quiet {free : Prop} (s : State) (r : Slot) : s.Quiet free (s.setRefreshClass r) := by
  unfold State.setRefreshClass
  split
  · exact .refl s
  · exact s.mapTasks_quiet _ _

theorem State.reevaluate_quiet {free : Prop} (s : State) (r : Slot) : s.Quiet free (s.reevaluate r) := by
  have hflag : s.Quiet free (s.setRank r { s.rank r with urgent := s.urgentFor r }) := .rank s r _
  unfold State.reevaluate
  simp only
  split
  · split
    · exact (hflag.trans (.notice _ _)).trans (State.setRefreshClass_quiet _ r)
    · exact hflag.trans (State.setRefreshClass_quiet _ r)
  · exact .refl s

theorem State.startInterval_quiet {free : Prop} (s : State) (r : Slot) : s.Quiet free (s.startInterval r) := .rank s r _

/-- A balance written within bounds, or as it was (R22). -/
theorem State.writeBalance_quiet {free : Prop} (s : State) (r : Slot) (b : Int)
    (h : s.InBounds (s.rank r).balance → s.InBounds b) : s.Quiet free (s.writeBalance r b) :=
  (State.Quiet.single (.rank r { s.rank r with balance := b } h (.inr rfl))).trans (State.reevaluate_quiet _ r)

/-- A debit stops at −PostponeLimit (R25). -/
theorem State.debit_quiet {free : Prop} (s : State) (r : Slot) : s.Quiet free (s.debit r) := by
  unfold State.debit
  simp only
  split
  · exact (State.Quiet.rank s r _).trans (.notice _ _)
  · next h =>
    refine .single (.rank r _ (fun hb => ?_) (.inr rfl))
    obtain ⟨_, hhigh⟩ := hb
    exact ⟨by simp only; omega, by simp only; omega⟩

theorem State.createRefresh_quiet {free : Prop} (s : State) (r : Slot) : s.Quiet free (s.createRefresh r) := by
  unfold State.createRefresh
  split
  · exact .refl s
  · exact s.insertTask_quiet _ _

theorem State.ensureRefresh_quiet {free : Prop} (s : State) (r : Slot) : s.Quiet free (s.ensureRefresh r) := by
  unfold State.ensureRefresh
  split
  · split
    · exact s.setRefreshClass_quiet r
    · split
      · exact .refl s
      · split
        · exact .refl s
        · exact s.createRefresh_quiet r
  · exact .refl s

theorem State.takeInterval_quiet {free : Prop} (s : State) (r : Slot) : s.Quiet free (s.takeInterval r) :=
  (((s.debit_quiet r).trans (State.startInterval_quiet _ r)).trans (State.reevaluate_quiet _ r)).trans (State.ensureRefresh_quiet _ r)

theorem State.bandToPlanner_quiet {free : Prop} (s : State) (r : Slot) (old new : Band) : s.Quiet free (s.bandToPlanner r old new) := by
  obtain hsame | ⟨it, _, _, _, ⟨_, hexpires⟩ | ⟨_, hcut⟩⟩ := s.bandToPlanner_cases r old new
  · rw [hsame]; exact .refl s
  · rw [hexpires]; exact s.takeInterval_quiet r
  · rw [hcut]; exact .rank s r _

theorem State.withdrawRefresh_quiet {free : Prop} (s : State) (r : Slot) : s.Quiet free (s.withdrawRefresh r) := by
  unfold State.withdrawRefresh
  split
  · exact .refl s
  · exact s.removeTasks_quiet _ _

/-- A credit of host or fill work stops at +AdvanceLimit (R37, R40). -/
theorem State.creditAhead_quiet {free : Prop} (s : State) (r : Slot) (n : Nat)
    (hn : n ≤ ((s.policy.advanceLimit : Int) - (s.rank r).balance).toNat) : s.Quiet free (s.creditAhead r n) := by
  have hcredit : s.Quiet free (s.writeBalance r ((s.rank r).balance + n)) :=
    s.writeBalance_quiet r _ fun ⟨hlow, hhigh⟩ => ⟨by omega, by omega⟩
  unfold State.creditAhead
  simp only
  split
  · exact hcredit.trans (State.withdrawRefresh_quiet _ r)
  · exact hcredit

/-- A credit of the rank's own refresh task is at most what it owes (R32, R35). -/
theorem State.creditOwed_quiet {free : Prop} (s : State) (r : Slot) (n : Nat) (hn : n ≤ (s.rank r).owed) :
    s.Quiet free (s.creditOwed r n) := by
  unfold Rank.owed at hn
  exact s.writeBalance_quiet r _ fun ⟨hlow, hhigh⟩ => ⟨by omega, by omega⟩

theorem State.closeAccount_quiet {free : Prop} (s : State) (r : Slot) : s.Quiet free (s.closeAccount r) :=
  (State.Quiet.single (.rank r { s.rank r with balance := 0, urgent := false, interval := none } (fun _ => s.inBounds_zero)
    (.inr rfl))).trans (State.withdrawRefresh_quiet _ r)

theorem State.openAccount_quiet {free : Prop} (s : State) (r : Slot) : s.Quiet free (s.openAccount r) :=
  (State.Quiet.single (.rank r { s.rank r with balance := 0, urgent := false } (fun _ => s.inBounds_zero) (.inr rfl))).trans
    (State.startInterval_quiet _ r)

/-! ### Power logic -/

theorem State.insertPower_quiet {free : Prop} (s : State) (r : Slot) (k : TaskKind) (tag : Tag) :
    s.Quiet free (s.insertPower r k tag) := by
  unfold State.insertPower
  split
  · exact .refl s
  · exact s.insertTask_quiet _ _

theorem State.bringOut_quiet {free : Prop} (s : State) (r : Slot) (x : ExitCause) : s.Quiet free (s.bringOut r x) := by
  unfold State.bringOut
  split
  · exact .refl s
  · split
    · exact .refl s
    · split
      · exact (s.insertTask_quiet _ _).trans (.notice _ _)
      · split
        · exact (s.mapTasks_quiet _ _).trans (.notice _ _)
        · exact .refl s

theorem State.removeDeepEnter_quiet {free : Prop} (s : State) (r : Slot) : s.Quiet free (s.removeDeepEnter r) := by
  unfold State.removeDeepEnter
  split
  · split
    · exact ((s.removeTasks_quiet _ _).trans (State.completeTag_quiet _ _ _ _)).trans (State.scanRank_quiet _ r)
    · exact .refl s
  · exact .refl s

theorem State.criticalBand_quiet {free : Prop} (s : State) (r : Slot) : s.Quiet free (s.criticalBand r) := by
  unfold State.criticalBand
  split
  · exact s.bringOut_quiet r _
  · exact s.removeDeepEnter_quiet r

theorem State.handBand_quiet {free : Prop} (s : State) (r : Slot) (old new : Band) : s.Quiet free (s.handBand r old new) := by
  unfold State.handBand
  split
  · exact .refl s
  · simp only
    split
    · exact (s.bandToPlanner_quiet r old new).trans (State.criticalBand_quiet _ r)
    · exact s.bandToPlanner_quiet r old new

theorem State.changeBand_quiet {free : Prop} (s : State) (r : Slot) (b : Band) : s.Quiet free (s.changeBand r b) :=
  (State.Quiet.rank s r { s.rank r with band := b }).trans (State.handBand_quiet _ r _ b)

theorem State.endSettle_quiet {free : Prop} (s : State) (r : Slot) : s.Quiet free (s.endSettle r) :=
  (((State.Quiet.rank s r { s.rank r with state := .online, settle := none }).trans (State.openAccount_quiet _ r)).trans
    (State.internalRequest_quiet _ r _ _)).trans (State.scanRank_quiet _ r)

theorem State.exitAfterReset_quiet {free : Prop} (s : State) (c : Chan) (r : Slot) : s.Quiet free (s.exitAfterReset c r) := by
  unfold State.exitAfterReset
  split
  · exact s.bringOut_quiet r _
  · exact .refl s

theorem State.replaceExit_quiet {free : Prop} (s : State) (r : Slot) : s.Quiet free (s.replaceExit r) := by
  unfold State.replaceExit
  split
  · exact s.bringOut_quiet r _
  · exact .refl s

/-! ### Sensors -/

/-- A notice written in one of two cases. -/
theorem State.ite_notice_quiet {free : Prop} (s : State) (p : Prop) [Decidable p] (b : Notice) :
    s.Quiet free (if p then s.notice b else s) := by
  split
  · exact .notice s b
  · exact .refl s

/-- A slot's record with a good sample taken (R56). -/
def Rank.withSample (k : Rank) (t : Temp) (b : Band) : Rank :=
  { k with lastTemp := some t, sensorFailures := 0, sensorStatus := .good, band := b, bandSource := .sensor }

/-- The band a good sample gives (R57, R58). -/
def State.bandOfSample (s : State) (r : Slot) (t : Temp) : Band :=
  if (s.rank r).sensorStatus = .good then bandByHysteresis s.thermal (s.rank r).band t else bandAfresh s.thermal t

/-- A sample writes the slot's sensor record, and what follows leaves every sensor record (R56, R65). -/
theorem State.goodSample_quiet (s : State) (r : Slot) (t : Temp) :
    (s.setRank r ((s.rank r).withSample t (s.bandOfSample r t))).Quiet False (s.goodSample r t) :=
  (((State.ite_notice_quiet _ _ _).trans (State.ite_notice_quiet _ _ _)).trans (State.handBand_quiet _ r _ _)).trans
    (State.driftCheck_quiet _ r t)

/-- A sensor record written, with its balance as it was. -/
theorem State.setSensor_quiet (s : State) (r : Slot) (k : Rank) (hbalance : k.balance = (s.rank r).balance := by rfl) :
    s.Quiet True (s.setRank r k) :=
  .single (.rank r k (fun h => hbalance ▸ h) (.inl trivial))

theorem State.fallbackSlot_quiet (s : State) (r : Slot) : s.Quiet True (s.fallbackSlot r) := by
  unfold State.fallbackSlot
  simp only
  split
  · exact (s.setSensor_quiet r ((s.rank r).onFallback s.thermal.fallbackBand)).trans (State.handBand_quiet _ r _ _)
  · exact .refl s

theorem State.failedRead_quiet (s : State) (r : Slot) (o : ReadOutcome) : s.Quiet True (s.failedRead r o) := by
  have hcounted : ∀ n, s.Quiet True (s.setRank r { s.rank r with sensorFailures := n }) := fun n => s.setSensor_quiet r _
  have hfallback : s.Quiet True (((s.setRank r ((s.rank r).onFallback s.thermal.fallbackBand)).notice
      (.sensorFailed r (s.rank r).channel o)).handBand r (s.rank r).band s.thermal.fallbackBand) :=
    ((s.setSensor_quiet r ((s.rank r).onFallback s.thermal.fallbackBand)).trans (.notice _ _)).trans (State.handBand_quiet _ r _ _)
  unfold State.failedRead
  simp only
  split
  · exact .refl s
  · exact hcounted _
  all_goals
    split
    · exact hcounted _
    · exact hfallback

theorem State.takeFallback_quiet {free : Prop} (s : State) (r : Slot) : s.Quiet free (s.takeFallback r) := by
  unfold State.takeFallback
  simp only
  split
  · exact s.changeBand_quiet r _
  · exact .refl s

/-! ### Commands -/

theorem State.bringOnline_quiet {free : Prop} (s : State) (r : Slot) : s.Quiet free (s.bringOnline r) :=
  (((State.Quiet.rank s r { s.rank r with state := .online, calStatus := .never, failures := 0, calTemp := none }).trans
    (State.openAccount_quiet _ r)).trans (State.internalRequest_quiet _ r _ _)).trans (State.scanRank_quiet _ r)

theorem State.removeRankTasks_quiet {free : Prop} (s : State) (r : Slot) : s.Quiet free (s.removeRankTasks r) := by
  unfold State.removeRankTasks
  split
  · exact .refl s
  · exact (s.removeTasks_quiet _ _).trans (State.abortTasks_quiet _ _)

theorem State.takeOffline_quiet {free : Prop} (s : State) (r : Slot) : s.Quiet free (s.takeOffline r) :=
  (((s.removeRankTasks_quiet r).trans (State.withdrawCalibration_quiet _ r)).trans (.rank _ r _)).trans
    (State.scanRank_quiet _ r)

theorem State.insertRefreshNow_quiet {free : Prop} (s : State) (r : Slot) (n : Nat) (tag : Tag) :
    s.Quiet free (s.insertRefreshNow r n tag) := by
  unfold State.insertRefreshNow
  split
  · exact .refl s
  · exact s.insertTask_quiet _ _

theorem State.flush_quiet {free : Prop} (s : State) (c : Chan) : s.Quiet free (s.flush c) := by
  unfold State.flush
  refine ((State.Quiet.trans (s.removeTasks_quiet c _) (State.abortTasks_quiet _ _)).trans
    (.foldl _ _ _ fun s r => ?_)).trans (.foldl _ _ _ fun s g => ?_)
  · split
    · exact s.replaceExit_quiet r
    · exact .refl s
  · split
    · exact s.scanGroup_quiet g
    · exact .refl s

theorem State.emptyQueue_quiet {free : Prop} (s : State) (c : Chan) : s.Quiet free (s.emptyQueue c) :=
  (s.removeTasks_quiet c _).trans (State.abortTasks_quiet _ _)

/-! ### Completions -/

theorem State.dropExecuting_quiet {free : Prop} (s : State) (c : Chan) : s.Quiet free (s.dropExecuting c) := s.removeTasks_quiet c _

theorem State.completeRefresh_quiet {free : Prop} (s : State) (c : Chan) (r : Slot) : s.Quiet free (s.completeRefresh c r) := by
  unfold State.completeRefresh
  split
  · exact (s.mapTasks_quiet c _).trans (State.setRefreshClass_quiet _ r)
  · exact s.dropExecuting_quiet c

/-- What all power completions share: the record, the task out of the queue, the completion with the new state. -/
theorem State.powerRecord_quiet {free : Prop} (s : State) (c : Chan) (r : Slot) (tag : Option Tag) (st : RankState) (settle : Option Nat) :
    s.Quiet free (((s.setRank r { s.rank r with state := st, settle := settle }).dropExecuting c).completeTag tag .done
      (.rankState st)) :=
  ((State.Quiet.rank s r { s.rank r with state := st, settle := settle }).trans (State.dropExecuting_quiet _ c)).trans
    (State.completeTag_quiet _ _ _ _)

theorem State.completePower_quiet {free : Prop} (s : State) (c : Chan) (r : Slot) (kind : TaskKind) (tag : Option Tag) :
    s.Quiet free (s.completePower c r kind tag) := by
  unfold State.completePower
  simp only
  split
  · exact (s.powerRecord_quiet c r tag .nap _).trans (State.scanRank_quiet _ r)
  · exact (s.powerRecord_quiet c r tag .online _).trans (State.scanRank_quiet _ r)
  · refine State.Quiet.trans ?_ (State.scanRank_quiet _ r)
    split
    · exact (s.powerRecord_quiet c r tag .deep _).trans (State.bringOut_quiet _ r _)
    · exact s.powerRecord_quiet c r tag .deep _
  · exact (s.powerRecord_quiet c r tag .settling _).trans (State.scanRank_quiet _ r)
  all_goals exact .refl s

theorem State.completeCal_quiet {free : Prop} (s : State) (r : Slot) (kind : CalKind) (x : CalResult) :
    s.Quiet free (s.completeCal r kind x) := by
  unfold State.completeCal
  split
  · exact .refl s
  · exact s.finishCalibration_quiet _ r kind x

theorem State.completeFlight_quiet {free : Prop} (s : State) (c : Chan) (f : Flight) (x : CalResult) :
    s.Quiet free (s.completeFlight c f x) := by
  unfold State.completeFlight
  simp only
  split
  · exact .refl s
  · exact s.completeRefresh_quiet c _
  · exact (s.completeTag_quiet _ _ _).trans (State.dropExecuting_quiet _ c)
  · exact s.completeCal_quiet _ _ x
  · exact s.completeCal_quiet _ _ x
  all_goals exact s.completePower_quiet c _ _ _

theorem State.refreshAfterReset_quiet {free : Prop} (s : State) (c : Chan) (r : Slot) : s.Quiet free (s.refreshAfterReset c r) := by
  unfold State.refreshAfterReset
  split
  · exact s.ensureRefresh_quiet r
  · exact .refl s

/-- What the end of a channel reset does once the mark is clear (R128, R174). -/
theorem State.endReset_quiet {free : Prop} (s : State) (c : Chan) :
    (s.setEngine c { s.engine c with resetMark := false }).Quiet free (s.endReset c) := by
  unfold State.endReset
  exact (((State.Quiet.foldl _ _ _ fun s r => s.refreshAfterReset_quiet c r).trans
    (.foldl _ _ _ fun s r => s.exitAfterReset_quiet c r)).trans (State.scanAll_quiet _)).trans
    (.foldl _ _ _ fun s e => .complete s e.tag _ _)

theorem State.finishInstant_quiet {free : Prop} (s : State) (c : Chan) (t : Task) : s.Quiet free (s.finishInstant c t) := by
  unfold State.finishInstant
  simp only
  split <;> exact (s.removeTasks_quiet c _).trans (State.completeTag_quiet _ _ _ _)

/-- What a plan credits at once stays within bounds: a refresh task's count is at most the debt, a REFRESH_NOW's at most the room up to
the advance limit (R31, R37). -/
def State.CreditFits (s : State) (r : Slot) (kind : TaskKind) (n : Nat) : Prop :=
  (kind = .refresh → n ≤ (s.rank r).owed) ∧
    (kind = .refreshNow → n ≤ ((s.policy.advanceLimit : Int) - (s.rank r).balance).toNat)

theorem State.ownersStart_quiet {free : Prop} (s : State) (r : Slot) (kind : TaskKind) (n : Nat) (h : s.CreditFits r kind n) :
    s.Quiet free (s.ownersStart r kind n) := by
  unfold State.ownersStart
  split
  · exact s.creditOwed_quiet r n (h.1 rfl)
  · exact s.creditAhead_quiet r n (h.2 rfl)
  · exact s.startCalibrating_quiet r
  · exact s.startCalibrating_quiet r
  · exact (s.closeAccount_quiet r).trans (.rank _ r _)
  all_goals exact .refl s

theorem State.planRefresh_n_le {s : State} {c : Chan} {r : Slot} {p : Plan} (h : s.planRefresh c r = some p) :
    p.n ≤ (s.rank r).owed := by
  simp only [State.planRefresh] at h
  split at h
  · cases h; simp only; omega
  · cases h

theorem State.planRefreshNow_n_le {s : State} {c : Chan} {r : Slot} {count : Nat} {p : Plan}
    (h : s.planRefreshNow c r count = some p) : p.n ≤ ((s.policy.advanceLimit : Int) - (s.rank r).balance).toNat := by
  simp only [State.planRefreshNow] at h
  split at h
  · cases h; simp only; omega
  · split at h
    · cases h; simp only [State.hostRefreshes]; omega
    · cases h

theorem State.planTask_creditFits {s : State} {c : Chan} {t : Task} {p : Plan} (h : s.planTask c t = some p) :
    s.CreditFits t.rank t.kind p.n := by
  unfold State.planTask at h
  simp only at h
  constructor
  · intro hk
    simp only [hk] at h
    split at h
    · cases h
    · split at h
      · exact State.planRefresh_n_le h
      · cases h
  · intro hk
    simp only [hk] at h
    split at h
    · cases h
    · split at h
      · exact State.planRefreshNow_n_le h
      · cases h

/-- What a selection starts has a plan, and is a task of the queue (R153). -/
theorem State.findPlan_some {s : State} {c : Chan} {t : Task} {p : Plan} (h : s.findPlan c = some (t, p)) :
    t ∈ (s.queue c).tasks ∧ s.planTask c t = some p := by
  obtain ⟨x, hx, hp⟩ := List.exists_of_findSome?_eq_some h
  cases hplan : s.planTask c x with
  | none => simp [hplan] at hp
  | some q =>
    simp only [hplan, Option.map_some, Option.some.injEq, Prod.mk.injEq] at hp
    obtain ⟨rfl, rfl⟩ := hp
    refine ⟨?_, hplan⟩
    simp only [queueOrder, List.mem_append, List.mem_filter] at hx
    tauto

end Sys2Proof.Machine
end

section
/-! SUPPORT. The moves an event is made of: the writes of `State.Quiet`, those of the handshake, the engines, the polling state and the
register window, those of the command port and of the three settings, and the resets. Every step is a sequence of moves. -/

namespace Sys2Proof.Machine

-- Proofs are elaborated one after the other, which bounds the memory a compile reserves.
set_option Elab.async false

variable {free lines : Prop}

/-- One move of an event. Only where `free` holds it writes a sensor record or the polling state, only where `lines` holds a negotiator,
an engine or the drain bit, and only where both hold it is a reset. -/
inductive State.Move (free lines : Prop) (s : State) : State → Prop
  | write {t : State} (h : s.Write free t) : State.Move free lines s t
  | nego (c : Chan) (n : Negotiator) (hlines : lines) : State.Move free lines s (s.setNego c n)
  | engine (c : Chan) (e : Engine) (hlines : lines) : State.Move free lines s (s.setEngine c e)
  | monitor (m : Monitor) (hfree : free) : State.Move free lines s (s.setMonitor m)
  | clock (now tickBase : Nat) (timestamp : Word) :
      State.Move free lines s { s with now := now, tickBase := tickBase, timestamp := timestamp }
  | drain (hlines : lines) : State.Move free lines s { s with drain := true }
  | window (enable : Bool) (staging : Record) (status : SubmitStatus) (rankCopies : Vector RankCopy 8)
      (groupCopies : Vector GroupCopy 4) (readData : Word) : State.Move free lines s { s with
        intEnable := enable, staging := staging, submitStatus := status, rankCopies := rankCopies,
        groupCopies := groupCopies, readData := readData }
  | threshold (n : Nat) (hlow : 1 ≤ n) (hhigh : n ≤ 64) : State.Move free lines s { s with intThreshold := n }
  | pop (x : Report) (rest : List Report) (h : s.records = x :: rest) : State.Move free lines s { s with records := rest }
  | foundLost : State.Move free lines s { s with lost := 0 }
  | accept (tag : Tag) (c : HostCommand) (htag : ∀ e ∈ s.outstanding, e.tag ≠ tag) (htable : s.outstanding.length < 16)
      (hroom : s.records.length + s.outstanding.length < 64) :
      State.Move free lines s { s with outstanding := s.outstanding ++ [outEntryOf tag c] }
  | noteRemoved (tag : Tag) (n : Nat) : State.Move free lines s (s.noteRemoved tag n)
  | timing (t : Timing) (h : t.Legal s.policy.postponeLimit) : State.Move free lines s { s with timing := t }
  | policy (p : Policy) (h : p.Legal) (hbudget : maxTask s.timing p.postponeLimit ≤ s.timing.windowBudget)
      (hbalance : ∀ r : Slot, -(p.postponeLimit : Int) ≤ (s.rank r).balance ∧ (s.rank r).balance ≤ (p.advanceLimit : Int)) :
      State.Move free lines s { s with policy := p }
  | thermal (t : Thermal) (h : t.Legal) : State.Move free lines s { s with thermal := t }
  | reset (now : Nat) (la lb : LineLevels) (inReset : Bool) (readData : Word) (m : Monitor) (hfree : free) (hlines : lines) :
      State.Move free lines s { State.initial now la lb s.pending with inReset := inReset, readData := readData, monitor := m }

/-- A sequence of moves. -/
def State.Evolves (free lines : Prop) : State → State → Prop := Relation.ReflTransGen (State.Move free lines)

namespace State.Evolves

variable {s t u : State}

theorem refl (s : State) : s.Evolves free lines s := Relation.ReflTransGen.refl

theorem trans (h : s.Evolves free lines t) (h' : t.Evolves free lines u) : s.Evolves free lines u := Relation.ReflTransGen.trans h h'

theorem single (h : s.Move free lines t) : s.Evolves free lines t := Relation.ReflTransGen.single h

theorem quiet (h : s.Quiet free t) : s.Evolves free lines t := Relation.ReflTransGen.mono (fun _ _ => .write) _ _ h

theorem setNego (s : State) (c : Chan) (n : Negotiator) : s.Evolves free True (s.setNego c n) := single (.nego c n trivial)

theorem setEngine (s : State) (c : Chan) (e : Engine) : s.Evolves free True (s.setEngine c e) := single (.engine c e trivial)

theorem setMonitor (s : State) (m : Monitor) : s.Evolves True lines (s.setMonitor m) := single (.monitor m trivial)

theorem reach (s : State) (due : Nat) : s.Evolves free lines (s.reach due) := single (.clock (max s.now due) s.tickBase s.timestamp)

theorem notice (s : State) (b : Notice) : s.Evolves free lines (s.notice b) := quiet (.notice s b)

theorem complete (s : State) (tag : Tag) (st : Status) (d : Detail) : s.Evolves free lines (s.complete tag st d) := quiet (.complete s tag st d)

/-- What every move keeps, a sequence of moves keeps. -/
theorem keeps {P : State → Prop} (hmove : ∀ s t : State, s.Move free lines t → P s → P t) (h : s.Evolves free lines t) (hs : P s) : P t := by
  induction h with
  | refl => exact hs
  | tail _ hlast ih => exact hmove _ _ hlast ih

end State.Evolves

/-! ### Handshake -/

theorem State.settleNego_evolves (s : State) (c : Chan) : s.Evolves free True (s.settleNego c) := by
  unfold State.settleNego
  split
  · split
    · exact .setNego s c _
    · exact .refl s
  all_goals first
    | exact .refl s
    | (split; exacts [.setNego s c _, .refl s])

theorem State.settle_evolves (s : State) : s.Evolves free True s.settle := (s.settleNego_evolves .a).trans (State.settleNego_evolves _ .b)

theorem State.dropRequest_evolves (s : State) (c : Chan) (x : ReleaseCause) : s.Evolves free True (s.dropRequest c x) := by
  unfold State.dropRequest
  simp only
  have hlines : s.Evolves free True (s.setNego c { s.nego c with qreq := false, qurg := false, grantTimer := none, escalated := false }) :=
    .setNego s c _
  split
  · refine State.Evolves.trans ?_ (.quiet (State.scanAll_quiet _))
    split
    · exact hlines.trans (.setNego _ c _)
    · split <;> exact hlines.trans (.setNego _ c _)
  · split
    · exact hlines.trans (.setNego _ c _)
    · split <;> exact hlines.trans (.setNego _ c _)

theorem State.stall_evolves (s : State) (c : Chan) (x : Bool) : s.Evolves free True (s.stall c x) :=
  (State.Evolves.setNego s c _).trans (.notice _ _)

theorem State.grantExpiry_evolves (s : State) (c : Chan) : s.Evolves free True (s.grantExpiry c) := by
  unfold State.grantExpiry
  simp only
  split
  · exact s.stall_evolves c true
  · split
    · exact s.stall_evolves c false
    · exact .setNego s c _

theorem State.releaseExpiry_evolves (s : State) (c : Chan) : s.Evolves free True (s.releaseExpiry c) := by
  unfold State.releaseExpiry
  simp only
  split
  · exact .setNego s c _
  · exact (State.Evolves.setNego s c _).trans (.notice _ _)

theorem State.loseGrant_evolves (s : State) (c : Chan) : s.Evolves free True (s.loseGrant c) := by
  unfold State.loseGrant
  simp only
  split <;> exact (State.Evolves.notice s _).trans (.setNego _ c _)

theorem State.grantFall_evolves (s : State) (c : Chan) : s.Evolves free True (s.grantFall c) := by
  have hlevel : s.Evolves free True (s.setNego c { s.nego c with qgnt := false }) := .setNego s c _
  unfold State.grantFall
  simp only
  split
  · exact hlevel.trans (State.loseGrant_evolves _ c)
  · split
    · exact hlevel
    · exact hlevel.trans (State.loseGrant_evolves _ c)
  · exact hlevel.trans (.setNego _ c _)
  all_goals exact hlevel

theorem State.recall_evolves (s : State) (c : Chan) : s.Evolves free True (s.recall c) := by
  unfold State.recall
  simp only
  split
  · exact .setNego s c _
  · exact (State.Evolves.setNego s c _).trans (.setNego _ c _)

theorem State.recallRise_evolves (s : State) (c : Chan) : s.Evolves free True (s.recallRise c) := by
  unfold State.recallRise
  simp only
  split
  · exact (State.Evolves.setNego s c _).trans (State.recall_evolves _ c)
  · exact .setNego s c _

/-! ### Engines -/

theorem State.startTask_evolves (s : State) (c : Chan) (t : Task) (p : Plan) (h : s.planTask c t = some p) :
    s.Evolves free True (s.startTask c t p) := by
  have hfits := State.planTask_creditFits h
  unfold State.startTask
  refine State.Evolves.trans ((State.Evolves.quiet (s.mapTasks_quiet c _)).trans (.setEngine _ c _))
    (.quiet (State.ownersStart_quiet _ t.rank t.kind p.n ?_))
  exact hfits

theorem State.startFill_evolves (s : State) (c : Chan) (r : Slot) : s.Evolves free True (s.startFill c r) :=
  ((State.Evolves.setEngine s c _).trans (.setEngine _ c _)).trans
    (.quiet (State.creditAhead_quiet _ r _ (Nat.min_le_left _ _)))

theorem State.reportDone_evolves (s : State) (c : Chan) : s.Evolves free True (s.reportDone c) :=
  (State.Evolves.setNego s c _).trans (.setEngine _ c _)

theorem State.select_evolves (c : Chan) (fuel : Nat) (s : State) : s.Evolves free True (State.select c fuel s) := by
  induction fuel generalizing s with
  | zero => exact s.reportDone_evolves c
  | succ fuel ih =>
    unfold State.select
    split
    · next t p h =>
      split
      · exact (State.Evolves.quiet (s.finishInstant_quiet c t)).trans (ih _)
      · exact s.startTask_evolves c t p (State.findPlan_some h).2
    · split
      · exact s.startFill_evolves c _
      · exact s.reportDone_evolves c

theorem State.runSelection_evolves (s : State) (c : Chan) : s.Evolves free True (s.runSelection c) :=
  (State.Evolves.setEngine s c _).trans (State.select_evolves c _ _)

theorem State.openEngine_evolves (s : State) (c : Chan) : s.Evolves free True (s.openEngine c) := by
  unfold State.openEngine
  simp only
  split
  · exact ((State.Evolves.setEngine s c _).trans (State.recall_evolves _ c)).trans (.setEngine _ c _)
  · exact (State.Evolves.setEngine s c _).trans (State.runSelection_evolves _ c)

theorem State.grantRise_evolves (s : State) (c : Chan) : s.Evolves free True (s.grantRise c) := by
  have hlevel : s.Evolves free True (s.setNego c { s.nego c with qgnt := true }) := .setNego s c _
  unfold State.grantRise
  simp only
  split
  · exact hlevel.trans (.notice _ _)
  · exact (hlevel.trans (.setNego _ c _)).trans (State.openEngine_evolves _ c)
  · exact (((hlevel.trans (.notice _ _)).trans (.setNego _ c _)).trans (.quiet (State.scanAll_quiet _))).trans
      (State.openEngine_evolves _ c)
  · split
    · exact hlevel.trans (.notice _ _)
    · exact hlevel
  all_goals exact hlevel

theorem State.sampleAtCompletion_evolves (s : State) (c : Chan) (f : Flight) (x : CalResult) :
    s.Evolves free True (s.sampleAtCompletion c f x) := by
  unfold State.sampleAtCompletion
  split
  · exact .setEngine s c _
  · split
    · exact .refl s
    · exact .setEngine s c _

theorem State.endReset_evolves (s : State) (c : Chan) : s.Evolves free True (s.endReset c) :=
  (State.Evolves.setEngine s c _).trans (.quiet (s.endReset_quiet c))

theorem State.afterCompletion_evolves (s : State) (c : Chan) : s.Evolves free True (s.afterCompletion c) := by
  unfold State.afterCompletion
  split
  · exact s.runSelection_evolves c
  · split <;> exact .setNego s c _
  all_goals exact .refl s

/-- Parts 1 to 3 of a completion (R161): the result sampled, what the kind of the task does, and no task in flight. -/
def State.flightEnded (s : State) (c : Chan) (f : Flight) (line : CalResult) : State :=
  ((s.sampleAtCompletion c f line).completeFlight c f (((s.sampleAtCompletion c f line).engine c).result line)).clearFlight c

theorem State.completion_eq (s : State) (c : Chan) (f : Flight) (line : CalResult) : s.completion c f line =
    (if (s.flightEnded c f line).resetting c then (s.flightEnded c f line).endReset c else s.flightEnded c f line).afterCompletion c :=
  rfl

theorem State.flightEnded_evolves (s : State) (c : Chan) (f : Flight) (line : CalResult) :
    s.Evolves free True (s.flightEnded c f line) :=
  ((s.sampleAtCompletion_evolves c f line).trans (.quiet (State.completeFlight_quiet _ c f _))).trans (.setEngine _ c _)

theorem State.completion_evolves (s : State) (c : Chan) (f : Flight) (x : CalResult) : s.Evolves free True (s.completion c f x) := by
  rw [State.completion_eq]
  refine State.Evolves.trans ?_ (State.afterCompletion_evolves _ c)
  split
  · exact (s.flightEnded_evolves c f x).trans (State.endReset_evolves _ c)
  · exact s.flightEnded_evolves c f x

/-! ### Resets -/

theorem State.endDrain_evolves (s : State) (sda : Bool) : s.Evolves True True (s.endDrain sda) :=
  .single (.reset s.now _ _ false s.readData _ trivial trivial)

theorem State.checkDrain_evolves (s : State) (sda : Bool) : s.Evolves True True (s.checkDrain sda) := by
  unfold State.checkDrain
  split
  · exact s.endDrain_evolves sda
  · exact .refl s

/-- The start of a drain before the look at whether it has ended already (R147, R184). -/
def State.draining (s : State) : State := (({ s with drain := true } : State).dropRequest .a .drain).dropRequest .b .drain

theorem State.startDrain_eq (s : State) (sda : Bool) : s.startDrain sda = s.draining.checkDrain sda := rfl

theorem State.draining_evolves (s : State) : s.Evolves free True s.draining :=
  ((State.Evolves.single (.drain trivial)).trans (State.dropRequest_evolves _ .a .drain)).trans (State.dropRequest_evolves _ .b .drain)

theorem State.startDrain_evolves (s : State) (sda : Bool) : s.Evolves True True (s.startDrain sda) :=
  s.draining_evolves.trans (State.checkDrain_evolves _ sda)

/-- The fields of a CONTROL write beside the soft-reset bit taken (R183). -/
def State.withControl (s : State) (fields : ControlFields) : State :=
  { s with
    intEnable := fields.enable
    intThreshold := if 1 ≤ fields.threshold.toNat ∧ fields.threshold.toNat ≤ 64 then fields.threshold.toNat else s.intThreshold }

theorem State.writeControl_eq (s : State) (soft : Bool) (fields : ControlFields) (sda : Bool) : s.writeControl soft fields sda =
    if soft && !s.drain then (s.withControl fields).startDrain sda else s.withControl fields := rfl

theorem State.withControl_evolves (s : State) (fields : ControlFields) : s.Evolves free lines (s.withControl fields) := by
  have henable : s.Evolves free lines { s with intEnable := fields.enable } :=
    .single (.window fields.enable s.staging s.submitStatus s.rankCopies s.groupCopies s.readData)
  unfold State.withControl
  split
  · next h => exact henable.trans (.single (.threshold _ h.1 h.2))
  · exact henable

theorem State.writeControl_evolves (s : State) (soft : Bool) (fields : ControlFields) (sda : Bool) :
    s.Evolves True True (s.writeControl soft fields sda) := by
  rw [State.writeControl_eq]
  split
  · exact (s.withControl_evolves fields).trans (State.startDrain_evolves _ sda)
  · exact s.withControl_evolves fields

theorem State.resetChannel_evolves (s : State) (c : Chan) : s.Evolves free True (s.resetChannel c) := by
  have hdropped : s.Evolves free True ((allGroups.foldl (fun s g => s.resetGroup c g)
      ((s.setEngine c { s.engine c with resetMark := true, pointer := 0 }).emptyQueue c)).dropRequest c .reset) :=
    ((State.Evolves.setEngine s c _).trans (.quiet ((State.emptyQueue_quiet _ c).trans
      (.foldl _ _ _ fun s g => s.resetGroup_quiet c g)))).trans (State.dropRequest_evolves _ c .reset)
  unfold State.resetChannel
  simp only
  split
  · exact hdropped
  · exact (hdropped.trans (.setEngine _ c _)).trans (State.endReset_evolves _ c)

/-! ### Sensor bus -/

theorem State.takeOutcome_evolves (s : State) (o : ReadOutcome) : s.Evolves True lines (s.takeOutcome o) := by
  have hend : s.Evolves True lines s.endRead := .setMonitor s _
  unfold State.takeOutcome
  simp only
  split
  · exact hend
  · next r _ =>
    split
    · exact hend
    · split
      · exact (hend.trans (.quiet (State.setSensor_quiet _ r _ (by rfl)))).trans (.quiet (State.goodSample_quiet _ r _).toFree)
      all_goals exact hend.trans (.quiet (State.failedRead_quiet _ r _))

theorem State.recoveryFails_evolves (s : State) : s.Evolves True lines s.recoveryFails :=
  ((State.Evolves.setMonitor s _).trans (.setMonitor _ _)).trans
    (.quiet ((State.Quiet.foldl _ _ _ State.fallbackSlot_quiet).trans (.notice _ _)))

theorem State.startRecovery_evolves (s : State) (sda : Bool) : s.Evolves True lines (s.startRecovery sda) := by
  rw [State.startRecovery_eq]; exact .setMonitor s _

theorem State.endPulse_evolves (s : State) (sda : Bool) : s.Evolves True lines (s.endPulse sda) := by
  cases sda with
  | true => exact .setMonitor s _
  | false =>
    rw [State.endPulse_low]
    split
    · exact .setMonitor s _
    · exact (State.Evolves.setMonitor s _).trans (State.recoveryFails_evolves _)

theorem State.endAttempt_evolves (s : State) (e : AttemptEnding) : s.Evolves True lines (s.endAttempt e) := by
  unfold State.endAttempt
  split
  · exact s.startRecovery_evolves _
  · exact s.takeOutcome_evolves _
  all_goals
    split
    · exact .setMonitor s _
    · exact s.takeOutcome_evolves _

theorem State.poll_evolves (s : State) (scl sda : Bool) : s.Evolves True lines (s.poll scl sda) := by
  have htimer : s.Evolves True lines (s.setMonitor { s.monitor with pollTimer := some (s.now + s.thermal.pollPeriod) }) := .setMonitor s _
  unfold State.poll
  simp only
  split
  · split
    · exact htimer
    · rw [State.startRead_eq]; exact htimer.trans (.setMonitor _ _)
  · exact htimer

theorem State.discardRead_evolves (s : State) (r : Slot) : s.Evolves True lines (s.discardRead r) := by
  unfold State.discardRead
  split
  · exact .setMonitor s _
  · exact .refl s

theorem State.configure_evolves (s : State) (r : Slot) (c : Option Chan) (g : Option GroupId) (a : Option (BitVec 7)) :
    s.Evolves True lines (s.configure r c g a) := by
  have hread : s.Evolves True lines ((s.setRank r { s.rank r with state := .offline, channel := c, group := g }).discardRead r) :=
    (State.Evolves.quiet (.rank s r _)).trans (State.discardRead_evolves _ r)
  unfold State.configure State.configureSensor
  simp only
  split
  · exact hread.trans (.quiet (State.setSensor_quiet _ r _))
  · exact (hread.trans (.quiet (State.setSensor_quiet _ r _))).trans (.quiet (State.changeBand_quiet _ r _))

theorem State.removeRank_evolves (s : State) (r : Slot) : s.Evolves True lines ((s.discardRead r).setRank r Rank.initial) :=
  (s.discardRead_evolves r).trans
    (.quiet (.single (.rank r Rank.initial (fun _ => State.inBounds_zero _) (.inl trivial))))

theorem State.resumePolling_evolves (s : State) : s.Evolves True lines s.resumePolling := by
  unfold State.resumePolling
  split
  · exact .refl s
  · exact .setMonitor s _

/-! ### Commands -/

/-- A rank command is refused, or taken by its body (R5, R172). -/
theorem State.rankCommand_evolves (s : State) (tag : Tag) (kind : CommandKind) (checks : List (Nat × Bool)) (slot : BitVec 8)
    (body : Slot → State → State) (hbody : ∀ r, s.Evolves free lines (body r s)) : s.Evolves free lines (s.rankCommand tag kind checks slot body) := by
  unfold State.rankCommand
  split
  · exact .complete s tag _ _
  · split
    · exact .complete s tag _ _
    · split
      · exact .complete s tag _ _
      · exact hbody _

/-- What passes its checks has no failing field (R176). -/
theorem firstBad_eq_none {checks : List (Nat × Bool)} (h : firstBad checks = none) : ∀ p ∈ checks, p.2 = true := by
  simpa [firstBad] using h

theorem timing_legal_of_checks {t : Timing} {limit : Nat} (h : firstBad (timingChecks t) = none)
    (hbudget : maxTask t limit ≤ t.windowBudget) : t.Legal limit := by
  have hall := firstBad_eq_none h
  simp only [timingChecks, within, List.forall_mem_cons, Bool.and_eq_true, Bool.or_eq_true, decide_eq_true_eq, beq_iff_eq] at hall
  exact ⟨by tauto, by tauto, by tauto, by tauto, by tauto, by tauto, by tauto, by tauto, by tauto, by tauto, by tauto, by tauto,
    by tauto, by tauto, by tauto, by tauto, hbudget⟩

theorem policy_legal_of_checks {f : PolicyFields} (h : firstBad (policyChecks f) = none)
    (hurgent : firstBad (urgentAtChecks f) = none) : (policyOf f).Legal := by
  have hall := firstBad_eq_none h
  have hurgent := firstBad_eq_none hurgent
  simp only [policyChecks, urgentAtChecks, within, List.forall_mem_cons, Bool.and_eq_true, decide_eq_true_eq] at hall hurgent
  simp only [Policy.Legal, policyOf]
  tauto

theorem thermal_legal_of_checks {f : ThermalFields} (h : firstBad (thermalChecks f) = none) : (thermalOf f).Legal := by
  have hall := firstBad_eq_none h
  simp only [thermalChecks, tempInRange, Config.tempMin, Config.tempMax, within, List.forall_mem_cons, Bool.and_eq_true] at hall
  obtain ⟨⟨h1, -⟩, ⟨-, h12⟩, ⟨⟨-, h3⟩, h23⟩, ⟨-, hhyst⟩, -, ⟨hlow, hhigh⟩, ⟨-, hdrift⟩, -⟩ := hall
  exact ⟨of_decide_eq_true h1, of_decide_eq_true h12, of_decide_eq_true h23, of_decide_eq_true h3, of_decide_eq_true hhyst,
    ⟨of_decide_eq_true hlow, of_decide_eq_true hhigh⟩, of_decide_eq_true hdrift⟩

/-- SET_TIMING replaces the values where every check passes (R173). -/
theorem runSetTiming_evolves (tag : Tag) (f : TimingFields) (s : State) : s.Evolves free lines (runSetTiming tag f s) := by
  unfold runSetTiming
  simp only
  split
  · exact .complete s tag _ _
  · next h =>
    split
    · exact .complete s tag _ _
    · split
      · exact .complete s tag _ _
      · next hb => exact (State.Evolves.single (.timing _ (timing_legal_of_checks h (Nat.le_of_not_lt hb)))).trans (.complete _ tag _ _)

/-- Every balance lies within a policy that no slot's lies outside of (R43). -/
theorem State.balances_of_outsideSlot {s : State} {p : Policy} (h : s.outsideSlot p = none) (r : Slot) :
    -(p.postponeLimit : Int) ≤ (s.rank r).balance ∧ (s.rank r).balance ≤ (p.advanceLimit : Int) := by
  have hr : r ∈ allSlots := by revert r; decide
  have := List.find?_eq_none.mp h r hr
  simp only [Rank.outside, Bool.or_eq_true, decide_eq_true_eq, not_or, Int.not_lt] at this
  exact this

/-- SET_REFRESH_POLICY replaces the values where every check passes (R43, R44). -/
theorem runSetRefreshPolicy_evolves (tag : Tag) (f : PolicyFields) (s : State) : s.Evolves free lines (runSetRefreshPolicy tag f s) := by
  unfold runSetRefreshPolicy
  simp only
  split
  · exact .complete s tag _ _
  · next h =>
    split
    · exact .complete s tag _ _
    · next hu =>
      split
      · exact .complete s tag _ _
      · next hb =>
        split
        · exact .complete s tag _ _
        · next ho =>
          exact ((State.Evolves.single (.policy _ (policy_legal_of_checks h hu) (Nat.le_of_not_lt hb)
            (State.balances_of_outsideSlot ho))).trans (.quiet (.foldl _ _ _ State.reevaluate_quiet))).trans (.complete _ tag _ _)

/-- SET_THERMAL replaces the settings where every check passes (R66, R67). -/
theorem runSetThermal_evolves (tag : Tag) (f : ThermalFields) (s : State) : s.Evolves True lines (runSetThermal tag f s) := by
  unfold runSetThermal
  split
  · exact .complete s tag _ _
  · next h =>
    exact (((State.Evolves.single (.thermal _ (thermal_legal_of_checks h))).trans
      (.quiet (.foldl _ _ _ State.takeFallback_quiet))).trans (State.resumePolling_evolves _)).trans (.complete _ tag _ _)

/-- The commands that configure or remove a sensor or resume polling. -/
def ofSensors : HostCommand → Bool
  | .configureRank .. | .removeRank _ | .setThermal _ => true
  | _ => false

/-- The command that resets a channel. -/
def ofLines : HostCommand → Bool
  | .resetChannel _ => true
  | _ => false

/-- An accepted command is taken by moves (R172). -/
theorem takeCommand_evolves (tag : Tag) (c : HostCommand) (hfree : ofSensors c = true → free) (hlines : ofLines c = true → lines)
    (s : State) :
    s.Evolves free lines (takeCommand tag c s) := by
  have hanswer : ∀ (u : State) (st : Status) (d : Detail), u.Evolves free lines (u.complete tag st d) := fun u => .complete u tag
  have hinsert : ∀ (r : Slot) (k : TaskKind), s.Evolves free lines (s.insertPower r k tag) := fun r k => .quiet (s.insertPower_quiet r k tag)
  cases c with
  | setTiming f => exact runSetTiming_evolves tag f s
  | setRefreshPolicy f => exact runSetRefreshPolicy_evolves tag f s
  | setThermal f =>
    obtain rfl : free = True := eq_true (hfree rfl)
    exact runSetThermal_evolves tag f s
  | flushHost channel =>
    simp only [takeCommand, runFlushHost]
    split
    · exact hanswer s _ _
    · exact (State.Evolves.quiet (s.flush_quiet _)).trans (hanswer _ _ _)
  | resetChannel channel =>
    obtain rfl : lines = True := eq_true (hlines rfl)
    simp only [takeCommand, runResetChannel]
    split
    · exact hanswer s _ _
    · exact (State.Evolves.single (.noteRemoved tag _)).trans (State.resetChannel_evolves _ _)
  | configureRank slot channel group address present =>
    obtain rfl : free = True := eq_true (hfree rfl)
    simp only [takeCommand, runConfigureRank]
    refine s.rankCommand_evolves tag _ _ _ _ fun r => ?_
    split
    · exact hanswer s _ _
    · exact (s.configure_evolves r _ _ _).trans (hanswer _ _ _)
  | removeRank slot =>
    obtain rfl : free = True := eq_true (hfree rfl)
    simp only [takeCommand, runRemoveRank]
    exact s.rankCommand_evolves tag _ _ _ _ fun r => (s.removeRank_evolves r).trans (hanswer _ _ _)
  | bringOnline slot =>
    simp only [takeCommand, runBringOnline]
    exact s.rankCommand_evolves tag _ _ _ _ fun r => (State.Evolves.quiet (s.bringOnline_quiet r)).trans (hanswer _ _ _)
  | takeOffline slot =>
    simp only [takeCommand, runTakeOffline]
    refine s.rankCommand_evolves tag _ _ _ _ fun r => ?_
    split
    · exact hanswer s _ _
    · exact (State.Evolves.quiet (s.takeOffline_quiet r)).trans (hanswer _ _ _)
  | queryRank slot =>
    unfold takeCommand runQueryRank
    exact s.rankCommand_evolves tag _ _ _ _ fun r => hanswer s _ _
  | setBand slot band =>
    simp only [takeCommand, runSetBand]
    refine s.rankCommand_evolves tag _ _ _ _ fun r => ?_
    split
    · exact hanswer s _ _
    · exact (State.Evolves.quiet (s.changeBand_quiet r _)).trans (hanswer _ _ _)
  | refreshNow slot count =>
    simp only [takeCommand, runRefreshNow]
    refine s.rankCommand_evolves tag _ _ _ _ fun r => ?_
    split_ifs
    · exact hanswer s _ _
    · exact hanswer s _ _
    · exact hanswer s _ _
    · exact .quiet (s.insertRefreshNow_quiet r _ tag)
  | calibrate slot kind =>
    simp only [takeCommand, runCalibrate]
    refine s.rankCommand_evolves tag _ _ _ _ fun r => ?_
    split_ifs
    · exact hanswer s _ _
    · exact hanswer s _ _
    · exact hanswer s _ _
    · exact .quiet (s.request_quiet r _ _ _)
  | napEnter slot =>
    simp only [takeCommand, runNapEnter]
    refine s.rankCommand_evolves tag _ _ _ _ fun r => ?_
    split
    · exact hanswer s _ _
    · exact hinsert r _
  | napExit slot =>
    simp only [takeCommand, runNapExit]
    refine s.rankCommand_evolves tag _ _ _ _ fun r => ?_
    split
    · exact hanswer s _ _
    · exact hinsert r _
  | deepEnter slot =>
    simp only [takeCommand, runDeepEnter]
    refine s.rankCommand_evolves tag _ _ _ _ fun r => ?_
    split_ifs
    · exact hanswer s _ _
    · exact hanswer s _ _
    · exact hanswer s _ _
    · exact hinsert r _
  | deepExit slot =>
    simp only [takeCommand, runDeepExit]
    refine s.rankCommand_evolves tag _ _ _ _ fun r => ?_
    split
    · exact hanswer s _ _
    · exact hinsert r _

theorem State.setSubmitStatus_evolves (s : State) (x : SubmitStatus) : s.Evolves free lines { s with submitStatus := x } :=
  .single (.window s.intEnable s.staging x s.rankCopies s.groupCopies s.readData)

theorem State.setStaging_evolves (s : State) (x : Record) : s.Evolves free lines { s with staging := x } :=
  .single (.window s.intEnable x s.submitStatus s.rankCopies s.groupCopies s.readData)

/-- A submission is accepted exactly where no drain is in progress, its tag is free and there is room (R170). -/
theorem State.submitOutcome_eq_accepted {s : State} {tag : Tag} {c : Option HostCommand} :
    s.submitOutcome tag c = .accepted ↔ s.drain = false ∧ (∃ x, c = some x) ∧ (∀ e ∈ s.outstanding, e.tag ≠ tag) ∧
      s.outstanding.length < 16 ∧ s.records.length + s.outstanding.length < 64 := by
  unfold State.submitOutcome State.tagInUse State.tableFull Config.outstandingCapacity Config.reportCapacity
  cases s.drain <;> cases c <;> simp
  split_ifs <;> simp_all
  omega

/-- A submission is refused, or accepted and its command taken (R170, R172). -/
theorem State.submit_cases (s : State) (tag : Tag) (c : Option HostCommand) :
    (∃ status, s.submitOutcome tag c = status ∧ status ≠ .accepted ∧ s.submit tag c = { s with submitStatus := status }) ∨
      ∃ x, c = some x ∧ s.submitOutcome tag c = .accepted ∧ s.submit tag c = takeCommand tag x (s.accept tag x) := by
  unfold State.submit
  split
  · next x h => exact .inr ⟨x, rfl, h, rfl⟩
  · next status hnot =>
    refine .inl ⟨_, rfl, fun h => ?_, rfl⟩
    obtain ⟨-, ⟨x, rfl⟩, -⟩ := State.submitOutcome_eq_accepted.mp h
    exact hnot x h rfl

theorem State.submit_evolves (s : State) (tag : Tag) (c : Option HostCommand) (hfree : ∀ x ∈ c, ofSensors x = true → free)
    (hlines : ∀ x ∈ c, ofLines x = true → lines) :
    s.Evolves free lines (s.submit tag c) := by
  obtain ⟨status, -, -, h⟩ | ⟨x, rfl, haccepted, h⟩ := s.submit_cases tag c
  · rw [h]; exact s.setSubmitStatus_evolves status
  · obtain ⟨-, -, htag, htable, hroom⟩ := State.submitOutcome_eq_accepted.mp haccepted
    rw [h]
    exact ((s.setSubmitStatus_evolves .accepted).trans (.single (.accept tag x htag htable hroom))).trans (takeCommand_evolves tag x (hfree x rfl) (hlines x rfl) _)

/-! ### Events -/

/-- What a host command does as an event, before the conditions are taken. -/
def hostEffect (tag : Tag) (c : HostCommand) (s : State) : State :=
  ({ s with staging := stageRecord tag c s.staging }).submit tag (some c)

/-- What a command does as an event, before the conditions are taken; the two rows of RESET_N are no events (10.7). -/
@[reducible] def effectOf : Instr → State → State
  | .configureRank tag slot channel group address present => hostEffect tag (.configureRank slot channel group address present)
  | .removeRank tag slot => hostEffect tag (.removeRank slot)
  | .bringOnline tag slot => hostEffect tag (.bringOnline slot)
  | .takeOffline tag slot => hostEffect tag (.takeOffline slot)
  | .queryRank tag slot => hostEffect tag (.queryRank slot)
  | .setBand tag slot band => hostEffect tag (.setBand slot band)
  | .setTiming tag f => hostEffect tag (.setTiming f)
  | .setRefreshPolicy tag f => hostEffect tag (.setRefreshPolicy f)
  | .setThermal tag f => hostEffect tag (.setThermal f)
  | .flushHost tag channel => hostEffect tag (.flushHost channel)
  | .resetChannel tag channel => hostEffect tag (.resetChannel channel)
  | .refreshNow tag slot count => hostEffect tag (.refreshNow slot count)
  | .calibrate tag slot kind => hostEffect tag (.calibrate slot kind)
  | .napEnter tag slot => hostEffect tag (.napEnter slot)
  | .napExit tag slot => hostEffect tag (.napExit slot)
  | .deepEnter tag slot => hostEffect tag (.deepEnter slot)
  | .deepExit tag slot => hostEffect tag (.deepExit slot)
  | .unknownCommand word0 => fun s => ({ s with staging := s.staging.set 0 word0 }).submitStaged
  | .softReset fields sda => fun s => s.writeControl true fields sda
  | .interruptEnable enable => fun s => s.writeControl false { enable := enable, threshold := 0 } true
  | .intThreshold enable threshold => fun s => s.writeControl false { enable := enable, threshold := threshold } true
  | .pop => State.popHead
  | .snapshotCapture x => fun s => s.capture x
  | .registerWrite offset write => fun s => s.writeRegister offset.toNat write
  | .powerOnReset | .resetNRise _ _ => id
  | .qgntRise c => fun s => if (s.nego c).qgnt then s else s.grantRise c
  | .qgntFall c => fun s => if (s.nego c).qgnt then s.grantFall c else s
  | .qrclRise c => fun s => if (s.nego c).qrcl then s else s.recallRise c
  | .qrclFall c => fun s => s.setNego c { s.nego c with qrcl := false }
  | .intervalExpiry r => fun s => s.expire ((s.rank r).interval.map Interval.due) (fun s => s.takeInterval r)
  | .settleExpiry r => fun s => s.expire (s.rank r).settle (fun s => s.endSettle r)
  | .tokenHoldExpiry g => fun s => s.expire (s.group g).tokenTimer (fun s => s.revoke g)
  | .periodicExpiry r => fun s => s.expire (s.rank r).periodic (fun s =>
      (s.setRank r { s.rank r with periodic := none }).internalRequest r .short .periodic)
  | .grantTimerExpiry c => fun s => s.expire (s.nego c).grantTimer (fun s => s.grantExpiry c)
  | .releaseTimerExpiry c => fun s => s.expire (s.nego c).releaseTimer (fun s => s.releaseExpiry c)
  | .taskCompletion c lines => fun s => s.expire (s.engine c).completion (fun s => s.takeCompletion c lines)
  | .calResultSample c line => fun s => s.expire (s.engine c).sample (fun s => s.takeSample c line)
  | .pollTimerExpiry scl sda => fun s => s.expire s.monitor.pollTimer (fun s => s.poll scl sda)
  | .attemptEnd e => fun s => s.attemptEnds e
  | .clockStretchTimeout released sda => fun s => s.clockTimeout released sda
  | .recoveryPulse stretch sda => fun s => s.pulseEnds stretch sda
  | .timestampTick => fun s => { s.reach (s.tickBase + Config.timestampPeriod) with
      tickBase := s.tickBase + Config.timestampPeriod, timestamp := s.timestamp + 1 }

/-- Every command but those of RESET_N is an event of its effect. -/
theorem exec_eq_event (i : Instr) (s : State) (hlow : i ≠ .powerOnReset) (hrise : ∀ la lb, i ≠ .resetNRise la lb) :
    exec i s = s.event (effectOf i) := by
  cases i with
  | powerOnReset => exact absurd rfl hlow
  | resetNRise la lb => exact absurd rfl (hrise la lb)
  | _ => rfl

/-- What a command can answer: the state it found, a reset, or its effect with the conditions taken. -/
theorem exec_cases (i : Instr) (s t : State) (h : exec i s = .next t) :
    t = s ∨ t = s.powerOn ∨ (∃ la lb, t = State.initial s.now la lb s.pending) ∨
      (s.inReset = false ∧ t = (effectOf i s).settle) := by
  have hevent : ∀ f : State → State, s.event f = .next t → t = s ∨ (s.inReset = false ∧ t = (f s).settle) := by
    intro f hf
    unfold State.event at hf
    split at hf
    · cases hf; exact .inl rfl
    · next hr => cases hf; exact .inr ⟨by simpa using hr, rfl⟩
  by_cases hlow : i = .powerOnReset
  · subst hlow
    cases h
    exact .inr (.inl rfl)
  · by_cases hrise : ∃ la lb, i = .resetNRise la lb
    · obtain ⟨la, lb, rfl⟩ := hrise
      change (if s.inReset then _ else _) = _ at h
      split at h
      · cases h; exact .inr (.inr (.inl ⟨la, lb, rfl⟩))
      · cases h; exact .inl rfl
    · rw [exec_eq_event i s hlow fun la lb he => hrise ⟨la, lb, he⟩] at h
      obtain hsame | hrun := hevent _ h
      · exact .inl hsame
      · exact .inr (.inr (.inr hrun))

/-- What a step can answer. -/
theorem step_cases (s t : State) (h : step s = .next t) :
    t = { s with now := s.now + 1 } ∨ ∃ (i : Instr) (rest : List Instr), s.pending = i :: rest ∧
      exec i { s with pending := rest } = .next t := by
  unfold step at h
  split at h
  · cases h; exact .inl rfl
  · next i rest hp => exact .inr ⟨i, rest, hp, h⟩

/-- An expiry is taken from its time on, or is none. -/
theorem State.expire_evolves (s : State) (timer : Option Nat) (f : State → State) (h : ∀ due, (s.reach due).Evolves free lines (f (s.reach due))) :
    s.Evolves free lines (s.expire timer f) := by
  cases timer with
  | none => exact .refl s
  | some due => exact (State.Evolves.reach s due).trans (h due)

theorem State.popHead_evolves (s : State) : s.Evolves free lines s.popHead := by
  have hread : s.Evolves free lines { s with readData := s.popWords[3] } :=
    .single (.window s.intEnable s.staging s.submitStatus s.rankCopies s.groupCopies _)
  have hlost : ∀ u : State, u.Evolves free lines u.reportLost := by
    intro u
    unfold State.reportLost
    split
    · exact .refl u
    · exact (State.Evolves.notice u _).trans (.single .foundLost)
  unfold State.popHead
  simp only
  split
  · exact hread
  · next x rest h => exact (hread.trans (.single (.pop x rest h))).trans (hlost _)

theorem State.submitStaged_evolves (s : State) : s.Evolves True True s.submitStaged := s.submit_evolves _ _ (fun _ _ _ => trivial) fun _ _ _ => trivial

theorem State.writeRegister_evolves (s : State) (offset : Nat) (w : WindowWrite) : s.Evolves True True (s.writeRegister offset w) := by
  unfold State.writeRegister
  simp only
  split_ifs
  · exact .refl s
  · exact s.writeControl_evolves _ _ _
  · exact s.submitStaged_evolves
  · exact s.setStaging_evolves _
  · exact .refl s

theorem hostEffect_evolves (tag : Tag) (c : HostCommand) (hfree : ofSensors c = true → free) (hlines : ofLines c = true → lines)
    (s : State) : s.Evolves free lines (hostEffect tag c s) := by
  refine (s.setStaging_evolves _).trans (State.submit_evolves _ _ _ (fun x hx => ?_) fun x hx => ?_)
  · cases hx; exact hfree
  · cases hx; exact hlines

theorem State.takeCompletion_evolves (s : State) (c : Chan) (lines : CompletionLines) :
    s.Evolves True True (s.takeCompletion c lines) := by
  unfold State.takeCompletion
  split
  · exact .refl _
  · exact (State.completion_evolves _ c _ _).trans (State.checkDrain_evolves _ _)

theorem State.takeSample_evolves (s : State) (c : Chan) (line : CalResult) : s.Evolves free True (s.takeSample c line) := by
  unfold State.takeSample
  split
  · exact .refl _
  · exact .setEngine _ c _

theorem State.attemptEnds_evolves (s : State) (e : AttemptEnding) : s.Evolves True lines (s.attemptEnds e) := by
  unfold State.attemptEnds
  split
  all_goals first
    | exact .refl s
    | exact (State.Evolves.reach s _).trans (State.endAttempt_evolves _ e)

theorem State.clockTimeout_evolves (s : State) (released : Nat) (sda : Bool) : s.Evolves True lines (s.clockTimeout released sda) := by
  unfold State.clockTimeout
  simp only
  split
  · exact (State.Evolves.reach s _).trans (State.startRecovery_evolves _ sda)
  · exact (State.Evolves.reach s _).trans (State.startRecovery_evolves _ sda)
  · exact (State.Evolves.reach s _).trans (State.recoveryFails_evolves _)
  · exact .refl s

theorem State.pulseEnds_evolves (s : State) (stretch : Nat) (sda : Bool) : s.Evolves True lines (s.pulseEnds stretch sda) := by
  unfold State.pulseEnds
  simp only
  split
  · split
    · exact (State.Evolves.reach s _).trans (State.takeOutcome_evolves _ _)
    · exact (State.Evolves.reach s _).trans (State.endPulse_evolves _ sda)
  all_goals exact .refl s

/-- The commands whose events may write a sensor record, the polling state or the reset values. -/
def sensorEvent : Instr → Bool
  | .configureRank .. | .removeRank .. | .setThermal .. | .unknownCommand _ | .softReset .. | .registerWrite .. | .taskCompletion ..
  | .pollTimerExpiry .. | .attemptEnd _ | .clockStretchTimeout .. | .recoveryPulse .. => true
  | _ => false

/-- The commands whose events may write a negotiator, an engine, the drain bit or the reset values. -/
def lineEvent : Instr → Bool
  | .resetChannel .. | .unknownCommand _ | .softReset .. | .registerWrite .. | .qgntRise _ | .qgntFall _ | .qrclRise _ | .qrclFall _
  | .grantTimerExpiry _ | .releaseTimerExpiry _ | .taskCompletion .. | .calResultSample .. => true
  | _ => false

/-- The effect of every command is a sequence of moves, free or of the lines only where the command is. -/
theorem effectOf_evolves (i : Instr) (hfree : sensorEvent i = true → free) (hlines : lineEvent i = true → lines) (s : State) :
    s.Evolves free lines (effectOf i s) := by
  have both : sensorEvent i = true → lineEvent i = true → s.Evolves True True (effectOf i s) → s.Evolves free lines (effectOf i s) := by
    intro h1 h2 h
    obtain rfl : free = True := eq_true (hfree h1)
    obtain rfl : lines = True := eq_true (hlines h2)
    exact h
  have sensors : sensorEvent i = true → s.Evolves True lines (effectOf i s) → s.Evolves free lines (effectOf i s) := by
    intro h1 h
    obtain rfl : free = True := eq_true (hfree h1)
    exact h
  have negotiators : lineEvent i = true → s.Evolves free True (effectOf i s) → s.Evolves free lines (effectOf i s) := by
    intro h2 h
    obtain rfl : lines = True := eq_true (hlines h2)
    exact h
  cases i
  case unknownCommand word0 => exact both rfl rfl ((s.setStaging_evolves _).trans (State.submitStaged_evolves _))
  case softReset fields sda => exact both rfl rfl (s.writeControl_evolves _ _ _)
  case registerWrite offset write => exact both rfl rfl (s.writeRegister_evolves _ _)
  case taskCompletion c lines => exact both rfl rfl (s.expire_evolves _ _ fun due => State.takeCompletion_evolves _ c lines)
  case pollTimerExpiry scl sda => exact sensors rfl (s.expire_evolves _ _ fun due => State.poll_evolves _ scl sda)
  case attemptEnd e => exact sensors rfl (s.attemptEnds_evolves e)
  case clockStretchTimeout released sda => exact sensors rfl (s.clockTimeout_evolves released sda)
  case recoveryPulse stretch sda => exact sensors rfl (s.pulseEnds_evolves stretch sda)
  case qgntRise c =>
    refine negotiators rfl ?_
    simp only [effectOf]
    split
    · exact .refl s
    · exact s.grantRise_evolves c
  case qgntFall c =>
    refine negotiators rfl ?_
    simp only [effectOf]
    split
    · exact s.grantFall_evolves c
    · exact .refl s
  case qrclRise c =>
    refine negotiators rfl ?_
    simp only [effectOf]
    split
    · exact .refl s
    · exact s.recallRise_evolves c
  case qrclFall c => exact negotiators rfl (.setNego s c _)
  case grantTimerExpiry c => exact negotiators rfl (s.expire_evolves _ _ fun due => State.grantExpiry_evolves _ c)
  case releaseTimerExpiry c => exact negotiators rfl (s.expire_evolves _ _ fun due => State.releaseExpiry_evolves _ c)
  case calResultSample c line => exact negotiators rfl (s.expire_evolves _ _ fun due => State.takeSample_evolves _ c line)
  case interruptEnable enable => exact s.withControl_evolves _
  case intThreshold enable threshold => exact s.withControl_evolves _
  case pop => exact s.popHead_evolves
  case snapshotCapture x =>
    cases x with
    | rank r => exact .single (.window s.intEnable s.staging s.submitStatus _ s.groupCopies _)
    | group g => exact .single (.window s.intEnable s.staging s.submitStatus s.rankCopies _ _)
  case powerOnReset => exact .refl s
  case resetNRise la lb => exact .refl s
  case intervalExpiry r => exact s.expire_evolves _ _ fun due => .quiet (State.takeInterval_quiet _ r)
  case settleExpiry r => exact s.expire_evolves _ _ fun due => .quiet (State.endSettle_quiet _ r)
  case tokenHoldExpiry g => exact s.expire_evolves _ _ fun due => .quiet (State.revoke_quiet _ g)
  case periodicExpiry r =>
    exact s.expire_evolves _ _ fun due => .quiet (State.Quiet.trans (.rank _ r _) (State.internalRequest_quiet _ r _ _))
  case timestampTick =>
    exact .single (.clock (max s.now (s.tickBase + Config.timestampPeriod)) (s.tickBase + Config.timestampPeriod) (s.timestamp + 1))
  all_goals
    refine hostEffect_evolves _ _ ?_ ?_ s
    · exact fun h => hfree h
    · exact fun h => hlines h

/-- What a command answers is reached by a sequence of moves. -/
theorem exec_evolves (i : Instr) (s t : State) (h : exec i s = .next t) : s.Evolves True True t := by
  obtain rfl | rfl | ⟨la, lb, rfl⟩ | ⟨-, rfl⟩ := exec_cases i s t h
  · exact .refl _
  · exact .single (.reset s.now _ _ true 0 (Monitor.initial s.now) trivial trivial)
  · exact .single (.reset s.now la lb false 0 (Monitor.initial s.now) trivial trivial)
  · exact (effectOf_evolves i (fun _ => trivial) (fun _ => trivial) s).trans (State.settle_evolves _)

/-- Every step is a sequence of moves from the state whose queue has lost the command taken. -/
theorem step_evolves (s t : State) (h : step s = .next t) : ∃ rest, ({ s with pending := rest } : State).Evolves True True t := by
  obtain rfl | ⟨i, rest, -, hi⟩ := step_cases s t h
  · exact ⟨s.pending, .single (.clock _ s.tickBase s.timestamp)⟩
  · exact ⟨rest, exec_evolves i _ t hi⟩

/-- A law that does not speak of the waiting commands and that every move keeps, every step keeps. -/
theorem step_keeps {P : State → Prop} (hpending : ∀ (s : State) rest, P s → P { s with pending := rest })
    (hmove : ∀ s t : State, s.Move True True t → P s → P t) (s t : State) (h : step s = .next t) (hs : P s) : P t := by
  obtain ⟨rest, hrun⟩ := step_evolves s t h
  exact hrun.keeps hmove (hpending s rest hs)

/-! ### The laws every move keeps -/

theorem State.notice_reportLaw (s : State) (b : Notice) (h : s.ReportLaw) : (s.notice b).ReportLaw := by
  obtain ⟨hroom, htable, htags, hlost, hlow, hhigh⟩ := h
  by_cases hm : s.margin = 0
  · rw [State.notice_of_full s b hm]
    exact ⟨hroom, htable, htags, Nat.min_le_left _ _, hlow, hhigh⟩
  · have hfree : s.records.length + s.outstanding.length < 64 := by
      rw [State.margin_eq_zero_iff] at hm; omega
    rw [State.notice_of_margin s b hm]
    refine ⟨?_, htable, htags, hlost, hlow, hhigh⟩
    simp only [List.length_append, List.length_singleton]
    omega

/-- A completion frees one entry of the table and keeps the others (R171). -/
theorem State.complete_outstanding_sublist (s : State) (tag : Tag) (st : Status) (d : Detail) :
    (s.complete tag st d).outstanding.Sublist s.outstanding := by
  unfold State.complete
  split
  · exact List.Sublist.refl _
  · exact List.eraseP_sublist

theorem State.complete_reportLaw (s : State) (tag : Tag) (st : Status) (d : Detail) (h : s.ReportLaw) :
    (s.complete tag st d).ReportLaw := by
  obtain ⟨hroom, htable, htags, hlost, hlow, hhigh⟩ := h
  have hsub := s.complete_outstanding_sublist tag st d
  have hrest : (s.complete tag st d).lost = s.lost ∧ (s.complete tag st d).intThreshold = s.intThreshold := by
    rw [State.complete_frame]; exact ⟨rfl, rfl⟩
  rw [State.ReportLaw, State.complete_sum, hrest.1, hrest.2]
  exact ⟨hroom, hsub.length_le.trans htable, (hsub.map _).nodup htags, hlost, hlow, hhigh⟩

theorem State.Move.reportLaw (s t : State) (h : s.Move True True t) (hs : s.ReportLaw) : t.ReportLaw := by
  obtain ⟨hroom, htable, htags, hlost, hlow, hhigh⟩ := hs
  cases h with
  | write h =>
    cases h with
    | rank | group | queue => exact ⟨hroom, htable, htags, hlost, hlow, hhigh⟩
    | notice b => exact s.notice_reportLaw b ⟨hroom, htable, htags, hlost, hlow, hhigh⟩
    | complete tag st d => exact s.complete_reportLaw tag st d ⟨hroom, htable, htags, hlost, hlow, hhigh⟩
  | threshold n h1 h2 => exact ⟨hroom, htable, htags, hlost, h1, h2⟩
  | pop x rest hrec =>
    rw [hrec, List.length_cons] at hroom
    exact ⟨by simp only; omega, htable, htags, hlost, hlow, hhigh⟩
  | foundLost => exact ⟨hroom, htable, htags, Nat.zero_le _, hlow, hhigh⟩
  | accept tag c htag hfree hspace =>
    refine ⟨?_, ?_, ?_, hlost, hlow, hhigh⟩
    · simp only [List.length_append, List.length_singleton]; omega
    · simp only [List.length_append, List.length_singleton]; omega
    · simp only [List.map_append, List.map_cons, List.map_nil]
      refine List.nodup_append.mpr ⟨htags, List.nodup_singleton _, fun a ha b hb => ?_⟩
      obtain ⟨e, he, rfl⟩ := List.mem_map.mp ha
      rw [List.mem_singleton.mp hb]
      exact htag e he
  | noteRemoved tag n =>
    have hmap : (s.noteRemoved tag n).outstanding.map OutEntry.tag = s.outstanding.map OutEntry.tag := by
      simp only [State.noteRemoved, List.map_map]
      refine List.map_congr_left fun e _ => ?_
      simp only [Function.comp_apply]
      split <;> rfl
    have hlen : (s.noteRemoved tag n).outstanding.length = s.outstanding.length := List.length_map _
    rw [State.ReportLaw, hmap, hlen]
    exact ⟨hroom, htable, htags, hlost, hlow, hhigh⟩
  | reset now la lb inReset readData m _ _ =>
    exact ⟨Nat.zero_le _, Nat.zero_le _, List.nodup_nil, Nat.zero_le _, Nat.le_refl 1, (by decide : 1 ≤ 64)⟩
  | _ => exact ⟨hroom, htable, htags, hlost, hlow, hhigh⟩

/-- Settles O54: every step is a sequence of moves, and each keeps the law. -/
theorem reportLawKept : Obligations.ReportLawKept := fun s t h => step_keeps (fun _ _ hs => hs) State.Move.reportLaw s t h

theorem State.Write.parameters_eq {s t : State} (h : s.Write free t) :
    t.timing = s.timing ∧ t.policy = s.policy ∧ t.thermal = s.thermal :=
  have hq := State.Quiet.single h
  ⟨hq.timing_eq, hq.policy_eq, hq.thermal_eq⟩

theorem State.Move.parameterLaw (s t : State) (h : s.Move True True t) (hs : s.ParameterLaw) : t.ParameterLaw := by
  cases h with
  | write h =>
    obtain ⟨h1, h2, h3⟩ := h.parameters_eq
    rw [State.ParameterLaw, h1, h2, h3]
    exact hs
  | timing t ht => exact ⟨ht, hs.2⟩
  | policy p hp hbudget _ =>
    obtain ⟨⟨h1, h2, h3, h4, h5, h6, h7, h8, h9, h10, h11, h12, h13, h14, h15, h16, _⟩, _, hthermal⟩ := hs
    exact ⟨⟨h1, h2, h3, h4, h5, h6, h7, h8, h9, h10, h11, h12, h13, h14, h15, h16, hbudget⟩, hp, hthermal⟩
  | thermal t ht => exact ⟨hs.1, hs.2.1, ht⟩
  | reset now la lb inReset readData m _ _ =>
    change Timing.Legal Config.timing Config.policy.postponeLimit ∧ Policy.Legal Config.policy ∧ Thermal.Legal Config.thermal
    decide
  | _ => exact hs

/-- Settles O55: every step is a sequence of moves, and each keeps the law. -/
theorem parameterLawKept : Obligations.ParameterLawKept := fun s t h => step_keeps (fun _ _ hs => hs) State.Move.parameterLaw s t h

theorem State.rank_initial (now : Nat) (la lb : LineLevels) (pending : List Instr) (r : Slot) :
    (State.initial now la lb pending).rank r = Rank.initial := by
  simp [State.rank, State.initial]

theorem State.Move.balanceLaw (s t : State) (h : s.Move True True t) (hs : s.BalanceLaw) : t.BalanceLaw := by
  cases h with
  | write h =>
    cases h with
    | rank r k hbalance _ =>
      intro q
      rw [State.rank_setRank]
      split
      · exact hbalance (hs r)
      · exact hs q
    | group | queue => exact hs
    | notice b => rw [State.notice_frame]; exact hs
    | complete tag st d => rw [State.complete_frame]; exact hs
  | policy p _ _ hbalance => exact hbalance
  | reset now la lb inReset readData m _ _ =>
    intro r
    change _ ≤ ((State.initial now la lb s.pending).rank r).balance ∧ ((State.initial now la lb s.pending).rank r).balance ≤ _
    rw [State.rank_initial]
    exact State.inBounds_zero _
  | _ => exact hs

/-- Settles O56: every step is a sequence of moves, and each keeps the law. -/
theorem balanceLawKept : Obligations.BalanceLawKept := fun s t h => step_keeps (fun _ _ hs => hs) State.Move.balanceLaw s t h

end Sys2Proof.Machine
end

section
/-! SUPPORT and the proofs of O60, O45, O53, O1 to O5: the end of an event, the step, and the resets. -/

namespace Sys2Proof.Machine

-- Proofs are elaborated one after the other, which bounds the memory a compile reserves.
set_option Elab.async false

/-! ### The conditions at the end of an event -/

/-- Taking one channel's conditions leaves the other's taken. -/
theorem State.settledOn_settleNego_ne (s : State) {c d : Chan} (hne : d ≠ c) (h : s.SettledOn d) : (s.settleNego c).SettledOn d := by
  have hother : ∀ n : Negotiator, (s.setNego c n).SettledOn d := by
    intro n
    unfold State.SettledOn
    rw [State.nego_setNego_ne s n hne, State.requestCondition_setNego, State.urgencyCondition_setNego]
    exact h
  unfold State.settleNego
  split
  · split
    · exact hother _
    · exact h
  · split
    · exact hother _
    · exact h
  · split
    · exact hother _
    · exact h
  all_goals exact h

/-- The end of an event leaves both channels' conditions taken (R130). -/
theorem State.settle_settled (s : State) : s.settle.Settled :=
  ⟨State.settledOn_settleNego_ne _ (by decide) (s.settledOn_settleNego .a), State.settledOn_settleNego _ .b⟩

/-- A part at its reset values has no condition to take. -/
theorem State.initial_settled (now : Nat) (la lb : LineLevels) (pending : List Instr) :
    (State.initial now la lb pending).Settled := by
  have hrequest : ∀ c, (State.initial now la lb pending).requestCondition c = false := by
    intro c; cases c <;> rfl
  have hidle : ∀ c, ((State.initial now la lb pending).nego c).state = .idle := by
    intro c; cases c <;> rfl
  have hon : ∀ c, (State.initial now la lb pending).SettledOn c := fun c =>
    ⟨fun _ _ => hrequest c, fun h => by simp [hidle c] at h⟩
  exact ⟨hon .a, hon .b⟩

/-- Settles O60: a step lets time pass, leaves the state, resets the part, or ends an event. -/
theorem conditionsTaken : Obligations.ConditionsTaken := by
  intro s t h hs
  obtain rfl | ⟨i, rest, -, hi⟩ := step_cases s t h
  · exact hs
  · obtain rfl | rfl | ⟨la, lb, rfl⟩ | ⟨-, rfl⟩ := exec_cases i _ t hi
    · exact hs
    · exact State.initial_settled s.now _ _ rest
    · exact State.initial_settled s.now la lb rest
    · exact State.settle_settled _

/-- The conditions depend on the queue, the mark, the drain bit, the balances and the policy alone; a negotiator is none of these. -/
theorem State.requestCondition_settleNego (s : State) (c d : Chan) : (s.settleNego c).requestCondition d = s.requestCondition d := by
  rw [State.settleNego_frame]; rfl

theorem State.urgencyCondition_settleNego (s : State) (c d : Chan) : (s.settleNego c).urgencyCondition d = s.urgencyCondition d := by
  rw [State.settleNego_frame]; rfl

theorem State.urgencyCondition_settle (s : State) (c : Chan) : s.settle.urgencyCondition c = s.urgencyCondition c := by
  rw [State.settle_frame]; rfl

theorem State.requestCondition_settle (s : State) (c : Chan) : s.settle.requestCondition c = s.requestCondition c := by
  rw [State.settle_frame]; rfl

/-- What one negotiator makes of its conditions (R134, R136, R139). -/
theorem State.nego_settleNego (s : State) (c : Chan) : (s.settleNego c).nego c =
    (s.nego c).takes (s.urgencyCondition c) (s.requestCondition c) (s.now + s.timing.grantWait) := by
  unfold State.settleNego Negotiator.takes
  split
  · next hidle =>
    split
    · next h =>
      simp only [Bool.and_eq_true, Bool.not_eq_true'] at h
      rw [if_pos ⟨hidle, h.2, h.1⟩]
      simp [State.raiseRequest]
    · next h =>
      simp only [Bool.and_eq_true, Bool.not_eq_true'] at h
      rw [if_neg fun hn => h ⟨hn.2.2, hn.2.1⟩, if_neg (by simp [hidle])]
  · next hrequesting =>
    have hnot : ¬((s.nego c).state = .idle ∧ (s.nego c).qgnt = false ∧ s.requestCondition c = true) := by simp [hrequesting]
    by_cases hurgent : s.urgencyCondition c = true
    · simp [hrequesting, hurgent]
    · simp [hnot, hurgent]
  · next hopened =>
    have hnot : ¬((s.nego c).state = .idle ∧ (s.nego c).qgnt = false ∧ s.requestCondition c = true) := by simp [hopened]
    by_cases hurgent : s.urgencyCondition c = true
    · simp [hopened, hurgent]
    · simp [hnot, hurgent]
  all_goals
    next h => simp [h]

theorem State.nego_settleNego_ne (s : State) {c d : Chan} (hne : d ≠ c) : (s.settleNego c).nego d = s.nego d := by
  unfold State.settleNego State.raiseRequest
  split <;> first
    | rfl
    | (split <;> first | rfl | exact State.nego_setNego_ne s _ hne)

/-- What both negotiators make of their conditions at the end of an event. -/
theorem State.nego_settle (s : State) (c : Chan) : s.settle.nego c =
    (s.nego c).takes (s.urgencyCondition c) (s.requestCondition c) (s.now + s.timing.grantWait) := by
  unfold State.settle
  cases c with
  | a => rw [State.nego_settleNego_ne _ (by decide), State.nego_settleNego]
  | b =>
    rw [State.nego_settleNego, State.nego_settleNego_ne _ (by decide), State.urgencyCondition_settleNego,
      State.requestCondition_settleNego, State.settleNego_frame]

/-- Work worth a window is work of a class above ROUTINE, or a REFRESH_NOW (R129). -/
theorem Task.worthWindow_iff (x : Task) :
    x.worthWindow = true ↔ x.cls = .urgent ∨ x.cls = .cal ∨ x.cls = .power ∨ x.kind = .refreshNow := by
  unfold Task.worthWindow
  cases x.cls <;> simp

theorem State.requestCondition_iff (s : State) (c : Chan) : s.requestCondition c = true ↔
    (s.engine c).resetMark = false ∧ s.drain = false ∧
      ((∃ x ∈ (s.queue c).tasks, x.worthWindow = true) ∨ s.policy.gatherThreshold ≤ s.owedSum c) := by
  simp [State.requestCondition, State.reports, State.resetting, and_assoc]

theorem State.urgencyCondition_iff (s : State) (c : Chan) : s.urgencyCondition c = true ↔
    (s.engine c).resetMark = false ∧ s.drain = false ∧ ∃ x ∈ (s.queue c).tasks, x.cls = .urgent := by
  simp [State.urgencyCondition, State.reports, State.resetting, and_assoc]

/-- Settles O45: the conditions unfolded, and the end of an event by its two negotiators. -/
theorem conditions : Obligations.Conditions := by
  intro s c
  refine ⟨?_, s.urgencyCondition_iff c, s.nego_settle c, s.settle_frame, s.settle_settled⟩
  rw [s.requestCondition_iff c]
  simp only [Task.worthWindow_iff, State.owedSum, Rank.owed, beq_eq_decide]

/-! ### The step -/

/-- Settles O1: by the step's own definition. -/
theorem stepTakesFrontCommand : Obligations.StepTakesFrontCommand := by
  intro s c rest h
  simp only [step, h]

theorem State.Write.pending_eq {free : Prop} {s t : State} (h : s.Write free t) : t.pending = s.pending :=
  (State.Quiet.single h).pending_eq

/-- A move leaves the waiting commands. -/
theorem State.Move.pending_eq {free lines : Prop} {s t : State} (h : s.Move free lines t) : t.pending = s.pending := by
  cases h with
  | write h => exact h.pending_eq
  | _ => rfl

theorem State.Evolves.pending_eq {free lines : Prop} {s t : State} (h : s.Evolves free lines t) : t.pending = s.pending :=
  h.keeps (P := fun u => u.pending = s.pending) (fun _ _ hm hu => hm.pending_eq.trans hu) rfl

theorem State.event_next (s : State) (f : State → State) : ∃ t, s.event f = .next t := by
  unfold State.event
  split
  · exact ⟨_, rfl⟩
  · exact ⟨_, rfl⟩

/-- Settles O3: every command is an event or a reset, and neither touches the waiting commands. -/
theorem everyCommandAnswersNext : Obligations.EveryCommandAnswersNext := by
  intro i s
  have hnext : ∃ t, exec i s = .next t := by
    by_cases hlow : i = .powerOnReset
    · subst hlow; exact ⟨_, rfl⟩
    · by_cases hrise : ∃ la lb, i = .resetNRise la lb
      · obtain ⟨la, lb, rfl⟩ := hrise
        change ∃ t, (if s.inReset then _ else _) = _
        split
        · exact ⟨_, rfl⟩
        · exact ⟨_, rfl⟩
      · rw [exec_eq_event i s hlow fun la lb he => hrise ⟨la, lb, he⟩]
        exact s.event_next _
  obtain ⟨t, ht⟩ := hnext
  exact ⟨t, ht, (exec_evolves i s t ht).pending_eq⟩

/-- An event while RESET_N is high is its effect with the conditions taken (10.7). -/
theorem State.event_eq {s : State} (h : s.inReset = false) (f : State → State) : s.event f = .next (f s).settle := by
  unfold State.event
  rw [if_neg (by simp [h])]

/-- A command while RESET_N is high is its effect with the conditions taken. -/
theorem exec_next {s : State} (hreset : s.inReset = false) {i : Instr} (hevent : exec i s = s.event (effectOf i) := by rfl) :
    exec i s = .next (effectOf i s).settle := by
  rw [hevent, State.event_eq hreset]

/-- A command whose effect leaves the conditions taken answers that effect. -/
theorem exec_of_settled {s t : State} (hreset : s.inReset = false) {i : Instr} (heffect : effectOf i s = t) (ht : t.Settled)
    (hevent : exec i s = s.event (effectOf i) := by rfl) : exec i s = .next t := by
  rw [exec_next hreset hevent, heffect, State.settle_of_settled t ht]

/-- A stopped timer's expiry is none (entry 2). -/
theorem State.expire_of_stopped {s : State} {timer : Option Nat} (f : State → State) (h : timer = none) : s.expire timer f = s := by
  subst h; rfl

/-- Settles O2: an event of no effect each time, on a state whose conditions are taken. -/
theorem modelConventions : Obligations.ModelConventions := by
  intro s
  refine ⟨fun h => ?_, fun hreset i hlow hrise => ?_, fun hreset a b => ?_, fun hreset hsettled => ?_⟩
  · simp only [step, h]
  · rw [exec_eq_event i s hlow hrise, State.event, if_pos hreset]
  · change (if s.inReset then _ else _) = _
    rw [if_neg (by simp [hreset])]
  have hsame : ∀ {i : Instr}, exec i s = s.event (effectOf i) → effectOf i s = s → exec i s = .next s := fun hevent heffect =>
    exec_of_settled hreset heffect hsettled hevent
  refine ⟨fun c h => hsame rfl (if_pos h), fun c h => hsame rfl (if_neg (by simp [h])), fun c h => hsame rfl (if_pos h),
    fun c h => hsame rfl ?_, fun r h => hsame rfl (State.expire_of_stopped _ (by simp [h])),
    fun r h => hsame rfl (State.expire_of_stopped _ h), fun r h => hsame rfl (State.expire_of_stopped _ h),
    fun g h => hsame rfl (State.expire_of_stopped _ h), fun c h => hsame rfl (State.expire_of_stopped _ h),
    fun c h => hsame rfl (State.expire_of_stopped _ h), fun c x h => hsame rfl (State.expire_of_stopped _ h),
    fun c x h => hsame rfl (State.expire_of_stopped _ h), fun x y h => hsame rfl (State.expire_of_stopped _ h),
    fun e h => hsame rfl ?_, fun n x h => hsame rfl ?_, fun n x h => hsame rfl ?_⟩
  · show s.setNego c { s.nego c with qrcl := false } = s
    rw [← h, State.setNego_nego_same]
  · simp only [effectOf, State.attemptEnds, h]
  · simp only [effectOf, State.clockTimeout, h]
  · simp only [effectOf, State.pulseEnds]
    cases hbus : s.monitor.bus with
    | recovery => exact absurd hbus h
    | _ => rfl

/-! ### Resets -/

/-- Settles O4: the reset state computed, block by block. -/
theorem powerOnValues : Obligations.PowerOnValues := by
  refine ⟨by decide, rfl, rfl, rfl, rfl, rfl, by decide, fun c => ?_, rfl, rfl, rfl, rfl, rfl, by decide, rfl, rfl, rfl, rfl, rfl, rfl,
    rfl, by decide, by decide⟩
  cases c <;> exact ⟨rfl, rfl, rfl, rfl, rfl, rfl, rfl, rfl, rfl, rfl, rfl⟩

/-- Settles O5: both rows of RESET_N leave the initial state, with the lines as they stand. -/
theorem resetPin : Obligations.ResetPin := by
  refine fun s => ⟨rfl, fun hreset la lb => ?_⟩
  change (if s.inReset then _ else _) = _
  rw [if_pos hreset]
  rfl

/-- A negotiator and an engine at their reset values agree. -/
theorem channelLaw_initial (l : LineLevels) : ChannelLaw (Negotiator.initial l) Engine.initial false := by
  simp [ChannelLaw, Negotiator.StageLaw, Negotiator.initial, Engine.initial]

/-- Settles O53: every law computed at reset. -/
theorem lawsHoldAtReset : Obligations.LawsHoldAtReset := by
  have hwork : State.reset.WorkLaw := by and_intros <;> decide
  exact ⟨by decide, by decide, by decide, ⟨channelLaw_initial _, channelLaw_initial _, by decide⟩, by decide, hwork, by decide,
    State.initial_settled 0 _ _ []⟩

end Sys2Proof.Machine
end

section
/-! SUPPORT and the proof of O59: the sensor records and the polling state. Moves that are not free leave them; the operations of the
sensor bus, CONFIGURE_RANK, REMOVE_RANK, SET_THERMAL and the resets each keep their law. -/

namespace Sys2Proof.Machine

-- Proofs are elaborated one after the other, which bounds the memory a compile reserves.
set_option Elab.async false

/-! ### What leaves the sensors -/

/-- The sensor records and the polling state of one state are those of another. -/
def State.SameSensors (s t : State) : Prop := (∀ r : Slot, (t.rank r).sensorPart = (s.rank r).sensorPart) ∧ t.monitor = s.monitor

theorem State.Write.sensorPart_eq {s t : State} (h : s.Write False t) (q : Slot) : (t.rank q).sensorPart = (s.rank q).sensorPart := by
  cases h with
  | rank r k _ hsensor =>
    rw [State.rank_setRank]
    split
    · next hq => rw [hq]; exact hsensor.resolve_left id
    · rfl
  | group | queue => rfl
  | notice b => rw [State.notice_frame]; rfl
  | complete tag st d => rw [State.complete_frame]; rfl

theorem State.Move.sameSensors {s t : State} (h : s.Move False True t) : s.SameSensors t := by
  cases h with
  | write h => exact ⟨h.sensorPart_eq, (State.Quiet.single h).monitor_eq⟩
  | monitor m hfree => exact hfree.elim
  | reset now la lb inReset readData m hfree _ => exact hfree.elim
  | _ => exact ⟨fun _ => rfl, rfl⟩

/-- Moves that are not free leave the sensors. -/
theorem State.Evolves.sameSensors {s t : State} (h : s.Evolves False True t) : s.SameSensors t := by
  refine h.keeps (P := fun u => s.SameSensors u) (fun _ _ hm hu => ?_) ⟨fun _ => rfl, rfl⟩
  exact ⟨fun r => (hm.sameSensors.1 r).trans (hu.1 r), hm.sameSensors.2.trans hu.2⟩

theorem Rank.sensorLaw_congr {k l : Rank} (h : l.sensorPart = k.sensorPart) : l.SensorLaw ↔ k.SensorLaw := by
  simp only [Rank.sensorPart, Prod.mk.injEq] at h
  obtain ⟨h1, h2, h3, h4, h5⟩ := h
  simp only [Rank.SensorLaw, h1, h2, h3, h4, h5]

theorem State.SameSensors.sensorLaw {s t : State} (h : s.SameSensors t) (hs : s.SensorLaw) : t.SensorLaw := by
  obtain ⟨hranks, hmonitor, hread⟩ := hs
  obtain ⟨hpart, hsame⟩ := h
  refine ⟨fun r => (Rank.sensorLaw_congr (hpart r)).mpr (hranks r), hsame ▸ hmonitor, fun r hr hd => ?_⟩
  rw [hsame] at hr hd
  have hsensor : (t.rank r).sensor = (s.rank r).sensor := congrArg Prod.fst (hpart r)
  rw [hsensor]
  exact hread r hr hd

theorem State.Evolves.sensorLaw {s t : State} (h : s.Evolves False True t) : s.SensorLaw → t.SensorLaw := h.sameSensors.sensorLaw

theorem State.Quiet.sensorLaw {s t : State} (h : s.Quiet False t) : s.SensorLaw → t.SensorLaw := (State.Evolves.quiet h).sensorLaw

/-! ### Sensor records and polling states written -/

/-- A sensor record written that agrees with itself, of a slot that is not read or keeps its sensor. -/
theorem State.SensorLaw.setRank {s : State} (hs : s.SensorLaw) (r : Slot) (k : Rank) (hk : k.SensorLaw)
    (hread : s.monitor.readSlot = some r → s.monitor.discard = false → k.sensor.isSome = true) : (s.setRank r k).SensorLaw := by
  obtain ⟨hranks, hmonitor, hsensor⟩ := hs
  refine ⟨fun q => ?_, hmonitor, fun q hq hd => ?_⟩
  · rw [State.rank_setRank]
    split
    · exact hk
    · exact hranks q
  · rw [State.rank_setRank]
    split
    · next he => exact hread (he ▸ hq) hd
    · exact hsensor q hq hd

/-- A polling state written that agrees with itself and reads a slot with a sensor. -/
theorem State.SensorLaw.setMonitor {s : State} (hs : s.SensorLaw) (m : Monitor) (hm : m.Law)
    (hread : ∀ r ∈ m.readSlot, m.discard = false → (s.rank r).sensor.isSome = true) : (s.setMonitor m).SensorLaw :=
  ⟨hs.1, hm, hread⟩

theorem Rank.initial_sensorLaw : Rank.initial.SensorLaw := by decide

theorem Monitor.initial_law (now : Nat) : (Monitor.initial now).Law := by simp [Monitor.Law, Monitor.initial]

theorem State.initial_sensorLaw (now : Nat) (la lb : LineLevels) (pending : List Instr) :
    (State.initial now la lb pending).SensorLaw := by
  refine ⟨fun r => ?_, Monitor.initial_law now, fun r hr => ?_⟩
  · rw [State.rank_initial]; exact Rank.initial_sensorLaw
  · simp [State.initial, Monitor.initial] at hr

theorem State.endDrain_sensorLaw (s : State) (sda : Bool) : (s.endDrain sda).SensorLaw :=
  State.initial_sensorLaw s.now (s.nego .a).levels (s.nego .b).levels s.pending

theorem State.checkDrain_sensorLaw (s : State) (sda : Bool) (hs : s.SensorLaw) : (s.checkDrain sda).SensorLaw := by
  unfold State.checkDrain
  split
  · exact s.endDrain_sensorLaw sda
  · exact hs

theorem State.writeControl_sensorLaw (s : State) (soft : Bool) (fields : ControlFields) (sda : Bool) (hs : s.SensorLaw) :
    (s.writeControl soft fields sda).SensorLaw := by
  have hfields := (s.withControl_evolves fields).sensorLaw hs
  rw [State.writeControl_eq]
  split
  · exact State.checkDrain_sensorLaw _ sda ((State.draining_evolves _).sensorLaw hfields)
  · exact hfields

theorem State.takeCompletion_sensorLaw (s : State) (c : Chan) (lines : CompletionLines) (hs : s.SensorLaw) :
    (s.takeCompletion c lines).SensorLaw := by
  unfold State.takeCompletion
  split
  · exact hs
  · exact State.checkDrain_sensorLaw _ _ ((State.completion_evolves s c _ _).sensorLaw hs)

/-! ### The outcome of a read -/

theorem State.endRead_sensorLaw (s : State) (hs : s.SensorLaw) : s.endRead.SensorLaw := by
  obtain ⟨_, hpolling, _⟩ := hs.2.1
  exact hs.setMonitor _ ⟨by simp, hpolling, by simp, by simp⟩ (by simp)

/-- A good sample of a slot with a sensor agrees with itself (R56). -/
theorem Rank.withSample_sensorLaw (k : Rank) (t : Temp) (b : Band) (h : k.sensor.isSome = true) : (k.withSample t b).SensorLaw := by
  have hne : k.sensor ≠ none := Option.isSome_iff_ne_none.mp h
  simp [Rank.SensorLaw, Rank.withSample, hne]

/-- A sensor on fallback agrees with itself (R55, R62). -/
theorem Rank.onFallback_sensorLaw (k : Rank) (b : Band) (h : k.sensor.isSome = true) : (k.onFallback b).SensorLaw := by
  have hne : k.sensor ≠ none := Option.isSome_iff_ne_none.mp h
  simp [Rank.SensorLaw, Rank.onFallback, hne, Config.sensorFailureLimit]

theorem State.goodSample_sensorLaw (s : State) (r : Slot) (t : Temp) (hs : s.SensorLaw) (h : (s.rank r).sensor.isSome = true) :
    (s.goodSample r t).SensorLaw :=
  (s.goodSample_quiet r t).sensorLaw (hs.setRank r _ (Rank.withSample_sensorLaw _ t _ h) fun _ _ => h)

theorem State.failedRead_sensorLaw (s : State) (r : Slot) (o : ReadOutcome) (hs : s.SensorLaw) : (s.failedRead r o).SensorLaw := by
  obtain ⟨hsensor, htemp, hfailed, hgood, habsent, hfew⟩ := hs.1 r
  have hcounted : (s.rank r).sensorStatus ≠ .absent →
      ((s.rank r).sensorStatus = .failed → min Config.sensorFailureLimit ((s.rank r).sensorFailures + 1) = 3) →
      ((s.rank r).sensorStatus ≠ .failed → min Config.sensorFailureLimit ((s.rank r).sensorFailures + 1) ≤ 2) →
      (s.setRank r { s.rank r with
        sensorFailures := min Config.sensorFailureLimit ((s.rank r).sensorFailures + 1) }).SensorLaw := by
    intro hnot h3 h2
    refine hs.setRank r _ ⟨hsensor, htemp, fun h => ⟨h3 h, (hfailed h).2⟩, hgood, habsent, h2⟩ fun _ _ => ?_
    exact Option.isSome_iff_ne_none.mpr fun h => hnot (hsensor.mp h)
  have hunsuccessful : (s.rank r).sensorStatus = .unread ∨ (s.rank r).sensorStatus = .good →
      (if min Config.sensorFailureLimit ((s.rank r).sensorFailures + 1) < Config.sensorFailureLimit then
          s.setRank r { s.rank r with sensorFailures := min Config.sensorFailureLimit ((s.rank r).sensorFailures + 1) }
        else ((s.setRank r ((s.rank r).onFallback s.thermal.fallbackBand)).notice (.sensorFailed r (s.rank r).channel o)).handBand r
          (s.rank r).band s.thermal.fallbackBand).SensorLaw := by
    intro hstatus
    have hnot : (s.rank r).sensorStatus ≠ .absent := by obtain h | h := hstatus <;> simp [h]
    have hnotfailed : (s.rank r).sensorStatus ≠ .failed := by obtain h | h := hstatus <;> simp [h]
    split
    · next hlt =>
      refine hcounted hnot (fun h => absurd h hnotfailed) fun _ => ?_
      simp only [Config.sensorFailureLimit] at hlt ⊢
      omega
    · have hsome : (s.rank r).sensor.isSome = true := Option.isSome_iff_ne_none.mpr fun h => hnot (hsensor.mp h)
      exact ((State.Quiet.notice _ _).trans (State.handBand_quiet _ r _ _)).sensorLaw
        (hs.setRank r _ (Rank.onFallback_sensorLaw _ _ hsome) fun _ _ => hsome)
  unfold State.failedRead
  simp only
  split
  · exact hs
  · next hstatus =>
    refine hcounted (by simp [hstatus]) (fun h => ?_) fun h => absurd hstatus h
    simp [(hfailed h).1, Config.sensorFailureLimit]
  · next hstatus => exact hunsuccessful (.inl hstatus)
  · next hstatus => exact hunsuccessful (.inr hstatus)

theorem State.takeOutcome_sensorLaw (s : State) (o : ReadOutcome) (hs : s.SensorLaw) : (s.takeOutcome o).SensorLaw := by
  have hend := s.endRead_sensorLaw hs
  unfold State.takeOutcome
  simp only
  split
  · exact hend
  · next r hr =>
    split
    · exact hend
    · next hd =>
      split
      · exact State.goodSample_sensorLaw _ r _ hend (hs.2.2 r hr (by simpa using hd))
      all_goals exact State.failedRead_sensorLaw _ r _ hend

/-! ### Recovery, attempts and polling -/

theorem State.fallbackSlot_sensorLaw (s : State) (r : Slot) (hs : s.SensorLaw) : (s.fallbackSlot r).SensorLaw := by
  unfold State.fallbackSlot
  simp only
  split
  · next h =>
    exact (State.handBand_quiet _ r _ _).sensorLaw (hs.setRank r _ (Rank.onFallback_sensorLaw _ _ h) fun _ _ => h)
  · exact hs

theorem State.foldl_fallbackSlot_notice_sensorLaw (l : List Slot) (s : State) (b : Notice) (hs : s.SensorLaw) :
    ((l.foldl State.fallbackSlot s).notice b).SensorLaw := by
  induction l generalizing s with
  | nil => exact (State.Quiet.notice s b).sensorLaw hs
  | cons r l ih => exact ih _ (s.fallbackSlot_sensorLaw r hs)

/-- Polling stopped with the read ended (R62). -/
def State.pollingStopped (s : State) : State := s.endRead.setMonitor { s.endRead.monitor with polling := false, pollTimer := none }

theorem State.recoveryFails_eq (s : State) : s.recoveryFails = (allSlots.foldl State.fallbackSlot s.pollingStopped).notice
    (.sensorBusFault (allSlots.countP (fun r => (s.rank r).sensor.isSome))) := rfl

theorem State.recoveryFails_sensorLaw (s : State) (hs : s.SensorLaw) : s.recoveryFails.SensorLaw := by
  have hend := s.endRead_sensorLaw hs
  have hstopped : s.pollingStopped.SensorLaw := hend.setMonitor _ ⟨hend.2.1.1, by simp, hend.2.1.2.2⟩ hend.2.2
  rw [State.recoveryFails_eq]
  exact State.foldl_fallbackSlot_notice_sensorLaw _ _ _ hstopped

theorem State.startRecovery_sensorLaw (s : State) (sda : Bool) (hs : s.SensorLaw) (hbus : s.monitor.bus ≠ .idle) :
    (s.startRecovery sda).SensorLaw := by
  obtain ⟨hidle, hpolling, _⟩ := hs.2.1
  rw [State.startRecovery_eq]
  exact hs.setMonitor _ ⟨by simpa using fun h => hbus (hidle.mpr h), hpolling, by simp, by simp⟩ hs.2.2

theorem State.endPulse_sensorLaw (s : State) (sda : Bool) (hs : s.SensorLaw) (hstopping : s.monitor.stopping = false) :
    (s.endPulse sda).SensorLaw := by
  obtain ⟨⟨hidle, hpolling, hnine, height⟩, hread⟩ := hs.2
  have hpulses := height hstopping
  cases sda with
  | true =>
    rw [State.endPulse_high]
    exact hs.setMonitor _ ⟨hidle, hpolling, by simp only; omega, by simp⟩ hread
  | false =>
    have hcounted : s.monitor.pulses + 1 < 9 → (s.setMonitor { s.monitor with
        pulses := s.monitor.pulses + 1, phaseStart := s.now }).SensorLaw := fun hlt =>
      hs.setMonitor _ ⟨hidle, hpolling, by simp only; omega, fun _ => by simp only; omega⟩ hread
    rw [State.endPulse_low]
    split
    · next hlt => exact hcounted hlt
    · have hsame : (s.setMonitor { s.monitor with pulses := s.monitor.pulses + 1, phaseStart := s.now }).recoveryFails =
          (s.setMonitor { s.monitor with phaseStart := s.now }).recoveryFails := rfl
      rw [hsame]
      exact State.recoveryFails_sensorLaw _ (hs.setMonitor _ ⟨hidle, hpolling, hnine, height⟩ hread)

theorem State.endAttempt_sensorLaw (s : State) (e : AttemptEnding) (hs : s.SensorLaw) (hbus : s.monitor.bus ≠ .idle) :
    (s.endAttempt e).SensorLaw := by
  have hretry : s.startRetry.SensorLaw := by
    obtain ⟨hidle, hrest⟩ := hs.2.1
    exact hs.setMonitor _ ⟨by simpa using fun h => hbus (hidle.mpr h), hrest⟩ hs.2.2
  unfold State.endAttempt
  split
  · exact s.startRecovery_sensorLaw _ hs hbus
  · exact s.takeOutcome_sensorLaw _ hs
  all_goals
    split
    · exact hretry
    · exact s.takeOutcome_sensorLaw _ hs

/-- The slot a poll chooses has a sensor (R52). -/
theorem State.pollChoice_sensor {s : State} {r : Slot} (h : s.pollChoice = some r) : (s.rank r).sensor.isSome = true := by
  have := List.find?_some h
  simp only [Bool.and_eq_true] at this
  exact this.2

theorem State.poll_sensorLaw (s : State) (scl sda : Bool) (hs : s.SensorLaw) (hpolling : s.monitor.polling = true) :
    (s.poll scl sda).SensorLaw := by
  obtain ⟨⟨hidle, -, hpulses⟩, hread⟩ := hs.2
  have htimer : (s.setMonitor { s.monitor with pollTimer := some (s.now + s.thermal.pollPeriod) }).SensorLaw :=
    hs.setMonitor _ ⟨hidle, by simpa using hpolling, hpulses⟩ hread
  unfold State.poll
  simp only
  split
  · split
    · exact htimer
    · next r hr =>
      rw [State.startRead_eq]
      refine htimer.setMonitor _ ⟨?_, htimer.2.1.2.1, ?_⟩ fun q hq _ => ?_
      · cases sda <;> simp
      · cases sda
        · simp
        · exact hpulses
      · simp only [Option.mem_def, Option.some.injEq] at hq
        exact hq ▸ State.pollChoice_sensor hr
  · exact htimer

theorem State.attemptEnds_sensorLaw (s : State) (e : AttemptEnding) (hs : s.SensorLaw) : (s.attemptEnds e).SensorLaw := by
  have hended : s.monitor.bus ≠ .idle → ∀ due, ((s.reach due).endAttempt e).SensorLaw := fun hbus due =>
    State.endAttempt_sensorLaw (s.reach due) e hs hbus
  unfold State.attemptEnds
  split
  · next hbus => exact hended (by simp [hbus]) _
  · next hbus => exact hended (by simp [hbus]) _
  all_goals exact hs

theorem State.clockTimeout_sensorLaw (s : State) (released : Nat) (sda : Bool) (hs : s.SensorLaw) :
    (s.clockTimeout released sda).SensorLaw := by
  have hstarted : s.monitor.bus ≠ .idle → ∀ due, ((s.reach due).startRecovery sda).SensorLaw := fun hbus due =>
    State.startRecovery_sensorLaw (s.reach due) sda hs hbus
  unfold State.clockTimeout
  simp only
  split
  · next hbus => exact hstarted (by simp [hbus]) _
  · next hbus => exact hstarted (by simp [hbus]) _
  · exact State.recoveryFails_sensorLaw (s.reach _) hs
  · exact hs

theorem State.pulseEnds_sensorLaw (s : State) (stretch : Nat) (sda : Bool) (hs : s.SensorLaw) :
    (s.pulseEnds stretch sda).SensorLaw := by
  unfold State.pulseEnds
  simp only
  split
  · split
    · exact State.takeOutcome_sensorLaw (s.reach _) _ hs
    · next h => exact State.endPulse_sensorLaw (s.reach _) sda hs (by simpa using h)
  all_goals exact hs

/-! ### Commands of sensors -/

/-- A slot whose sensor is configured or removed is read no further (R8, R53). -/
theorem State.discardRead_sensorLaw (s : State) (r : Slot) (hs : s.SensorLaw) : (s.discardRead r).SensorLaw ∧
    ((s.discardRead r).monitor.readSlot = some r → (s.discardRead r).monitor.discard = true) := by
  unfold State.discardRead
  split
  · exact ⟨hs.setMonitor _ hs.2.1 (by simp), by simp⟩
  · next h => exact ⟨hs, fun h' => absurd h' h⟩

theorem State.configure_sensorLaw (s : State) (r : Slot) (c : Option Chan) (g : Option GroupId) (a : Option (BitVec 7))
    (hs : s.SensorLaw) : (s.configure r c g a).SensorLaw := by
  obtain ⟨hlaw, hdiscarded⟩ := State.discardRead_sensorLaw _ r
    ((State.Quiet.rank s r { s.rank r with state := .offline, channel := c, group := g }).sensorLaw hs)
  unfold State.configure State.configureSensor
  simp only
  split
  · refine hlaw.setRank r _ (by simp [Rank.SensorLaw]) fun hr hd => ?_
    simp [hdiscarded hr] at hd
  · refine (State.changeBand_quiet _ r _).sensorLaw (hlaw.setRank r _ (by simp [Rank.SensorLaw]) fun _ _ => rfl)

theorem State.removeRank_sensorLaw (s : State) (r : Slot) (hs : s.SensorLaw) :
    ((s.discardRead r).setRank r Rank.initial).SensorLaw := by
  obtain ⟨hlaw, hdiscarded⟩ := s.discardRead_sensorLaw r hs
  refine hlaw.setRank r _ Rank.initial_sensorLaw fun hr hd => ?_
  simp [hdiscarded hr] at hd

theorem State.resumePolling_sensorLaw (s : State) (hs : s.SensorLaw) : s.resumePolling.SensorLaw := by
  unfold State.resumePolling
  split
  · exact hs
  · obtain ⟨hidle, -, hpulses⟩ := hs.2.1
    exact hs.setMonitor _ ⟨hidle, by simp, hpulses⟩ hs.2.2

theorem State.rankCommand_sensorLaw (s : State) (tag : Tag) (kind : CommandKind) (checks : List (Nat × Bool)) (slot : BitVec 8)
    (body : Slot → State → State) (hs : s.SensorLaw) (hbody : ∀ r, (body r s).SensorLaw) :
    (s.rankCommand tag kind checks slot body).SensorLaw := by
  have hanswer : ∀ st d, (s.complete tag st d).SensorLaw := fun st d => (State.Quiet.complete s tag st d).sensorLaw hs
  unfold State.rankCommand
  split
  · exact hanswer _ _
  · split
    · exact hanswer _ _
    · split
      · exact hanswer _ _
      · exact hbody _

theorem takeCommand_sensorLaw (tag : Tag) (c : HostCommand) (s : State) (hs : s.SensorLaw) : (takeCommand tag c s).SensorLaw := by
  have hanswer : ∀ (u : State) (st : Status) (d : Detail), u.SensorLaw → (u.complete tag st d).SensorLaw := fun u st d =>
    (State.Quiet.complete u tag st d).sensorLaw
  by_cases hplain : ofSensors c = true
  · cases c <;> simp only [ofSensors, Bool.false_eq_true] at hplain
    case configureRank slot channel group address present =>
      refine s.rankCommand_sensorLaw tag _ _ _ _ hs fun r => ?_
      simp only
      split
      · exact hanswer s _ _ hs
      · exact hanswer _ _ _ (s.configure_sensorLaw r _ _ _ hs)
    case removeRank slot =>
      exact s.rankCommand_sensorLaw tag _ _ _ _ hs fun r => hanswer _ _ _ (s.removeRank_sensorLaw r hs)
    case setThermal f =>
      simp only [takeCommand, runSetThermal]
      split
      · exact hanswer s _ _ hs
      · have htaken : State.Quiet False { s with thermal := thermalOf f } (allSlots.foldl State.takeFallback _) :=
          .foldl _ _ _ State.takeFallback_quiet
        exact hanswer _ _ _ (State.resumePolling_sensorLaw _ (htaken.sensorLaw hs))
  · exact (takeCommand_evolves tag c hplain (fun _ => trivial) s).sensorLaw hs

theorem State.submit_sensorLaw (s : State) (tag : Tag) (c : Option HostCommand) (hs : s.SensorLaw) : (s.submit tag c).SensorLaw := by
  obtain ⟨status, -, -, h⟩ | ⟨x, rfl, -, h⟩ := s.submit_cases tag c
  · rw [h]; exact hs
  · rw [h]; exact takeCommand_sensorLaw tag x _ hs

theorem State.writeRegister_sensorLaw (s : State) (offset : Nat) (w : WindowWrite) (hs : s.SensorLaw) :
    (s.writeRegister offset w).SensorLaw := by
  unfold State.writeRegister
  simp only
  split_ifs
  · exact hs
  · exact s.writeControl_sensorLaw _ _ _ hs
  · exact s.submit_sensorLaw _ _ hs
  · exact hs
  · exact hs

theorem hostEffect_sensorLaw (tag : Tag) (c : HostCommand) (s : State) (hs : s.SensorLaw) : (hostEffect tag c s).SensorLaw :=
  State.submit_sensorLaw _ tag (some c) ((s.setStaging_evolves (stageRecord tag c s.staging)).sensorLaw hs)

theorem effectOf_sensorLaw (i : Instr) (s : State) (hs : s.SensorLaw) : (effectOf i s).SensorLaw := by
  by_cases hsensor : sensorEvent i = true
  swap
  · exact (effectOf_evolves i hsensor (fun _ => trivial) s).sensorLaw hs
  cases i <;> simp only [sensorEvent, Bool.false_eq_true] at hsensor <;> simp only [effectOf]
  case unknownCommand word0 => exact State.submit_sensorLaw _ _ _ ((s.setStaging_evolves (s.staging.set 0 word0)).sensorLaw hs)
  case softReset fields sda => exact s.writeControl_sensorLaw _ _ _ hs
  case registerWrite offset write => exact s.writeRegister_sensorLaw _ _ hs
  case taskCompletion c lines =>
    cases (s.engine c).completion with
    | none => exact hs
    | some due => exact State.takeCompletion_sensorLaw (s.reach due) c lines hs
  case pollTimerExpiry scl sda =>
    cases htimer : s.monitor.pollTimer with
    | none => exact hs
    | some due => exact State.poll_sensorLaw (s.reach due) scl sda hs (hs.2.1.2.1.mpr (by simp [htimer]))
  case attemptEnd e => exact s.attemptEnds_sensorLaw e hs
  case clockStretchTimeout released sda => exact s.clockTimeout_sensorLaw released sda hs
  case recoveryPulse stretch sda => exact s.pulseEnds_sensorLaw stretch sda hs
  all_goals exact hostEffect_sensorLaw _ _ s hs

/-- Settles O59: the effect of every command keeps the law, and neither the end of an event nor the clock touches a sensor. -/
theorem sensorLawKept : Obligations.SensorLawKept := by
  intro s t h hs
  obtain rfl | ⟨i, rest, -, hi⟩ := step_cases s t h
  · exact hs
  · obtain rfl | rfl | ⟨la, lb, rfl⟩ | ⟨-, rfl⟩ := exec_cases i _ t hi
    · exact hs
    · exact State.initial_sensorLaw s.now (s.nego .a).levels (s.nego .b).levels rest
    · exact State.initial_sensorLaw s.now la lb rest
    · exact (State.settle_evolves _).sensorLaw (effectOf_sensorLaw i { s with pending := rest } hs)

end Sys2Proof.Machine
end

section
/-! SUPPORT and the proof of O57: the handshake (R133 to R151, R184). What each transition of a negotiator and its engine makes of the
channel's law, what a selection leaves of both, and the drain that ends where no task is in flight. -/

namespace Sys2Proof.Machine

-- Proofs are elaborated one after the other, which bounds the memory a compile reserves.
set_option Elab.async false

/-! ### Selections -/

theorem State.planFitting_eq_some_iff {s : State} {c : Chan} {n d : Nat} {ops : List MaintOp} {p : Plan} :
    s.planFitting c n d ops = some p ↔ d ≤ (s.engine c).budget ∧ p = { n := n, duration := d, ops := ops, instant := false } := by
  unfold State.planFitting
  split
  · next h => simp [h, eq_comm]
  · next h => simp [h]

/-- Refreshes that fit a budget beside an overhead fit it (R31). -/
theorem add_mul_le_of_le_fitting {budget overhead busy n : Nat} (hpos : 1 ≤ n) (h : n ≤ fitting budget overhead busy) :
    overhead + n * busy ≤ budget := by
  unfold fitting at h
  split at h
  · have := (Nat.mul_le_mul_right busy h).trans (Nat.div_mul_le_self (budget - overhead) busy)
    omega
  · omega

theorem State.planRefresh_eq_some_iff {s : State} {c : Chan} {r : Slot} {p : Plan} : s.planRefresh c r = some p ↔
    1 ≤ p.n ∧ p.n = min (min (s.rank r).owed (fitting (s.engine c).budget (s.overhead r) s.timing.refreshBusy)) s.policy.postponeLimit ∧
      p.duration = s.overhead r + p.n * s.timing.refreshBusy ∧ p.ops = wrapNap (s.napping r) (List.replicate p.n .refresh) ∧
      p.instant = false := by
  obtain ⟨n, d, ops, instant⟩ := p
  unfold State.planRefresh
  simp only
  split
  · next h =>
    rw [Option.some.injEq, Plan.mk.injEq]
    constructor
    · rintro ⟨rfl, rfl, rfl, rfl⟩
      exact ⟨h, rfl, rfl, rfl, rfl⟩
    · rintro ⟨-, rfl, rfl, rfl, rfl⟩
      exact ⟨rfl, rfl, rfl, rfl⟩
  · next h =>
    constructor
    · intro hp; cases hp
    · rintro ⟨hn, rfl, -⟩; exact absurd hn h

theorem State.planRefreshNow_eq_some_iff {s : State} {c : Chan} {r : Slot} {count : Nat} {p : Plan} :
    s.planRefreshNow c r count = some p ↔ (s.hostRefreshes r count = 0 ∧ p = planLostPurpose) ∨
      (s.hostRefreshes r count ≠ 0 ∧ s.overhead r + s.hostRefreshes r count * s.timing.refreshBusy ≤ (s.engine c).budget ∧
        p = { n := s.hostRefreshes r count, duration := s.overhead r + s.hostRefreshes r count * s.timing.refreshBusy
              ops := wrapNap (s.napping r) (List.replicate (s.hostRefreshes r count) .refresh), instant := false }) := by
  unfold State.planRefreshNow planLostPurpose
  simp only
  split
  · next h => simp [h, eq_comm]
  · next h =>
    split
    · next hd => simp [h, hd, eq_comm]
    · next hd => simp [h, hd]

theorem State.planDeepEnter_eq (s : State) (c : Chan) (r : Slot) : s.planDeepEnter c r =
    s.planFitting c (s.rank r).owed
      ((if s.napping r then s.timing.napExit else 0) + ((s.rank r).owed * s.timing.refreshBusy + s.timing.deepEntry))
      ((if s.napping r then [.napOut] else []) ++ (List.replicate (s.rank r).owed MaintOp.refresh ++ [.deepIn])) := by
  unfold State.planDeepEnter
  simp only
  split
  · rfl
  · simp

/-- A plan's duration fits the budget (R31, R37, R154). -/
theorem State.planTask_fits {s : State} {c : Chan} {t : Task} {p : Plan} (h : s.planTask c t = some p) :
    p.duration ≤ (s.engine c).budget := by
  have hfitting : ∀ {n d ops}, s.planFitting c n d ops = some p → p.duration ≤ (s.engine c).budget := by
    intro n d ops hp
    obtain ⟨hd, rfl⟩ := State.planFitting_eq_some_iff.mp hp
    exact hd
  have hlost : some planLostPurpose = some p → p.duration ≤ (s.engine c).budget := by
    intro hp; cases hp; exact Nat.zero_le _
  unfold State.planTask at h
  simp only at h
  split at h
  · cases h
  · split at h
    all_goals split_ifs at h
    · obtain ⟨hpos, hn, hd, -, -⟩ := State.planRefresh_eq_some_iff.mp h
      rw [hd]
      exact add_mul_le_of_le_fitting hpos (hn ▸ (Nat.min_le_left _ _).trans (Nat.min_le_right _ _))
    · obtain ⟨-, rfl⟩ | ⟨-, hd, rfl⟩ := State.planRefreshNow_eq_some_iff.mp h
      · exact Nat.zero_le _
      · exact hd
    · exact hfitting h
    · exact hfitting h
    · exact hlost h
    · exact hfitting h
    · exact hlost h
    · exact hfitting h
    · exact hfitting (State.planDeepEnter_eq s c t.rank ▸ h)
    · exact hfitting h

/-- The engine of a channel with a task begun on it (R159). -/
def Engine.begun (e : Engine) (now : Nat) (f : Flight) (sample : Option Nat) (pointer : Slot) : Engine :=
  { e with
    state := .busy, budget := e.budget - f.duration, flight := some f, completion := some (now + f.duration), sample := sample
    pointer := pointer }

/-- What a selection leaves: a task begun within the budget and the negotiators as they were, or the engine in STANDBY and the negotiator
RELEASING with cause DONE (R153, R155). -/
structure State.Selected (s : State) (c : Chan) (t : State) : Prop where
  frame : t = { s with
    ranks := t.ranks, groups := t.groups, queues := t.queues, outstanding := t.outstanding, records := t.records, lost := t.lost
    negotiators := t.negotiators, engines := t.engines }
  outcome : (∃ f sample pointer, f.duration ≤ (s.engine c).budget ∧ t.negotiators = s.negotiators ∧
      t.engines = s.engines.set c ((s.engine c).begun s.now f sample pointer)) ∨
    (t.negotiators = (s.enterReleasing c .done).negotiators ∧ t.engines = s.engines.set c { s.engine c with state := .standby })

theorem State.Selected.of_quiet {free : Prop} {s t u : State} {c : Chan} (hq : s.Quiet free t) (h : t.Selected c u) : s.Selected c u := by
  obtain ⟨hframe, houtcome⟩ := h
  refine ⟨?_, ?_⟩
  · rw [hframe, hq.frame]
  · have hnow : t.now = s.now := by rw [hq.frame]
    have hnego : (t.enterReleasing c .done).negotiators = (s.enterReleasing c .done).negotiators := by
      simp only [State.enterReleasing, State.setNego, hq.nego_eq, hnow, hq.timing_eq, hq.negotiators_eq]
    rwa [hq.engine_eq, hq.engines_eq, hq.negotiators_eq, hnow, hnego] at houtcome

theorem State.reportDone_selected (s : State) (c : Chan) : s.Selected c (s.reportDone c) := ⟨rfl, .inr ⟨rfl, rfl⟩⟩

theorem State.startTask_selected {s : State} {c : Chan} {t : Task} {p : Plan} (h : s.planTask c t = some p) :
    s.Selected c (s.startTask c t p) := by
  have hfits := State.planTask_creditFits h
  have hstart : ∀ u : State, u.CreditFits t.rank t.kind p.n → u.Quiet False (u.ownersStart t.rank t.kind p.n) := fun u hu =>
    State.ownersStart_quiet u t.rank t.kind p.n hu
  unfold State.startTask
  simp only
  have hq := hstart _ (show (State.beginFlight (s.mapTasks c fun u => if u = t then { u with executing := true } else u) c
    { rank := t.rank, kind := .task t.kind, n := p.n, duration := p.duration, ops := p.ops
      napInHeld := (s.sampleTime t.rank t.kind).isSome } (s.sampleTime t.rank t.kind)).CreditFits t.rank t.kind p.n from hfits)
  refine ⟨by rw [hq.frame]; rfl, .inl ⟨_, _, _, State.planTask_fits h, hq.negotiators_eq, hq.engines_eq⟩⟩

/-- The fill task a selection begins for a rank (R40). -/
def State.fillFlight (s : State) (c : Chan) (r : Slot) : Flight :=
  { rank := r, kind := .fill, n := s.fillCount c r, duration := s.fillCount c r * s.timing.refreshBusy
    ops := List.replicate (s.fillCount c r) .refresh, napInHeld := false }

theorem State.startFill_eq (s : State) (c : Chan) (r : Slot) : s.startFill c r =
    (s.setEngine c ((s.engine c).begun s.now (s.fillFlight c r) none (r + 1))).creditAhead r (s.fillCount c r) := by
  simp [State.startFill, State.beginFlight, Engine.begun, State.fillFlight]

theorem State.fillFlight_fits (s : State) (c : Chan) (r : Slot) : (s.fillFlight c r).duration ≤ (s.engine c).budget := by
  refine (Nat.mul_le_mul_right _ (Nat.min_le_right _ _)).trans ?_
  simpa [fitting] using Nat.div_mul_le_self (s.engine c).budget s.timing.refreshBusy

theorem State.startFill_selected (s : State) (c : Chan) (r : Slot) : s.Selected c (s.startFill c r) := by
  have hq := State.creditAhead_quiet (free := False)
    (s.setEngine c ((s.engine c).begun s.now (s.fillFlight c r) none (r + 1))) r (s.fillCount c r) (Nat.min_le_left _ _)
  rw [State.startFill_eq]
  exact ⟨by rw [hq.frame]; rfl, .inl ⟨_, _, _, s.fillFlight_fits c r, hq.negotiators_eq, hq.engines_eq⟩⟩

/-- What the selection of a channel leaves. -/
theorem State.select_selected (c : Chan) (fuel : Nat) (s : State) : s.Selected c (State.select c fuel s) := by
  induction fuel generalizing s with
  | zero => exact s.reportDone_selected c
  | succ fuel ih =>
    unfold State.select
    split
    · next t p h =>
      split
      · exact (ih _).of_quiet (s.finishInstant_quiet (free := False) c t)
      · exact State.startTask_selected (State.findPlan_some h).2
    · split
      · exact s.startFill_selected c _
      · exact s.reportDone_selected c

/-- What the selection of a channel leaves, with its engine's state named before it. -/
theorem State.runSelection_selected (s : State) (c : Chan) :
    (s.setEngine c { s.engine c with state := .active }).Selected c (s.runSelection c) := State.select_selected c _ _

/-- What an engine says of itself: a task is in flight exactly in BUSY, with its timers, and a channel reset waits for it (R150, R166). -/
def Engine.Law (e : Engine) : Prop :=
  e.state ≠ .active ∧ (e.state = .busy ↔ e.flight.isSome = true) ∧ (e.completion.isSome = true ↔ e.flight.isSome = true) ∧
    (e.sample.isSome = true → e.flight.isSome = true) ∧ (e.resetMark = true → e.flight.isSome = true)

/-! ### The law of a channel, stage by stage -/

section Stages

variable {n : Negotiator} {e : Engine} {drain : Bool}

theorem channelLaw_idle_iff (h : n.state = .idle) : ChannelLaw n e drain ↔
    (n.grantTimer = none ∧ n.escalated = false ∧ n.releaseTimer = none ∧ n.releaseMark = false ∧ n.lost = false ∧ n.qurg = false ∧
      n.qreq = false ∧ (e.flight.isSome = true → e.resetMark = true ∨ drain = true)) ∧ e.Law := by
  simp only [ChannelLaw, Negotiator.StageLaw, Engine.Law, h]
  grind [Option.isSome_iff_ne_none]

theorem channelLaw_requesting_iff (h : n.state = .requesting) : ChannelLaw n e drain ↔
    (n.grantTimer.isSome = true ∧ (n.escalated = true → n.qurg = true) ∧ n.releaseTimer = none ∧ n.releaseMark = false ∧ n.lost = false ∧
      n.qreq = true ∧ n.qgnt = false ∧ e.flight = none ∧ drain = false) ∧ e.Law := by
  simp only [ChannelLaw, Negotiator.StageLaw, Engine.Law, h]
  grind [Option.isSome_iff_ne_none]

theorem channelLaw_stalled_iff (h : n.state = .stalled) : ChannelLaw n e drain ↔
    (n.grantTimer = none ∧ n.escalated = false ∧ n.releaseTimer = none ∧ n.releaseMark = false ∧ n.lost = false ∧ n.qurg = true ∧
      n.qreq = true ∧ n.qgnt = false ∧ e.flight = none ∧ drain = false) ∧ e.Law := by
  simp only [ChannelLaw, Negotiator.StageLaw, Engine.Law, h]
  grind [Option.isSome_iff_ne_none]

theorem channelLaw_opened_iff (h : n.state = .opened) : ChannelLaw n e drain ↔
    (n.grantTimer = none ∧ n.escalated = false ∧ n.releaseTimer = none ∧ n.releaseMark = false ∧ n.lost = false ∧
      n.qreq = true ∧ n.qgnt = true ∧ e.flight.isSome = true ∧ e.resetMark = false ∧ drain = false) ∧ e.Law := by
  simp only [ChannelLaw, Negotiator.StageLaw, Engine.Law, h]
  grind [Option.isSome_iff_ne_none]

theorem channelLaw_draining_iff (h : n.state = .draining) : ChannelLaw n e drain ↔
    (n.grantTimer = none ∧ n.escalated = false ∧ n.releaseTimer = none ∧ n.releaseMark = false ∧ (n.qurg = true → n.qreq = true) ∧
      (n.lost = true → n.qreq = false) ∧ (n.lost = false → n.qreq = true ∧ n.qgnt = true) ∧ e.flight.isSome = true ∧
      e.resetMark = false ∧ drain = false) ∧ e.Law := by
  simp only [ChannelLaw, Negotiator.StageLaw, Engine.Law, h]
  grind [Option.isSome_iff_ne_none]

theorem channelLaw_releasing_iff (h : n.state = .releasing) : ChannelLaw n e drain ↔
    (n.grantTimer = none ∧ n.escalated = false ∧ n.releaseTimer.isSome = true ∧ n.lost = false ∧ n.qurg = false ∧ n.qreq = false ∧
      n.qgnt = true ∧ (e.flight.isSome = true → e.resetMark = true ∨ drain = true)) ∧ e.Law := by
  simp only [ChannelLaw, Negotiator.StageLaw, Engine.Law, h]
  grind [Option.isSome_iff_ne_none]

end Stages

/-- The conditions taken at the end of an event keep the law (R134, R136, R139). -/
theorem ChannelLaw.takes {n : Negotiator} {e : Engine} {drain : Bool} (h : ChannelLaw n e drain) {urgency request : Bool} (due : Nat)
    (hrequest : request = true → e.resetMark = false ∧ drain = false) : ChannelLaw (n.takes urgency request due) e drain := by
  unfold Negotiator.takes
  split
  · next hi =>
    rw [channelLaw_idle_iff hi.1] at h
    refine (channelLaw_requesting_iff rfl).mpr ?_
    grind [Option.isSome_iff_ne_none]
  · split
    · next hu =>
      obtain ⟨hs | hs, -⟩ := hu
      · rw [channelLaw_requesting_iff hs] at h
        refine (channelLaw_requesting_iff (by exact hs)).mpr ?_
        grind [Option.isSome_iff_ne_none]
      · rw [channelLaw_opened_iff hs] at h
        refine (channelLaw_opened_iff (by exact hs)).mpr ?_
        grind [Option.isSome_iff_ne_none]
    · exact h


/-- A negotiator that drops its request for a reset or a drain, a RELEASING period ending at `due` (R146, R147). -/
def Negotiator.dropped (n : Negotiator) (cause : ReleaseCause) (due : Nat) : Negotiator :=
  if n.qgnt = false then { n with qreq := false, qurg := false, grantTimer := none, escalated := false, state := .idle, lost := false }
  else if n.state = .releasing then { n with qreq := false, qurg := false, grantTimer := none, escalated := false, cause := cause }
  else { n with
    qreq := false, qurg := false, grantTimer := none, escalated := false, state := .releasing, lost := false
    releaseTimer := some due, releaseMark := false, cause := cause }

/-- A dropped request keeps the law beside an engine whose task in flight runs out in a reset or a drain. -/
theorem ChannelLaw.dropped {n : Negotiator} {e e' : Engine} {drain drain' : Bool} (h : ChannelLaw n e drain) (cause : ReleaseCause)
    (due : Nat) (hengine : e'.Law) (hrun : e'.flight.isSome = true → e'.resetMark = true ∨ drain' = true) :
    ChannelLaw (n.dropped cause due) e' drain' := by
  unfold Negotiator.dropped
  split
  · next hlow =>
    refine (channelLaw_idle_iff rfl).mpr ?_
    have hnot : n.state ≠ .releasing := fun hs => by
      rw [channelLaw_releasing_iff hs] at h
      grind
    grind [Option.isSome_iff_ne_none]
  · split
    · next hs =>
      refine (channelLaw_releasing_iff (by exact hs)).mpr ?_
      rw [channelLaw_releasing_iff hs] at h
      grind [Option.isSome_iff_ne_none]
    · refine (channelLaw_releasing_iff rfl).mpr ?_
      grind [Option.isSome_iff_ne_none]

/-- A grant lost leaves the task in flight to run out (R144). -/
theorem ChannelLaw.lost {n : Negotiator} {e : Engine} {drain : Bool} (h : ChannelLaw n e drain)
    (hs : n.state = .opened ∨ n.state = .draining) :
    ChannelLaw { n with qgnt := false, state := .draining, lost := true, qreq := false, qurg := false } e drain := by
  refine (channelLaw_draining_iff rfl).mpr ?_
  obtain hs | hs := hs
  · rw [channelLaw_opened_iff hs] at h; grind
  · rw [channelLaw_draining_iff hs] at h; grind

/-! ### The law of both channels -/

theorem State.handshakeLaw_iff (s : State) : s.HandshakeLaw ↔
    (∀ c : Chan, ChannelLaw (s.nego c) (s.engine c) s.drain) ∧ (s.drain = true → ∃ c : Chan, (s.engine c).flight.isSome = true) := by
  refine ⟨fun ⟨ha, hb, hd⟩ => ⟨fun c => by cases c; exacts [ha, hb], fun h => ?_⟩, fun ⟨hc, hd⟩ => ⟨hc .a, hc .b, fun h => ?_⟩⟩
  · exact (hd h).elim (fun h => ⟨.a, h⟩) fun h => ⟨.b, h⟩
  · obtain ⟨c, hf⟩ := hd h
    cases c
    · exact .inl hf
    · exact .inr hf

theorem State.HandshakeLaw.channel {s : State} (h : s.HandshakeLaw) (c : Chan) : ChannelLaw (s.nego c) (s.engine c) s.drain :=
  (s.handshakeLaw_iff.mp h).1 c

theorem State.nego_of_set {s t : State} {c d : Chan} {n : Negotiator} (h : t.negotiators = s.negotiators.set c n) :
    t.nego d = if d = c then n else s.nego d := by
  rw [State.nego, h, PerChan.get_set]; rfl

theorem State.engine_of_set {s t : State} {c d : Chan} {e : Engine} (h : t.engines = s.engines.set c e) :
    t.engine d = if d = c then e else s.engine d := by
  rw [State.engine, h, PerChan.get_set]; rfl

/-- What an event does to one channel keeps the law where that channel keeps its own and a drain keeps a task in flight. -/
theorem State.HandshakeLaw.update {s t : State} (h : s.HandshakeLaw) {c : Chan} {n : Negotiator} {e : Engine}
    (hnego : t.negotiators = s.negotiators.set c n) (hengine : t.engines = s.engines.set c e) (hdrain : t.drain = s.drain)
    (hchannel : ChannelLaw n e s.drain) (hrun : s.drain = true → (s.engine c).flight.isSome = true → e.flight.isSome = true) :
    t.HandshakeLaw := by
  rw [State.handshakeLaw_iff] at h ⊢
  obtain ⟨hlaw, hlast⟩ := h
  refine ⟨fun d => ?_, fun hd => ?_⟩
  · rw [State.nego_of_set hnego, State.engine_of_set hengine, hdrain]
    split
    · exact hchannel
    · exact hlaw d
  · rw [hdrain] at hd
    obtain ⟨d, hf⟩ := hlast hd
    refine ⟨d, ?_⟩
    rw [State.engine_of_set hengine]
    split
    · next hdc => subst hdc; exact hrun hd hf
    · exact hf

/-- What an event does to one negotiator keeps the law where its channel keeps its own. -/
theorem State.HandshakeLaw.updateNego {s t : State} (h : s.HandshakeLaw) {c : Chan} {n : Negotiator}
    (hnego : t.negotiators = s.negotiators.set c n) (hengine : t.engines = s.engines) (hdrain : t.drain = s.drain)
    (hchannel : ChannelLaw n (s.engine c) s.drain) : t.HandshakeLaw :=
  h.update hnego (e := s.engine c) (by rw [hengine, State.engine, PerChan.set_get]) hdrain hchannel fun _ hf => hf

theorem State.HandshakeLaw.of_eq {s t : State} (h : s.HandshakeLaw) (hnego : t.negotiators = s.negotiators)
    (hengine : t.engines = s.engines) (hdrain : t.drain = s.drain) : t.HandshakeLaw :=
  h.updateNego (c := .a) (n := s.nego .a) (by rw [hnego, State.nego, PerChan.set_get]) hengine hdrain (h.channel .a)

/-- Moves that are not of the lines leave the negotiators, the engines and the drain bit. -/
theorem State.Evolves.lines_eq {free : Prop} {s t : State} (h : s.Evolves free False t) :
    t.negotiators = s.negotiators ∧ t.engines = s.engines ∧ t.drain = s.drain := by
  refine h.keeps (P := fun u => u.negotiators = s.negotiators ∧ u.engines = s.engines ∧ u.drain = s.drain) (fun u v hmove hu => ?_)
    ⟨rfl, rfl, rfl⟩
  cases hmove with
  | write hw =>
    have hq := State.Quiet.single hw
    rw [hq.negotiators_eq, hq.engines_eq, hq.drain_eq]
    exact hu
  | nego _ _ h | engine _ _ h | drain h | reset _ _ _ _ _ _ _ h => exact h.elim
  | _ => exact hu

theorem State.Evolves.handshakeLaw {free : Prop} {s t : State} (h : s.Evolves free False t) (hs : s.HandshakeLaw) : t.HandshakeLaw :=
  have ⟨hn, he, hd⟩ := h.lines_eq
  hs.of_eq hn he hd

theorem State.settle_handshakeLaw {s : State} (h : s.HandshakeLaw) : s.settle.HandshakeLaw := by
  have hrest : s.settle.engines = s.engines ∧ s.settle.drain = s.drain := by rw [State.settle_frame]; exact ⟨rfl, rfl⟩
  rw [State.handshakeLaw_iff] at h ⊢
  obtain ⟨hlaw, hlast⟩ := h
  have hengine : ∀ c, s.settle.engine c = s.engine c := fun c => by rw [State.engine, hrest.1]; rfl
  refine ⟨fun c => ?_, fun hd => ?_⟩
  · rw [State.nego_settle, hengine, hrest.2]
    refine (hlaw c).takes _ fun hrequest => ?_
    have hreports := (State.requestCondition_iff s c).mp hrequest
    exact ⟨hreports.1, hreports.2.1⟩
  · obtain ⟨c, hf⟩ := hlast (hrest.2 ▸ hd)
    exact ⟨c, by rw [hengine]; exact hf⟩

theorem State.handshakeLaw_initial (now : Nat) (la lb : LineLevels) (pending : List Instr) (inReset : Bool) (readData : Word) (m : Monitor) :
    ({ State.initial now la lb pending with inReset := inReset, readData := readData, monitor := m } : State).HandshakeLaw :=
  ⟨channelLaw_initial la, channelLaw_initial lb, fun h => Bool.noConfusion h⟩

/-! ### The handshake's events -/

theorem State.stall_handshakeLaw {s : State} (h : s.HandshakeLaw) {c : Chan} (hs : (s.nego c).state = .requesting)
    (hurgent : (s.nego c).qurg = true) (x : Bool) : (s.stall c x).HandshakeLaw := by
  have hc := (channelLaw_requesting_iff hs).mp (h.channel c)
  unfold State.stall
  refine h.updateNego (c := c) (n := { s.nego c with state := .stalled, grantTimer := none, escalated := false })
    (by rw [State.notice_frame]; rfl) (by rw [State.notice_frame]; rfl) (by rw [State.notice_frame]; rfl) ?_
  exact (channelLaw_stalled_iff rfl).mpr (by grind)

theorem State.grantExpiry_handshakeLaw {s : State} (h : s.HandshakeLaw) {c : Chan} (hs : (s.nego c).state = .requesting) :
    (s.grantExpiry c).HandshakeLaw := by
  have hc := (channelLaw_requesting_iff hs).mp (h.channel c)
  unfold State.grantExpiry
  simp only
  split
  · next he => exact State.stall_handshakeLaw h hs (hc.1.2.1 he) true
  · split
    · next hu => exact State.stall_handshakeLaw h hs hu false
    · exact h.updateNego rfl rfl rfl ((channelLaw_requesting_iff (by exact hs)).mpr (by grind))

theorem State.releaseExpiry_handshakeLaw {s : State} (h : s.HandshakeLaw) {c : Chan} (hs : (s.nego c).state = .releasing) :
    (s.releaseExpiry c).HandshakeLaw := by
  have hc := (channelLaw_releasing_iff hs).mp (h.channel c)
  have hnew : (s.setNego c { s.nego c with releaseTimer := some (s.now + s.timing.releaseWait), releaseMark := true }).HandshakeLaw :=
    h.updateNego rfl rfl rfl ((channelLaw_releasing_iff (by exact hs)).mpr (by grind))
  unfold State.releaseExpiry
  simp only
  split
  · exact hnew
  · exact (State.Evolves.notice (free := False) _ _).handshakeLaw hnew

@[simp] theorem State.nego_of_notice (s : State) (b : Notice) (c : Chan) : (s.notice b).nego c = s.nego c := by
  rw [State.notice_frame]; rfl

@[simp] theorem State.engine_of_notice (s : State) (b : Notice) (c : Chan) : (s.notice b).engine c = s.engine c := by
  rw [State.notice_frame]; rfl

/-- A notice and a write of a negotiator commute. -/
theorem State.setNego_notice (s : State) (c : Chan) (n : Negotiator) (b : Notice) : (s.setNego c n).notice b = (s.notice b).setNego c n := by
  have hm : (s.setNego c n).margin = s.margin := rfl
  unfold State.notice
  rw [hm]
  split <;> rfl

/-- The grant lost in OPEN or DRAINING while a task is in flight (R144). -/
theorem State.grantFall_of_flight {s : State} {c : Chan} {f : Flight}
    (hs : (s.nego c).state = .opened ∨ ((s.nego c).state = .draining ∧ (s.nego c).lost = false)) (hf : (s.engine c).flight = some f) :
    s.grantFall c = (s.notice (.grantLost c (some f.kind))).setNego c
      { s.nego c with qgnt := false, state := .draining, lost := true, qreq := false, qurg := false } := by
  obtain hs | ⟨hs, hl⟩ := hs
  · simp [State.grantFall, State.loseGrant, State.flightKind, State.setNego_notice, hs, hf]
  · simp [State.grantFall, State.loseGrant, State.flightKind, State.setNego_notice, hs, hl, hf]

/-- The grant lost in OPEN or DRAINING with no task in flight (R144). -/
theorem State.grantFall_of_no_flight {s : State} {c : Chan}
    (hs : (s.nego c).state = .opened ∨ ((s.nego c).state = .draining ∧ (s.nego c).lost = false)) (hf : (s.engine c).flight = none) :
    s.grantFall c = (s.notice (.grantLost c none)).setNego c
      { s.nego c with qgnt := false, state := .idle, lost := false, qreq := false, qurg := false } := by
  obtain hs | ⟨hs, hl⟩ := hs
  · simp [State.grantFall, State.loseGrant, State.flightKind, State.setNego_notice, hs, hf]
  · simp [State.grantFall, State.loseGrant, State.flightKind, State.setNego_notice, hs, hl, hf]

/-- A release ends with the fall of QGNT (R145). -/
theorem State.grantFall_of_releasing {s : State} {c : Chan} (hs : (s.nego c).state = .releasing) : s.grantFall c =
    s.setNego c { s.nego c with qgnt := false, state := .idle, releaseTimer := none, releaseMark := false } := by
  simp [State.grantFall, hs]

/-- A fall that ends no window changes the level alone (R135). -/
theorem State.grantFall_of_level {s : State} {c : Chan} (hs : (s.nego c).state = .idle ∨ (s.nego c).state = .requesting ∨
    (s.nego c).state = .stalled ∨ ((s.nego c).state = .draining ∧ (s.nego c).lost = true)) :
    s.grantFall c = s.setNego c { s.nego c with qgnt := false } := by
  obtain hs | hs | hs | ⟨hs, hl⟩ := hs
  · simp [State.grantFall, hs]
  · simp [State.grantFall, hs]
  · simp [State.grantFall, hs]
  · simp [State.grantFall, hs, hl]

theorem State.HandshakeLaw.flight_of_opened {s : State} (h : s.HandshakeLaw) {c : Chan}
    (hs : (s.nego c).state = .opened ∨ (s.nego c).state = .draining) : ∃ f, (s.engine c).flight = some f := by
  refine Option.isSome_iff_exists.mp ?_
  obtain hs | hs := hs
  · exact ((channelLaw_opened_iff hs).mp (h.channel c)).1.2.2.2.2.2.2.2.1
  · exact ((channelLaw_draining_iff hs).mp (h.channel c)).1.2.2.2.2.2.2.2.1

theorem State.grantFall_handshakeLaw {s : State} (h : s.HandshakeLaw) {c : Chan} (hlevel : (s.nego c).qgnt = true) :
    (s.grantFall c).HandshakeLaw := by
  have hlose : (s.nego c).state = .opened ∨ ((s.nego c).state = .draining ∧ (s.nego c).lost = false) → (s.grantFall c).HandshakeLaw := by
    intro hs
    obtain ⟨f, hf⟩ := h.flight_of_opened (hs.imp_right And.left)
    rw [State.grantFall_of_flight hs hf]
    refine h.updateNego ?_ ?_ ?_ ((h.channel c).lost (hs.imp_right And.left)) <;> rw [State.notice_frame] <;> rfl
  have hc := h.channel c
  cases hs : (s.nego c).state with
  | opened => exact hlose (.inl hs)
  | idle =>
    rw [State.grantFall_of_level (.inl hs)]
    exact h.updateNego rfl rfl rfl ((channelLaw_idle_iff (by exact hs)).mpr ((channelLaw_idle_iff hs).mp hc))
  | draining =>
    cases hl : (s.nego c).lost with
    | false => exact hlose (.inr ⟨hs, hl⟩)
    | true =>
      rw [State.grantFall_of_level (.inr (.inr (.inr ⟨hs, hl⟩)))]
      rw [channelLaw_draining_iff hs] at hc
      exact h.updateNego rfl rfl rfl ((channelLaw_draining_iff (by exact hs)).mpr (by grind))
  | releasing =>
    rw [State.grantFall_of_releasing hs]
    rw [channelLaw_releasing_iff hs] at hc
    exact h.updateNego rfl rfl rfl ((channelLaw_idle_iff rfl).mpr (by grind))
  | requesting =>
    rw [channelLaw_requesting_iff hs, hlevel] at hc
    exact absurd hc.1.2.2.2.2.2.2.1 (by decide)
  | stalled =>
    rw [channelLaw_stalled_iff hs, hlevel] at hc
    exact absurd hc.1.2.2.2.2.2.2.2.1 (by decide)

/-- A recall of an OPEN window whose task in flight runs out (R141, R142). -/
theorem State.recallRise_of_flight {s : State} {c : Chan} (hs : (s.nego c).state = .opened) (hf : (s.engine c).flight.isSome = true) :
    s.recallRise c = s.setNego c { s.nego c with qrcl := true, state := .draining } := by
  simp [State.recallRise, State.recall, hs, hf]

/-- A recall of an OPEN window with no task in flight releases it (R142). -/
theorem State.recallRise_of_no_flight {s : State} {c : Chan} (hs : (s.nego c).state = .opened) (hf : (s.engine c).flight = none) :
    s.recallRise c = s.setNego c { s.nego c with
      qrcl := true, state := .releasing, qreq := false, qurg := false, lost := false
      releaseTimer := some (s.now + s.timing.releaseWait), releaseMark := false, cause := .recall } := by
  simp [State.recallRise, State.recall, State.enterReleasing, hs, hf]

theorem State.recallRise_of_not_opened {s : State} {c : Chan} (hs : (s.nego c).state ≠ .opened) :
    s.recallRise c = s.setNego c { s.nego c with qrcl := true } := by
  simp [State.recallRise, hs]

theorem State.recallRise_handshakeLaw {s : State} (h : s.HandshakeLaw) (c : Chan) : (s.recallRise c).HandshakeLaw := by
  by_cases hs : (s.nego c).state = .opened
  · obtain ⟨f, hf⟩ := h.flight_of_opened (.inl hs)
    have hc := (channelLaw_opened_iff hs).mp (h.channel c)
    rw [State.recallRise_of_flight hs (by rw [hf]; rfl)]
    exact h.updateNego rfl rfl rfl ((channelLaw_draining_iff rfl).mpr (by grind))
  · rw [State.recallRise_of_not_opened hs]
    exact h.updateNego rfl rfl rfl (h.channel c)

theorem State.takeSample_handshakeLaw {s : State} (h : s.HandshakeLaw) (c : Chan) (line : CalResult) :
    (s.takeSample c line).HandshakeLaw := by
  unfold State.takeSample
  split
  · exact h
  · next f hf =>
    unfold State.sampleResult
    simp only
    refine h.update (c := c) (n := s.nego c) (by rw [State.nego, PerChan.set_get]; rfl) rfl rfl ?_ fun _ _ => rfl
    have hc := h.channel c
    simp only [ChannelLaw, Negotiator.StageLaw, hf] at hc ⊢
    simpa using hc

/-! ### Windows opened -/

/-- A channel whose negotiator is OPEN and whose engine has no task in flight, as a selection finds it (R139, R162). -/
def State.Selecting (s : State) (c : Chan) : Prop :=
  (s.nego c).state = .opened ∧ (s.nego c).grantTimer = none ∧ (s.nego c).escalated = false ∧ (s.nego c).releaseTimer = none ∧
    (s.nego c).releaseMark = false ∧ (s.nego c).lost = false ∧ (s.nego c).qreq = true ∧ (s.nego c).qgnt = true ∧
    (s.engine c).flight = none ∧ (s.engine c).completion = none ∧ (s.engine c).sample = none ∧ (s.engine c).resetMark = false ∧
    s.drain = false

/-- A selection leaves its channel in agreement, and the other channel as it was. -/
theorem State.Selected.channelLaw {s t : State} {c : Chan} (h : s.Selected c t) (hready : s.Selecting c) (d : Chan)
    (hother : d ≠ c → ChannelLaw (s.nego d) (s.engine d) s.drain) : ChannelLaw (t.nego d) (t.engine d) t.drain := by
  obtain ⟨hopen, htimer, hescalated, hrelease, hmark, hlost, hqreq, hqgnt, hflight, hcompletion, hsample, hreset, hdrain⟩ := hready
  have hdrain' : t.drain = s.drain := by rw [h.frame]
  rw [hdrain']
  obtain ⟨f, sample, pointer, -, hnego, hengine⟩ | ⟨hnego, hengine⟩ := h.outcome
  · have hnego' : t.nego d = s.nego d := by rw [State.nego, hnego]; rfl
    rw [hnego', State.engine_of_set hengine]
    split
    · next hd =>
      subst hd
      refine (channelLaw_opened_iff (by exact hopen)).mpr ?_
      simp [Engine.begun, Engine.Law, *]
    · next hd => exact hother hd
  · rw [State.nego_of_set hnego, State.engine_of_set hengine]
    split
    · next hd =>
      subst hd
      refine (channelLaw_releasing_iff rfl).mpr ?_
      simp [Engine.Law, *]
    · next hd => exact hother hd

/-- A write of a negotiator and one of an engine commute. -/
theorem State.setEngine_setNego (s : State) (c d : Chan) (n : Negotiator) (e : Engine) :
    (s.setNego c n).setEngine d e = (s.setEngine d e).setNego c n := rfl

/-- An opening with QRCL high recalls the window at once (R139 step 3, R142). -/
theorem State.openEngine_of_recalled {s : State} {c : Chan} (hrecalled : (s.nego c).qrcl = true) (hf : (s.engine c).flight = none) :
    s.openEngine c = (s.setEngine c { s.engine c with state := .standby, budget := s.timing.windowBudget, sampled := none }).setNego c
      { s.nego c with
        state := .releasing, qreq := false, qurg := false, lost := false
        releaseTimer := some (s.now + s.timing.releaseWait), releaseMark := false, cause := .recall } := by
  simp [State.openEngine, hrecalled, hf, State.recall, State.enterReleasing, State.standby, State.setEngine_setNego]

/-- An opening with QRCL low makes the first selection (R139 step 4, R152). -/
theorem State.openEngine_of_free {s : State} {c : Chan} (hrecalled : (s.nego c).qrcl = false) :
    s.openEngine c = (s.setEngine c { s.engine c with budget := s.timing.windowBudget, sampled := none }).runSelection c := by
  simp [State.openEngine, hrecalled, State.runSelection]

theorem State.openEngine_handshakeLaw {s : State} {c : Chan} (hready : s.Selecting c)
    (hother : ∀ d : Chan, d ≠ c → ChannelLaw (s.nego d) (s.engine d) s.drain) : (s.openEngine c).HandshakeLaw := by
  obtain ⟨hopen, htimer, hescalated, hrelease, hmark, hlost, hqreq, hqgnt, hflight, hcompletion, hsample, hreset, hdrain⟩ := hready
  rw [State.handshakeLaw_iff]
  cases hrecalled : (s.nego c).qrcl with
  | true =>
    rw [State.openEngine_of_recalled hrecalled hflight]
    refine ⟨fun d => ?_, fun h => absurd h (by simp [hdrain])⟩
    by_cases hd : d = c
    · subst hd
      refine (channelLaw_releasing_iff (by simp)).mpr ?_
      simp [Engine.Law, *]
    · rw [State.nego_setNego_ne _ _ hd, State.engine_of_setNego, State.engine_setEngine_ne _ _ hd]
      exact hother d hd
  | false =>
    rw [State.openEngine_of_free hrecalled]
    have hsel := State.runSelection_selected
      (s.setEngine c { s.engine c with budget := s.timing.windowBudget, sampled := none }) c
    refine ⟨fun d => hsel.channelLaw ?_ d fun hd => ?_, fun h => ?_⟩
    · simp [State.Selecting, *]
    · simpa [State.engine_setEngine_ne _ _ hd] using hother d hd
    · rw [hsel.frame] at h
      exact absurd h (by simp [hdrain])

theorem State.openNego_notice (s : State) (c : Chan) (b : Notice) : (s.notice b).openNego c = (s.openNego c).notice b := by
  simp [State.openNego, State.setNego_notice]

theorem State.grantRise_handshakeLaw {s : State} (h : s.HandshakeLaw) {c : Chan} (hlevel : (s.nego c).qgnt = false) :
    (s.grantRise c).HandshakeLaw := by
  have hc := h.channel c
  have hopening : ∀ u : State, ((s.setNego c { s.nego c with qgnt := true }).openNego c).Quiet False u →
      (s.nego c).qreq = true → (s.nego c).lost = false → (s.nego c).releaseTimer = none → (s.nego c).releaseMark = false →
      (s.engine c).flight = none → s.drain = false → (u.openEngine c).HandshakeLaw := by
    intro u hq hqreq hlost hrelease hmark hflight hdrain
    obtain ⟨-, -, -, -, -, -, -, -, -, hcompletion, hsample, hreset⟩ := hc
    refine State.openEngine_handshakeLaw ?_ fun d hd => ?_
    · rw [State.Selecting, hq.nego_eq, hq.engine_eq, hq.drain_eq]
      rw [hflight] at hcompletion hsample hreset
      simp [State.openNego, Option.isSome_iff_ne_none] at hcompletion hsample hreset ⊢
      simp [*]
    · rw [hq.nego_eq, hq.engine_eq, hq.drain_eq]
      simpa [State.openNego, State.nego_setNego_ne _ _ hd] using h.channel d
  unfold State.grantRise
  simp only
  split
  · next hs =>
    exact (State.Evolves.notice (free := False) _ _).handshakeLaw
      (h.updateNego rfl rfl rfl ((channelLaw_idle_iff (by exact hs)).mpr ((channelLaw_idle_iff hs).mp hc)))
  · next hs =>
    obtain ⟨⟨-, -, hrelease, hmark, hlost, hqreq, -, hflight, hdrain⟩, -⟩ := (channelLaw_requesting_iff hs).mp hc
    exact hopening _ (.refl _) hqreq hlost hrelease hmark hflight hdrain
  · next hs =>
    obtain ⟨⟨-, -, hrelease, hmark, hlost, -, hqreq, -, hflight, hdrain⟩, -⟩ := (channelLaw_stalled_iff hs).mp hc
    refine hopening _ ?_ hqreq hlost hrelease hmark hflight hdrain
    rw [State.openNego_notice]
    exact (State.Quiet.notice _ _).trans (State.scanAll_quiet _)
  · next hs =>
    obtain ⟨⟨htimer, hescalated, hrelease, hmark, hqurg, hlow, hheld, hrest⟩, hengine⟩ := (channelLaw_draining_iff hs).mp hc
    split
    · next hl =>
      exact (State.Evolves.notice (free := False) _ _).handshakeLaw (h.updateNego rfl rfl rfl ((channelLaw_draining_iff (by exact hs)).mpr
        ⟨⟨htimer, hescalated, hrelease, hmark, hqurg, hlow, fun hl' => absurd (hl.symm.trans hl') (by decide), hrest⟩, hengine⟩))
    · next hl => exact absurd (hheld (by simpa using hl)).2 (by simp [hlevel])
  · next hs =>
    rw [channelLaw_opened_iff hs, hlevel] at hc
    exact absurd hc.1.2.2.2.2.2.2.1 (by decide)
  · next hs =>
    rw [channelLaw_releasing_iff hs, hlevel] at hc
    exact absurd hc.1.2.2.2.2.2.2.1 (by decide)

/-! ### Completions -/

/-- An engine whose task in flight has ended (R161 part 3). -/
def Engine.ended (e : Engine) : Engine :=
  { e with state := .standby, flight := none, completion := none, sample := none, sampled := none }

/-- The engine of a completion before what is sampled and done is forgotten. -/
theorem State.flightEnded_lines (s : State) (c : Chan) (f : Flight) (line : CalResult) :
    (s.flightEnded c f line).negotiators = s.negotiators ∧ (s.flightEnded c f line).engines = s.engines.set c (s.engine c).ended ∧
      (s.flightEnded c f line).drain = s.drain := by
  have hsample : ∃ e : Engine, s.sampleAtCompletion c f line = s.setEngine c e ∧ e.ended = (s.engine c).ended := by
    unfold State.sampleAtCompletion State.sampleResult
    simp only
    split
    · exact ⟨_, rfl, rfl⟩
    · split
      · exact ⟨s.engine c, by simp, rfl⟩
      · exact ⟨_, rfl, rfl⟩
  obtain ⟨e, hsample, hended⟩ := hsample
  have hq := (s.setEngine c e).completeFlight_quiet (free := False) c f (((s.setEngine c e).engine c).result line)
  unfold State.flightEnded State.clearFlight
  rw [hsample]
  refine ⟨hq.negotiators_eq, ?_, hq.drain_eq⟩
  change PerChan.set _ c _ = _
  rw [hq.engines_eq, hq.engine_eq]
  simp only [State.setEngine, PerChan.set_set]
  rw [← hended]
  simp [State.engine, Engine.ended]

/-- A completion up to part 4 (R161): the task ended, and a channel reset that waited for it ended too. -/
def State.taskEnded (s : State) (c : Chan) (f : Flight) (line : CalResult) : State :=
  if (s.flightEnded c f line).resetting c then (s.flightEnded c f line).endReset c else s.flightEnded c f line

theorem State.completion_eq_taskEnded (s : State) (c : Chan) (f : Flight) (line : CalResult) :
    s.completion c f line = (s.taskEnded c f line).afterCompletion c := rfl

theorem State.endReset_lines (s : State) (c : Chan) : (s.endReset c).negotiators = s.negotiators ∧
    (s.endReset c).engines = s.engines.set c { s.engine c with resetMark := false } ∧ (s.endReset c).drain = s.drain := by
  have hq := s.endReset_quiet (free := False) c
  exact ⟨hq.negotiators_eq, hq.engines_eq, hq.drain_eq⟩

theorem State.taskEnded_lines (s : State) (c : Chan) (f : Flight) (line : CalResult) :
    (s.taskEnded c f line).negotiators = s.negotiators ∧
      (s.taskEnded c f line).engines = s.engines.set c { (s.engine c).ended with resetMark := false } ∧
      (s.taskEnded c f line).drain = s.drain := by
  obtain ⟨hnego, hengine, hdrain⟩ := s.flightEnded_lines c f line
  have hself : (s.flightEnded c f line).engine c = (s.engine c).ended := by rw [State.engine_of_set hengine, if_pos rfl]
  unfold State.taskEnded State.resetting
  rw [hself]
  split
  · obtain ⟨hnego', hengine', hdrain'⟩ := (s.flightEnded c f line).endReset_lines c
    refine ⟨hnego'.trans hnego, ?_, hdrain'.trans hdrain⟩
    rw [hengine', hengine, hself, PerChan.set_set]
  · next hmark =>
    refine ⟨hnego, hengine.trans ?_, hdrain⟩
    have hmark : (s.engine c).ended.resetMark = false := by simpa using hmark
    rw [← hmark]

/-- After a completion every channel is in agreement; what remains is the end of a drain (R162, R184). -/
theorem State.completion_channelLaw {s : State} (h : s.HandshakeLaw) {c : Chan} {f : Flight} (hf : (s.engine c).flight = some f)
    (line : CalResult) (d : Chan) :
    ChannelLaw ((s.completion c f line).nego d) ((s.completion c f line).engine d) (s.completion c f line).drain := by
  obtain ⟨hnego, hengine, hdrain⟩ := s.taskEnded_lines c f line
  have hc := h.channel c
  have hnego' : ∀ d, (s.taskEnded c f line).nego d = s.nego d := fun d => by rw [State.nego, hnego]; rfl
  have hself : (s.taskEnded c f line).engine c = { (s.engine c).ended with resetMark := false } := by
    rw [State.engine_of_set hengine, if_pos rfl]
  have hother : d ≠ c → ChannelLaw ((s.taskEnded c f line).nego d) ((s.taskEnded c f line).engine d) (s.taskEnded c f line).drain := by
    intro hd
    rw [hnego', State.engine_of_set hengine, if_neg hd, hdrain]
    exact h.channel d
  have hstill : Engine.Law { (s.engine c).ended with resetMark := false } := by simp [Engine.Law, Engine.ended]
  have hreleasing : ∀ n : Negotiator, ChannelLaw n { (s.engine c).ended with resetMark := false } s.drain →
      ChannelLaw (((s.taskEnded c f line).setNego c n).nego d) ((s.taskEnded c f line).engine d) (s.taskEnded c f line).drain := by
    intro n hn
    by_cases hd : d = c
    · subst hd; rw [State.nego_setNego_self, hself, hdrain]; exact hn
    · rw [State.nego_setNego_ne _ _ hd]; exact hother hd
  have hunchanged : (ChannelLaw (s.nego c) { (s.engine c).ended with resetMark := false } s.drain) →
      ChannelLaw ((s.taskEnded c f line).nego d) ((s.taskEnded c f line).engine d) (s.taskEnded c f line).drain := by
    intro hn
    have := hreleasing (s.nego c) hn
    rwa [← hnego' c, State.setNego_nego_same] at this
  rw [State.completion_eq_taskEnded, State.afterCompletion]
  split
  · next hs =>
    rw [hnego'] at hs
    obtain ⟨⟨htimer, hescalated, hrelease, hmark, hlost, hqreq, hqgnt, -, hreset, hdrain'⟩, -⟩ := (channelLaw_opened_iff hs).mp hc
    refine (State.runSelection_selected _ c).channelLaw ?_ d fun hd => ?_
    · simp [State.Selecting, Engine.ended, *]
    · simpa [State.engine_setEngine_ne _ _ hd] using hother hd
  · next hs =>
    rw [hnego'] at hs
    obtain ⟨⟨htimer, hescalated, hrelease, hmark, hqurg, hlow, hheld, -, hreset, hdrain'⟩, -⟩ := (channelLaw_draining_iff hs).mp hc
    rw [hnego']
    split
    · next hl =>
      refine hreleasing _ ((channelLaw_idle_iff rfl).mpr ⟨⟨htimer, hescalated, hrelease, hmark, rfl, ?_, hlow hl, ?_⟩, hstill⟩)
      · simpa [hlow hl] using hqurg
      · simp [Engine.ended]
    · next hl =>
      have hl : (s.nego c).lost = false := by simpa using hl
      unfold State.enterReleasing
      rw [hnego']
      exact hreleasing _ ((channelLaw_releasing_iff rfl).mpr
        ⟨⟨htimer, hescalated, rfl, rfl, rfl, rfl, (hheld hl).2, by simp [Engine.ended]⟩, hstill⟩)
  · next hs =>
    rw [hnego'] at hs
    obtain ⟨⟨h1, h2, h3, h4, h5, h6, h7, -⟩, -⟩ := (channelLaw_idle_iff hs).mp hc
    exact hunchanged ((channelLaw_idle_iff hs).mpr ⟨⟨h1, h2, h3, h4, h5, h6, h7, by simp [Engine.ended]⟩, hstill⟩)
  · next hs =>
    rw [hnego'] at hs
    obtain ⟨⟨-, -, -, -, -, -, -, hflight, -⟩, -⟩ := (channelLaw_requesting_iff hs).mp hc
    rw [hf] at hflight; cases hflight
  · next hs =>
    rw [hnego'] at hs
    obtain ⟨⟨-, -, -, -, -, -, -, -, hflight, -⟩, -⟩ := (channelLaw_stalled_iff hs).mp hc
    rw [hf] at hflight; cases hflight
  · next hs =>
    rw [hnego'] at hs
    obtain ⟨⟨h1, h2, h3, h4, h5, h6, h7, -⟩, -⟩ := (channelLaw_releasing_iff hs).mp hc
    exact hunchanged ((channelLaw_releasing_iff hs).mpr ⟨⟨h1, h2, h3, h4, h5, h6, h7, by simp [Engine.ended]⟩, hstill⟩)

/-- The look at whether a drain has ended keeps the law: it has, or a task is still in flight (R184). -/
theorem State.checkDrain_handshakeLaw {s : State} (h : ∀ d : Chan, ChannelLaw (s.nego d) (s.engine d) s.drain) (sda : Bool) :
    (s.checkDrain sda).HandshakeLaw := by
  unfold State.checkDrain
  split
  · exact State.handshakeLaw_initial s.now _ _ s.pending false s.readData _
  · next hnot =>
    rw [State.handshakeLaw_iff]
    refine ⟨h, fun hd => ?_⟩
    simp only [hd, State.enginesStill, Bool.true_and, Bool.and_eq_true, Option.isNone_iff_eq_none, not_and_or] at hnot
    obtain hf | hf := hnot
    · exact ⟨.a, Option.isSome_iff_ne_none.mpr hf⟩
    · exact ⟨.b, Option.isSome_iff_ne_none.mpr hf⟩

theorem State.takeCompletion_handshakeLaw {s : State} (h : s.HandshakeLaw) (c : Chan) (lines : CompletionLines) :
    (s.takeCompletion c lines).HandshakeLaw := by
  unfold State.takeCompletion
  split
  · exact h
  · next f hf => exact State.checkDrain_handshakeLaw (State.completion_channelLaw h hf lines.result) lines.sda

/-! ### Resets -/

/-- A dropped request writes its negotiator, and a stall that ends is followed by its scans (R138, R146, R147). -/
theorem State.dropRequest_eq (s : State) (c : Chan) (cause : ReleaseCause) : s.dropRequest c cause =
    if (s.nego c).state = .stalled then (s.setNego c ((s.nego c).dropped cause (s.now + s.timing.releaseWait))).scanAll
    else s.setNego c ((s.nego c).dropped cause (s.now + s.timing.releaseWait)) := by
  unfold State.dropRequest Negotiator.dropped State.enterReleasing
  simp only [State.nego_setNego_self, State.setNego_setNego, State.setNego_now, State.setNego_timing]
  by_cases hlow : (s.nego c).qgnt = false
  · simp only [if_pos hlow]
  · by_cases hs : (s.nego c).state = .releasing
    · simp only [if_neg hlow, if_pos hs]
    · simp only [if_neg hlow, if_neg hs]

theorem State.dropRequest_quiet (s : State) (c : Chan) (cause : ReleaseCause) :
    (s.setNego c ((s.nego c).dropped cause (s.now + s.timing.releaseWait))).Quiet False (s.dropRequest c cause) := by
  rw [State.dropRequest_eq]
  split
  · exact State.scanAll_quiet _
  · exact .refl _

theorem State.Quiet.now_eq {free : Prop} {s t : State} (h : s.Quiet free t) : t.now = s.now := by rw [h.frame]

/-- The lines of a request dropped after a sequence of writes. -/
theorem State.Quiet.dropRequest_lines {s t : State} (h : s.Quiet False t) (c : Chan) (cause : ReleaseCause) :
    (t.dropRequest c cause).negotiators = s.negotiators.set c ((s.nego c).dropped cause (s.now + s.timing.releaseWait)) ∧
      (t.dropRequest c cause).engines = s.engines ∧ (t.dropRequest c cause).drain = s.drain := by
  have hdrop := t.dropRequest_quiet c cause
  rw [h.nego_eq, h.now_eq, h.timing_eq] at hdrop
  refine ⟨hdrop.negotiators_eq.trans ?_, hdrop.engines_eq.trans h.engines_eq, hdrop.drain_eq.trans h.drain_eq⟩
  rw [← h.negotiators_eq]
  rfl

/-- The lines once a drain has begun: both requests dropped (R147). -/
theorem State.draining_lines (s : State) : s.draining.engines = s.engines ∧ s.draining.drain = true ∧
    ∀ c : Chan, s.draining.nego c = (s.nego c).dropped .drain (s.now + s.timing.releaseWait) := by
  have ha := ({ s with drain := true } : State).dropRequest_quiet .a .drain
  have hb := (({ s with drain := true } : State).dropRequest .a .drain).dropRequest_quiet .b .drain
  have hnow : (({ s with drain := true } : State).dropRequest .a .drain).now = s.now := by rw [ha.frame]; rfl
  have htiming : (({ s with drain := true } : State).dropRequest .a .drain).timing = s.timing := ha.timing_eq
  refine ⟨hb.engines_eq.trans ha.engines_eq, hb.drain_eq.trans ha.drain_eq, fun c => ?_⟩
  unfold State.draining
  rw [hb.nego_eq, hnow, htiming]
  cases c with
  | a => rw [State.nego_setNego_ne _ _ (by decide), ha.nego_eq, State.nego_setNego_self]; rfl
  | b => rw [State.nego_setNego_self, ha.nego_eq, State.nego_setNego_ne _ _ (by decide)]; rfl

theorem State.startDrain_handshakeLaw {s : State} (h : s.HandshakeLaw) (sda : Bool) : (s.startDrain sda).HandshakeLaw := by
  obtain ⟨hengine, hdrain, hnego⟩ := s.draining_lines
  rw [State.startDrain_eq]
  refine State.checkDrain_handshakeLaw (fun d => ?_) sda
  have hsame : s.draining.engine d = s.engine d := by rw [State.engine, hengine]; rfl
  rw [hnego, hsame, hdrain]
  obtain ⟨-, -, -, -, -, -, -, hlaw⟩ := h.channel d
  exact (h.channel d).dropped _ _ hlaw fun _ => .inr rfl

theorem State.writeControl_handshakeLaw {s : State} (h : s.HandshakeLaw) (soft : Bool) (fields : ControlFields) (sda : Bool) :
    (s.writeControl soft fields sda).HandshakeLaw := by
  have hfields : (s.withControl fields).HandshakeLaw := (s.withControl_evolves (free := False) fields).handshakeLaw h
  rw [State.writeControl_eq]
  split
  · exact State.startDrain_handshakeLaw hfields sda
  · exact hfields

/-- What a channel reset leaves of an engine: the mark and a task in flight that runs out, or STANDBY (R166, R167). -/
def Engine.reset (e : Engine) : Engine :=
  if e.flight.isSome then { e with resetMark := true, pointer := 0 } else { e with state := .standby, resetMark := false, pointer := 0 }

/-- A channel reset up to the look at the task in flight: the mark and the pointer, the queue, the arbiter and the negotiator (R174). -/
def State.resetBegun (s : State) (c : Chan) : State :=
  (allGroups.foldl (fun s g => s.resetGroup c g)
    ((s.setEngine c { s.engine c with resetMark := true, pointer := 0 }).emptyQueue c)).dropRequest c .reset

theorem State.resetChannel_eq (s : State) (c : Chan) : s.resetChannel c =
    if ((s.resetBegun c).engine c).flight.isSome then s.resetBegun c else ((s.resetBegun c).standby c).endReset c := rfl

theorem State.resetBegun_lines (s : State) (c : Chan) :
    (s.resetBegun c).negotiators = s.negotiators.set c ((s.nego c).dropped .reset (s.now + s.timing.releaseWait)) ∧
      (s.resetBegun c).engines = s.engines.set c { s.engine c with resetMark := true, pointer := 0 } ∧
      (s.resetBegun c).drain = s.drain := by
  have hq : (s.setEngine c { s.engine c with resetMark := true, pointer := 0 }).Quiet False
      (allGroups.foldl (fun s g => s.resetGroup c g) ((s.setEngine c { s.engine c with resetMark := true, pointer := 0 }).emptyQueue c)) :=
    (State.emptyQueue_quiet _ c).trans (.foldl _ _ _ fun s g => s.resetGroup_quiet c g)
  exact hq.dropRequest_lines c .reset

theorem State.resetChannel_lines (s : State) (c : Chan) :
    (s.resetChannel c).negotiators = s.negotiators.set c ((s.nego c).dropped .reset (s.now + s.timing.releaseWait)) ∧
      (s.resetChannel c).engines = s.engines.set c (s.engine c).reset ∧ (s.resetChannel c).drain = s.drain := by
  obtain ⟨hnego, hengine, hdrain⟩ := s.resetBegun_lines c
  have hself : (s.resetBegun c).engine c = { s.engine c with resetMark := true, pointer := 0 } := by
    rw [State.engine_of_set hengine, if_pos rfl]
  rw [State.resetChannel_eq, hself]
  unfold Engine.reset
  split
  · exact ⟨hnego, hengine, hdrain⟩
  · obtain ⟨hnego', hengine', hdrain'⟩ := ((s.resetBegun c).standby c).endReset_lines c
    refine ⟨hnego'.trans hnego, hengine'.trans ?_, hdrain'.trans hdrain⟩
    rw [State.standby, State.engine_setEngine_self, hself]
    change PerChan.set (PerChan.set _ c _) c _ = _
    rw [PerChan.set_set, hengine, PerChan.set_set]

theorem State.resetChannel_handshakeLaw {s : State} (h : s.HandshakeLaw) (c : Chan) : (s.resetChannel c).HandshakeLaw := by
  obtain ⟨hnego, hengine, hdrain⟩ := s.resetChannel_lines c
  obtain ⟨-, -, -, -, -, -, -, hactive, hbusy, hcompletion, hsample, hmark⟩ := h.channel c
  have hlaw : (s.engine c).reset.Law ∧ ((s.engine c).reset.flight = (s.engine c).flight) ∧
      ((s.engine c).flight.isSome = true → (s.engine c).reset.resetMark = true) := by
    unfold Engine.reset
    split
    · next hf => exact ⟨⟨hactive, hbusy, hcompletion, hsample, fun _ => hf⟩, rfl, fun _ => rfl⟩
    · next hf =>
      have hf : (s.engine c).flight = none := by simpa using hf
      refine ⟨⟨EngineState.noConfusion, ?_, hcompletion, hsample, Bool.noConfusion⟩, rfl, fun h => absurd h (by simp [hf])⟩
      simp [hf]
  obtain ⟨hlaw, hflight, hmark'⟩ := hlaw
  exact h.update hnego hengine hdrain ((h.channel c).dropped _ _ hlaw fun hf => .inl (hmark' (hflight ▸ hf))) fun _ hf => hflight ▸ hf

/-! ### Commands -/

theorem takeCommand_handshakeLaw {s : State} (h : s.HandshakeLaw) (tag : Tag) (c : HostCommand) :
    (takeCommand tag c s).HandshakeLaw := by
  by_cases hc : ∃ b, c = .resetChannel b
  · obtain ⟨b, rfl⟩ := hc
    change (runResetChannel tag b s).HandshakeLaw
    unfold runResetChannel
    split
    · exact (State.Evolves.complete (free := False) s tag _ _).handshakeLaw h
    · next ch _ =>
      exact State.resetChannel_handshakeLaw ((State.Evolves.single (free := False) (.noteRemoved tag _)).handshakeLaw h) ch
  · refine (takeCommand_evolves (free := True) (lines := False) tag c (fun _ => trivial) (fun hl => ?_) s).handshakeLaw h
    cases c with
    | resetChannel b => exact hc ⟨b, rfl⟩
    | _ => exact Bool.noConfusion hl

theorem State.submit_handshakeLaw {s : State} (h : s.HandshakeLaw) (tag : Tag) (c : Option HostCommand) :
    (s.submit tag c).HandshakeLaw := by
  obtain ⟨status, -, -, hs⟩ | ⟨x, -, -, hs⟩ := s.submit_cases tag c
  · rw [hs]; exact h
  · rw [hs]; exact takeCommand_handshakeLaw (s := s.accept tag x) h tag x

theorem State.writeRegister_handshakeLaw {s : State} (h : s.HandshakeLaw) (offset : Nat) (w : WindowWrite) :
    (s.writeRegister offset w).HandshakeLaw := by
  unfold State.writeRegister
  simp only
  split_ifs
  · exact h
  · exact State.writeControl_handshakeLaw h _ _ _
  · exact State.submit_handshakeLaw h _ _
  · exact h
  · exact h

theorem State.expire_handshakeLaw {s : State} (h : s.HandshakeLaw) (timer : Option Nat) (f : State → State)
    (hf : ∀ due, timer = some due → (s.reach due).HandshakeLaw → (f (s.reach due)).HandshakeLaw) : (s.expire timer f).HandshakeLaw := by
  cases timer with
  | none => exact h
  | some due => exact hf due rfl h

theorem effectOf_handshakeLaw (i : Instr) {s : State} (h : s.HandshakeLaw) : (effectOf i s).HandshakeLaw := by
  by_cases hl : lineEvent i = true
  swap
  · exact (effectOf_evolves (free := True) (lines := False) i (fun _ => trivial) (fun h => hl h) s).handshakeLaw h
  cases i
  case resetChannel tag b => exact State.submit_handshakeLaw (s := { s with staging := stageRecord tag _ s.staging }) h tag _
  case unknownCommand w => exact State.submit_handshakeLaw (s := { s with staging := s.staging.set 0 w }) h _ _
  case softReset fields sda => exact State.writeControl_handshakeLaw h _ _ _
  case registerWrite offset w => exact State.writeRegister_handshakeLaw h _ w
  case qgntRise c =>
    simp only [effectOf]
    split
    · exact h
    · next hg => exact State.grantRise_handshakeLaw h (by simpa using hg)
  case qgntFall c =>
    simp only [effectOf]
    split
    · next hg => exact State.grantFall_handshakeLaw h hg
    · exact h
  case qrclRise c =>
    simp only [effectOf]
    split
    · exact h
    · exact State.recallRise_handshakeLaw h c
  case qrclFall c => exact h.updateNego rfl rfl rfl (h.channel c)
  case grantTimerExpiry c =>
    refine State.expire_handshakeLaw h _ _ fun due hdue hr => State.grantExpiry_handshakeLaw hr ?_
    exact (h.channel c).1.mp (Option.isSome_iff_exists.mpr ⟨due, hdue⟩)
  case releaseTimerExpiry c =>
    refine State.expire_handshakeLaw h _ _ fun due hdue hr => State.releaseExpiry_handshakeLaw hr ?_
    exact (h.channel c).2.2.1.mp (Option.isSome_iff_exists.mpr ⟨due, hdue⟩)
  case taskCompletion c lines => exact State.expire_handshakeLaw h _ _ fun due _ hr => State.takeCompletion_handshakeLaw hr c lines
  case calResultSample c line => exact State.expire_handshakeLaw h _ _ fun due _ hr => State.takeSample_handshakeLaw hr c line
  all_goals exact Bool.noConfusion hl

/-- Settles O57: the events of the lines each keep the law, and every other event leaves the lines, the engines and the drain bit. -/
theorem handshakeLawKept : Obligations.HandshakeLawKept := by
  intro s t h hs
  obtain rfl | ⟨i, rest, -, hi⟩ := step_cases s t h
  · exact hs
  · have hs : ({ s with pending := rest } : State).HandshakeLaw := hs
    obtain rfl | rfl | ⟨la, lb, rfl⟩ | ⟨-, rfl⟩ := exec_cases i _ t hi
    · exact hs
    · exact State.handshakeLaw_initial _ _ _ _ true 0 (Monitor.initial s.now)
    · exact State.handshakeLaw_initial _ la lb _ false 0 (Monitor.initial s.now)
    · exact State.settle_handshakeLaw (effectOf_handshakeLaw i hs)

end Sys2Proof.Machine
end

section
/-! SUPPORT and the proofs of O52, O7, O8, O13, O24, O25, O26, O27, O28: the report queue, the command port and the register window (R169 to
R173, R175 to R186). -/

namespace Sys2Proof.Machine

-- Proofs are elaborated one after the other, which bounds the memory a compile reserves.
set_option Elab.async false

/-! ### The table of outstanding commands -/

/-- Where no two entries hold one tag, the lookup finds the entry that holds it (R171). -/
theorem State.outEntry_of_mem {s : State} {e : OutEntry} (hnodup : (s.outstanding.map OutEntry.tag).Nodup) (he : e ∈ s.outstanding) :
    s.outEntry e.tag = some e := by
  unfold State.outEntry
  generalize s.outstanding = l at hnodup he
  induction l with
  | nil => cases he
  | cons x l ih =>
    rw [List.map_cons, List.nodup_cons] at hnodup
    obtain rfl | he := List.mem_cons.mp he
    · simp
    · have hne : x.tag ≠ e.tag := fun h => hnodup.1 (h ▸ List.mem_map_of_mem he)
      rw [List.find?_cons_of_neg (by simpa using hne), ih hnodup.2 he]

/-- Where no two entries hold one tag, the first entry with a tag is all there is to remove (R171). -/
theorem eraseP_tag_eq_filter {l : List OutEntry} (hnodup : (l.map OutEntry.tag).Nodup) (tag : Tag) :
    l.eraseP (fun e => e.tag == tag) = l.filter (fun x => x.tag ≠ tag) := by
  induction l with
  | nil => rfl
  | cons x l ih =>
    rw [List.map_cons, List.nodup_cons] at hnodup
    by_cases hx : x.tag = tag
    · rw [List.eraseP_cons_of_pos (by simpa using hx), List.filter_cons_of_neg (by simpa using hx), List.filter_eq_self.mpr]
      intro y hy
      have : y.tag ≠ tag := fun h => hnodup.1 (by rw [hx, ← h]; exact List.mem_map_of_mem hy)
      simpa using this
    · rw [List.eraseP_cons_of_neg (by simpa using hx), List.filter_cons_of_pos (by simpa using hx), ih hnodup.2]

/-- Settles O52: the lookup finds the entry, and its tag is in no other. -/
theorem completionRecord : Obligations.CompletionRecord := by
  intro s e status detail hnodup he
  refine ⟨?_, ?_⟩
  · simp only [State.complete, State.outEntry_of_mem hnodup he, eraseP_tag_eq_filter hnodup]
    rfl
  · rw [Nat.add_comm, State.complete_sum, Nat.add_comm]

/-! ### Submissions -/

theorem effectOf_instr (tag : Tag) (c : HostCommand) : effectOf (c.instr tag) = hostEffect tag c := by cases c <;> rfl

/-- The row of a host command is the event of its submission. -/
theorem exec_instr_event (tag : Tag) (c : HostCommand) (s : State) : exec (c.instr tag) s = s.event (effectOf (c.instr tag)) := by
  rw [effectOf_instr, exec_instr]
  rfl

/-- A refused submission keeps its record in the staging words and the reason in the submit status (R170). -/
theorem hostEffect_of_refused {s : State} {tag : Tag} {c : HostCommand} {status : SubmitStatus}
    (h : s.submitOutcome tag (some c) = status) (hne : status ≠ .accepted) :
    hostEffect tag c s = { s with staging := stageRecord tag c s.staging, submitStatus := status } := by
  have h' : ({ s with staging := stageRecord tag c s.staging } : State).submitOutcome tag (some c) = status := h
  unfold hostEffect
  obtain ⟨st, hst, -, heq⟩ | ⟨x, -, hacc, -⟩ := State.submit_cases { s with staging := stageRecord tag c s.staging } tag (some c)
  · rw [heq, ← hst, h']
  · exact absurd (h'.symm.trans hacc) hne

theorem State.tagInUse_iff {s : State} {tag : Tag} : s.tagInUse tag = true ↔ ∃ e ∈ s.outstanding, e.tag = tag := by
  simp [State.tagInUse]

theorem State.tableFull_iff {s : State} :
    s.tableFull = true ↔ 16 ≤ s.outstanding.length ∨ 64 ≤ s.records.length + s.outstanding.length := by
  rw [State.tableFull, Bool.or_eq_true, decide_eq_true_iff, decide_eq_true_iff, Config.outstandingCapacity, Config.reportCapacity]

/-- A record whose command code is none of the seventeen holds no command (R170). -/
theorem decodeRecord_eq_none {w : Record} (h : (w[0].extractLsb' 0 8).toNat = 0 ∨ 17 < (w[0].extractLsb' 0 8).toNat) :
    decodeRecord w = none := by
  unfold decodeRecord field
  simp only
  split <;> first
    | rfl
    | omega

/-- Settles O7: the checks one by one, each on the state whose conditions are taken, and acceptance. -/
theorem submissionChecks : Obligations.SubmissionChecks := by
  intro s hreset hsettled
  have hrefused : ∀ (tag : Tag) (c : HostCommand) (status : SubmitStatus), s.submitOutcome tag (some c) = status → status ≠ .accepted →
      exec (c.instr tag) s = .next { s with staging := stageRecord tag c s.staging, submitStatus := status } :=
    fun tag c status h hne => exec_of_settled hreset (by rw [effectOf_instr, hostEffect_of_refused h hne]) hsettled
      (exec_instr_event tag c s)
  refine ⟨fun tag c => ⟨fun hdrain => ?_, fun hdrain hused => ?_, fun hdrain hfresh hfull => ?_, fun hadmits => ?_⟩, fun word0 hcode => ?_⟩
  · exact hrefused tag c .resetting (by simp [State.submitOutcome, hdrain]) (by decide)
  · exact hrefused tag c .tagInUse (by simp [State.submitOutcome, hdrain, State.tagInUse_iff.mpr hused]) (by decide)
  · have hnot : s.tagInUse tag = false := by
      rw [← Bool.not_eq_true, State.tagInUse_iff]
      rintro ⟨e, he, htag⟩
      exact hfresh e he htag
    exact hrefused tag c .tableFull (by simp [State.submitOutcome, hdrain, hnot, State.tableFull_iff.mpr hfull]) (by decide)
  · rw [exec_instr, hostCommand_of_admits tag c s hadmits]
  · have hnone : decodeRecord (s.staging.set 0 word0) = none := decodeRecord_eq_none (by simpa using hcode)
    refine exec_of_settled hreset ?_ hsettled
    simp only [effectOf, State.submitStaged, hnone]
    cases s.drain <;> simp [State.submit, State.submitOutcome]

/-! ### The checks of an accepted command -/

/-- The fields of a record in rising order of their positions (R176). -/
theorem rangeChecks_sorted (c : HostCommand) : (c.rangeChecks.map Prod.fst).Pairwise (· < ·) := by
  cases c <;> simp [HostCommand.rangeChecks, configureChecks, slotChecks, bandChecks, timingChecks, policyChecks, thermalChecks,
    channelChecks, countChecks, calibrateChecks, slotPosition, channelPosition, addressPosition, position]

/-- The first failing field of a list in rising order is the lowest (R176). -/
theorem firstBad_eq_some {checks : List (Nat × Bool)} {pos : Nat} (hsorted : (checks.map Prod.fst).Pairwise (· < ·))
    (hbad : (pos, false) ∈ checks) (hlow : ∀ p ∈ checks, p.1 < pos → p.2 = true) : firstBad checks = some pos := by
  induction checks with
  | nil => cases hbad
  | cons x l ih =>
    rw [List.map_cons, List.pairwise_cons] at hsorted
    obtain rfl | hmem := List.mem_cons.mp hbad
    · rfl
    · have hx : x.2 = true := hlow x List.mem_cons_self (hsorted.1 pos (List.mem_map_of_mem hmem))
      have hrest := ih hsorted.2 hmem fun p hp => hlow p (List.mem_cons_of_mem x hp)
      simpa [firstBad, hx] using hrest

theorem firstBad_of_all {checks : List (Nat × Bool)} (h : ∀ p ∈ checks, p.2 = true) : firstBad checks = none := by
  simpa [firstBad] using h

theorem firstBad_channelChecks {channel : BitVec 8} {pos : Nat} (h : firstBad (channelChecks channel) = some pos) :
    chanOf channel = none ∧ pos = channelPosition := by
  unfold firstBad channelChecks at h
  cases hc : chanOf channel with
  | none => simp [hc] at h; exact ⟨rfl, h.symm⟩
  | some ch => simp [hc] at h

/-- A command that carries a slot checks its fields and then the state of its rank (R5). -/
theorem takeCommand_of_slotByte {tag : Tag} {c : HostCommand} {slot : BitVec 8} (h : c.slotByte = some slot) :
    ∃ body, ∀ s, takeCommand tag c s = s.rankCommand tag c.kind c.rangeChecks slot body := by
  cases c with
  | setTiming | setRefreshPolicy | setThermal | flushHost | resetChannel => cases h
  | _ => cases h; exact ⟨_, fun _ => rfl⟩

/-- A command with a field out of range ends with BAD_PARAMETER and its position (R5, R176). -/
theorem takeCommand_of_bad {s : State} {tag : Tag} {c : HostCommand} {pos : Nat} (h : firstBad c.rangeChecks = some pos) :
    takeCommand tag c s = s.complete tag .badParameter (.position pos) := by
  by_cases hslot : ∃ slot, c.slotByte = some slot
  · obtain ⟨slot, hslot⟩ := hslot
    obtain ⟨body, hbody⟩ := takeCommand_of_slotByte (tag := tag) hslot
    simp only [hbody, State.rankCommand, h]
    rfl
  cases c with
  | setTiming f =>
    change firstBad (timingChecks (timingOf f)) = some pos at h
    simp only [takeCommand, runSetTiming, h]
    rfl
  | setRefreshPolicy f =>
    change firstBad (policyChecks f) = some pos at h
    simp only [takeCommand, runSetRefreshPolicy, h]
    rfl
  | setThermal f =>
    change firstBad (thermalChecks f) = some pos at h
    simp only [takeCommand, runSetThermal, h]
    rfl
  | flushHost b =>
    obtain ⟨hnone, rfl⟩ := firstBad_channelChecks h
    simp only [takeCommand, runFlushHost, hnone]
    rfl
  | resetChannel b =>
    obtain ⟨hnone, rfl⟩ := firstBad_channelChecks h
    simp only [takeCommand, runResetChannel, hnone]
    rfl
  | _ => exact absurd ⟨_, rfl⟩ hslot

/-- What a rank command does once its fields and its rank's state pass (R5). -/
theorem State.rankCommand_of_passed {s : State} {tag : Tag} {kind : CommandKind} {checks : List (Nat × Bool)} {slot : BitVec 8}
    {body : Slot → State → State} {r : Slot} (hall : ∀ p ∈ checks, p.2 = true) (hslot : slotOf slot = some r)
    (hstate : stateCheck kind (s.rank r).state = none) : s.rankCommand tag kind checks slot body = body r s := by
  simp only [State.rankCommand, firstBad_of_all hall, hslot, hstate]

/-- A rank command the state of its rank turns away (R5). -/
theorem State.rankCommand_of_state {s : State} {tag : Tag} {kind : CommandKind} {checks : List (Nat × Bool)} {slot : BitVec 8}
    {body : Slot → State → State} {r : Slot} {status : Status} (hall : ∀ p ∈ checks, p.2 = true) (hslot : slotOf slot = some r)
    (hstate : stateCheck kind (s.rank r).state = some status) :
    s.rankCommand tag kind checks slot body = s.complete tag status .none := by
  simp only [State.rankCommand, firstBad_of_all hall, hslot, hstate]

theorem takeCommand_of_state {s : State} {tag : Tag} {c : HostCommand} {slot : BitVec 8} {r : Slot} {status : Status}
    (hall : ∀ p ∈ c.rangeChecks, p.2 = true) (hbyte : c.slotByte = some slot) (hslot : slotOf slot = some r)
    (hstate : stateCheck c.kind (s.rank r).state = some status) : takeCommand tag c s = s.complete tag status .none := by
  obtain ⟨body, hbody⟩ := takeCommand_of_slotByte (tag := tag) hbyte
  rw [hbody, State.rankCommand_of_state hall hslot hstate]

@[simp] theorem State.rank_of_taken (s : State) (tag : Tag) (c : HostCommand) (r : Slot) : (s.taken tag c).rank r = s.rank r := rfl
@[simp] theorem State.group_of_taken (s : State) (tag : Tag) (c : HostCommand) (g : GroupId) : (s.taken tag c).group g = s.group g := rfl
@[simp] theorem State.queue_of_taken (s : State) (tag : Tag) (c : HostCommand) (d : Chan) : (s.taken tag c).queue d = s.queue d := rfl
@[simp] theorem State.nego_of_taken (s : State) (tag : Tag) (c : HostCommand) (d : Chan) : (s.taken tag c).nego d = s.nego d := rfl
@[simp] theorem State.engine_of_taken (s : State) (tag : Tag) (c : HostCommand) (d : Chan) : (s.taken tag c).engine d = s.engine d := rfl
@[simp] theorem State.policy_of_taken (s : State) (tag : Tag) (c : HostCommand) : (s.taken tag c).policy = s.policy := rfl
@[simp] theorem State.timing_of_taken (s : State) (tag : Tag) (c : HostCommand) : (s.taken tag c).timing = s.timing := rfl
@[simp] theorem State.thermal_of_taken (s : State) (tag : Tag) (c : HostCommand) : (s.taken tag c).thermal = s.thermal := rfl
@[simp] theorem State.monitor_of_taken (s : State) (tag : Tag) (c : HostCommand) : (s.taken tag c).monitor = s.monitor := rfl
@[simp] theorem State.now_of_taken (s : State) (tag : Tag) (c : HostCommand) : (s.taken tag c).now = s.now := rfl

theorem State.settled_answered {s : State} (h : s.Settled) (tag : Tag) (c : HostCommand) (status : Status) (detail : Detail) :
    (s.answered tag c status detail).Settled := h

/-- An admitted command answers what it makes of the state that has accepted it, with the conditions taken (R170, R172). -/
theorem exec_admitted {s t : State} {tag : Tag} {c : HostCommand} (hadmits : s.Admits tag) (h : takeCommand tag c (s.taken tag c) = t) :
    exec (c.instr tag) s = .next t.settle := by
  rw [exec_instr, hostCommand_of_admits tag c s hadmits, h]

/-- A command that is answered in its own event, with nothing else changed. -/
theorem exec_answered {s : State} {tag : Tag} {c : HostCommand} {status : Status} {detail : Detail} (hadmits : s.Admits tag)
    (h : takeCommand tag c (s.taken tag c) = (s.taken tag c).complete tag status detail) :
    exec (c.instr tag) s = .next (s.answered tag c status detail) := by
  obtain ⟨-, -, hfresh, -, -, hsettled⟩ := id hadmits
  rw [exec_instr, hostCommand_of_admits tag c s hadmits, h, State.complete_of_taken s tag c status detail hfresh,
    State.settle_of_settled _ (State.settled_answered hsettled tag c status detail)]

/-- Settles O8: the lowest failing field, then the state of the rank, and the table row by row. -/
theorem fieldAndStateChecks : Obligations.FieldAndStateChecks := by
  refine ⟨fun s tag c pos hadmits hbad hlow => ?_, fun s tag c slot r status hadmits hall hbyte hslot hstate => ?_, by decide⟩
  · exact exec_answered hadmits (takeCommand_of_bad (firstBad_eq_some (rangeChecks_sorted c) hbad hlow))
  · exact exec_answered hadmits (takeCommand_of_state hall hbyte hslot hstate)

/-! ### SET_TIMING -/

/-- Every slot is ABSENT or OFFLINE (R173). -/
theorem State.allRetired_iff {s : State} :
    s.allRetired = true ↔ ∀ r : Slot, (s.rank r).state = .absent ∨ (s.rank r).state = .offline := by
  have hall : ∀ r : Slot, r ∈ allSlots := by decide
  simp [State.allRetired, hall]

theorem timingChecks_of_legal {t : Timing} {limit : Nat} (h : t.Legal limit) : ∀ p ∈ timingChecks t, p.2 = true := by
  obtain ⟨h1, h2, h3, h4, h5, h6, h7, h8, h9, h10, h11, h12, h13, h14, h15, h16, -⟩ := h
  simp only [timingChecks, within, List.forall_mem_cons, Bool.and_eq_true, Bool.or_eq_true, decide_eq_true_eq, beq_iff_eq]
  exact ⟨h6, h7, h2, h8, h1, ⟨h4, h5⟩, h11, h10, h12, h14, h13, h3, h15, h9, h16, fun _ h => nomatch h⟩

theorem timing_budget_of_legal {t : Timing} {limit : Nat} (h : t.Legal limit) : maxTask t limit ≤ t.windowBudget := by
  obtain ⟨-, -, -, -, -, -, -, -, -, -, -, -, -, -, -, -, hbudget⟩ := h
  exact hbudget

/-- SET_TIMING once its ranges pass (R173). -/
theorem takeCommand_setTiming {s : State} {tag : Tag} {f : TimingFields} (h : ∀ p ∈ timingChecks (timingOf f), p.2 = true) :
    takeCommand tag (.setTiming f) s =
      if !s.allRetired then s.complete tag .rankState .none
      else if (timingOf f).windowBudget < maxTask (timingOf f) s.policy.postponeLimit then s.badParameter tag windowBudgetPosition
      else ({ s with timing := timingOf f }).complete tag .done .none := by
  simp only [takeCommand, runSetTiming, firstBad_of_all h]

/-- The command answered with the timing replaced in the same event. -/
theorem State.complete_withTiming {s : State} {tag : Tag} {c : HostCommand} (hadmits : s.Admits tag) (t : Timing) (st : Status) (d : Detail) :
    (({ s.taken tag c with timing := t } : State).complete tag st d).settle = { s.answered tag c st d with timing := t } := by
  obtain ⟨-, -, hfresh, -, -, hsettled⟩ := hadmits
  rw [State.complete_taken s _ tag c st d hfresh rfl]
  exact State.settle_of_settled _ hsettled

/-- Settles O13: the checks after the ranges one by one, and the values replaced where all pass. -/
theorem setTiming : Obligations.SetTiming := by
  intro s tag f hadmits
  have hretired : (∀ r : Slot, (s.rank r).state = .absent ∨ (s.rank r).state = .offline) →
      (s.taken tag (.setTiming f)).allRetired = true := fun hall => by simpa only [State.allRetired_iff, State.rank_of_taken] using hall
  refine ⟨fun hlegal hall => ?_, fun hchecks hin => ?_, fun hchecks hall hbudget => ?_⟩
  · have htake := takeCommand_setTiming (s := s.taken tag (.setTiming f)) (tag := tag) (timingChecks_of_legal hlegal)
    have hroom : ¬ (timingOf f).windowBudget < maxTask (timingOf f) (s.taken tag (.setTiming f)).policy.postponeLimit := by
      rw [State.policy_of_taken]
      exact Nat.not_lt.mpr (timing_budget_of_legal hlegal)
    rw [hretired hall, Bool.not_true, if_neg Bool.false_ne_true, if_neg hroom] at htake
    exact (exec_admitted (c := .setTiming f) hadmits htake).trans
      (congrArg Host.Outcome.next (State.complete_withTiming hadmits (timingOf f) .done .none))
  · obtain ⟨r, hr⟩ := hin
    have hnot : (s.taken tag (.setTiming f)).allRetired = false := by
      rw [← Bool.not_eq_true, State.allRetired_iff]
      intro h
      exact (State.rank_of_taken s tag (.setTiming f) r ▸ h r).elim hr.1 hr.2
    exact exec_answered (c := .setTiming f) hadmits
      (by rw [takeCommand_setTiming hchecks, hnot, Bool.not_false, if_pos rfl])
  · exact exec_answered (c := .setTiming f) hadmits
      (by rw [takeCommand_setTiming hchecks, hretired hall, Bool.not_true, if_neg Bool.false_ne_true, State.policy_of_taken,
        if_pos (show (timingOf f).windowBudget < _ from hbudget)]; rfl)

/-! ### Pops -/

/-- Settles O26: the head record read, and the LOST notice by the margin the pop leaves. -/
theorem popRemovesHead : Obligations.PopRemovesHead := by
  intro s hreset hsettled
  refine ⟨fun hempty => exec_of_settled hreset ?_ hsettled, fun head hhead => ?_⟩
  · simp [State.popHead, State.popWords, hempty]
  obtain ⟨rest, hrecords⟩ : ∃ rest, s.records = head :: rest := by
    cases h : s.records with
    | nil => simp [h] at hhead
    | cons x l => rw [h] at hhead; cases hhead; exact ⟨l, rfl⟩
  have hpop : s.popHead = ({ s with readData := head.words[3], records := rest } : State).reportLost := by
    simp [State.popHead, State.popWords, hrecords]
  rw [hrecords, List.tail_cons]
  refine ⟨fun hlost => exec_of_settled hreset ?_ hsettled, fun hlost hroom => exec_of_settled hreset ?_ hsettled,
    fun hlost hfull => exec_of_settled hreset ?_ hsettled, fun i => ?_⟩
  · simp only [effectOf, hpop, State.reportLost, hlost, true_or, if_true]
  · have hm : ({ s with readData := head.words[3], records := rest } : State).margin ≠ 0 := fun h =>
      Nat.not_le_of_lt hroom ((State.margin_eq_zero_iff _).mp h)
    simp only [effectOf, hpop, State.reportLost, hlost, hm, or_self, if_false]
    rw [State.notice_of_margin _ _ hm]
  · have hm : ({ s with readData := head.words[3], records := rest } : State).margin = 0 := (State.margin_eq_zero_iff _).mpr hfull
    simp only [effectOf, hpop, State.reportLost, hm, or_true, if_true]
  · fin_cases i <;> simp [State.readRegister, State.popWords, hrecords]

/-! ### Records of commands -/

theorem field_cast {w : Nat} (x : BitVec w) (h : w = 32) (lo len : Nat) : field (x.cast h) lo len = x.extractLsb' lo len :=
  BitVec.extractLsb'_cast

/-- The low field of a word put together of two. -/
theorem field_low {m n : Nat} (x : BitVec m) (y : BitVec n) (h : m + n = 32) : field ((x ++ y).cast h) 0 n = y :=
  (field_cast _ h 0 n).trans BitVec.extractLsb'_append_eq_right

/-- A field of the high part of a word put together of two. -/
theorem field_high {m n : Nat} (x : BitVec m) (y : BitVec n) (h : m + n = 32) (lo len : Nat) :
    field ((x ++ y).cast h) (n + lo) len = x.extractLsb' lo len := by
  rw [field_cast, BitVec.extractLsb'_append_eq_of_le (Nat.le_add_right n lo), Nat.add_sub_cancel_left]

/-- The second field of a word put together of three. -/
theorem field_middle {p m n : Nat} (z : BitVec p) (x : BitVec m) (y : BitVec n) (h : p + m + n = 32) :
    field ((z ++ x ++ y).cast h) n m = x :=
  (field_high (z ++ x) y h 0 m).trans BitVec.extractLsb'_append_eq_right

/-- The third field of a word put together of three. -/
theorem field_top {p m n : Nat} (z : BitVec p) (x : BitVec m) (y : BitVec n) (h : p + m + n = 32) :
    field ((z ++ x ++ y).cast h) (n + m) p = z :=
  (field_high (z ++ x) y h m p).trans BitVec.extractLsb'_append_eq_left

/-- The bytes of a word put together of four. -/
theorem field_bytes (a b c d : BitVec 8) :
    field (a ++ b ++ c ++ d : BitVec 32) 0 8 = d ∧ field (a ++ b ++ c ++ d : BitVec 32) 8 8 = c ∧
      field (a ++ b ++ c ++ d : BitVec 32) 16 8 = b ∧ field (a ++ b ++ c ++ d : BitVec 32) 24 8 = a :=
  ⟨field_low (a ++ b ++ c) d rfl, field_middle (a ++ b) c d rfl,
    (field_high (a ++ b ++ c) d rfl 8 8).trans ((BitVec.extractLsb'_append_eq_of_le (by decide)).trans BitVec.extractLsb'_append_eq_right),
    (field_high (a ++ b ++ c) d rfl 16 8).trans ((BitVec.extractLsb'_append_eq_of_le (by decide)).trans BitVec.extractLsb'_append_eq_left)⟩

theorem byteWord_field (b : BitVec 8) : field (byteWord b) 0 8 = b := field_low (0 : BitVec 24) b rfl

theorem configureWord_fields (group : BitVec 8) (address : BitVec 7) (present : Bool) :
    field (configureWord group address present) 0 8 = group ∧ field (configureWord group address present) 8 7 = address ∧
      (configureWord group address present).getLsbD 15 = present := by
  refine ⟨field_low ((0 : BitVec 16) ++ BitVec.ofBool present ++ address) group rfl,
    field_middle ((0 : BitVec 16) ++ BitVec.ofBool present) address group rfl, ?_⟩
  have hbit : field (configureWord group address present) 15 1 = BitVec.ofBool present :=
    (field_high ((0 : BitVec 16) ++ BitVec.ofBool present ++ address) group rfl 7 1).trans
      ((BitVec.extractLsb'_append_eq_of_le (by decide)).trans BitVec.extractLsb'_append_eq_right)
  have hzero := congrArg (fun w => BitVec.getLsbD w 0) hbit
  simpa [field] using hzero

/-- A word written beyond word 0 leaves word 0. -/
theorem stageRecord_word0 (tag : Tag) (c : HostCommand) (words : Record) : (stageRecord tag c words)[0] = recordWord0 tag c := by
  cases c <;> simp [stageRecord, parameterWords, timingWords, policyWords, thermalWords]

theorem readTiming_stage (tag : Tag) (f : TimingFields) (words : Record) : readTiming (stageRecord tag (.setTiming f) words) = f := by
  obtain ⟨napExit, napEntry, refreshBusy, deepEntry, baseInterval, calLong, windowBudget, deepSettle, grantWait, releaseWait,
    urgentGrantWait, calShort, tokenHold, deepExit, calPeriod⟩ := f
  obtain ⟨h1, h2, h3, h4⟩ := field_bytes deepEntry refreshBusy napEntry napExit
  simp only [readTiming, TimingFields.mk.injEq, stageRecord, parameterWords, timingWords, List.foldl_cons, List.foldl_nil]
  simp only [Vector.getElem_setIfInBounds, Nat.reduceEqDiff, if_true, if_false]
  exact ⟨h1, h2, h3, h4, field_low _ _ rfl, field_middle _ _ _ rfl, field_low _ _ rfl, field_middle _ _ _ rfl, field_low _ _ rfl,
    field_middle _ _ _ rfl, field_low _ _ rfl, field_middle _ _ _ rfl, field_low _ _ rfl, field_middle _ _ _ rfl, field_low _ _ rfl⟩

theorem readPolicy_stage (tag : Tag) (f : PolicyFields) (words : Record) :
    readPolicy (stageRecord tag (.setRefreshPolicy f) words) = f := by
  obtain ⟨postponeLimit, advanceLimit, urgentAt, gatherThreshold, advanceEnable⟩ := f
  obtain ⟨h1, h2, h3, h4⟩ := field_bytes gatherThreshold urgentAt advanceLimit postponeLimit
  simp only [readPolicy, PolicyFields.mk.injEq, stageRecord, parameterWords, policyWords, List.foldl_cons, List.foldl_nil]
  simp only [Vector.getElem_setIfInBounds, Nat.reduceEqDiff, if_true, if_false]
  exact ⟨h1, h2, h3, h4, byteWord_field _⟩

theorem readThermal_stage (tag : Tag) (f : ThermalFields) (words : Record) : readThermal (stageRecord tag (.setThermal f) words) = f := by
  obtain ⟨rise1, rise2, rise3, hyst, fallbackBand, pollPeriod, calDrift, busSpeed⟩ := f
  simp only [readThermal, ThermalFields.mk.injEq, stageRecord, parameterWords, thermalWords, List.foldl_cons, List.foldl_nil]
  simp only [Vector.getElem_setIfInBounds, Nat.reduceEqDiff, if_true, if_false]
  exact ⟨field_low _ _ rfl, (field_high _ _ rfl 0 16).trans BitVec.extractLsb'_eq_self, field_low _ _ rfl, field_middle _ _ _ rfl,
    field_top _ _ _ rfl, field_low _ _ rfl, (field_high _ _ rfl 0 8).trans BitVec.extractLsb'_eq_self, byteWord_field _⟩

/-- The word of a record that holds one parameter word. -/
theorem stageRecord_word1 {c : HostCommand} {w : Word} (h : parameterWords c = [(1, w)]) (tag : Tag) (words : Record) :
    (stageRecord tag c words)[1] = w := by
  simp [stageRecord, h]

/-- Settles O28: the four bytes of word 0, then the fields of the other words, command by command. -/
theorem recordRoundTrip : Obligations.RecordRoundTrip := by
  intro tag c words
  obtain ⟨hcode, htag, hslot, hchannel⟩ := field_bytes (c.channelByte.getD 0) (c.slotByte.getD 0) tag c.kind.code
  refine ⟨(congrArg (fun w => field w 8 8) (stageRecord_word0 tag c words)).trans htag, ?_⟩
  unfold decodeRecord
  simp only [stageRecord_word0, recordWord0, hcode, hslot, hchannel]
  cases c with
  | configureRank slot channel group address present =>
    obtain ⟨hgroup, haddress, hpresent⟩ := configureWord_fields group address present
    rw [stageRecord_word1 rfl, hgroup, haddress, hpresent]
    rfl
  | setBand slot b | refreshNow slot b | calibrate slot b => rw [stageRecord_word1 rfl, byteWord_field]; rfl
  | setTiming f => rw [readTiming_stage]; rfl
  | setRefreshPolicy f => rw [readPolicy_stage]; rfl
  | setThermal f => rw [readThermal_stage]; rfl
  | _ => rfl

end Sys2Proof.Machine
end

section
/-! SUPPORT and the proofs of O25, O24, O27. The register window: the packed words bit by bit, the snapshot's work fields, the writes. -/

namespace Sys2Proof.Machine

-- One declaration at a time keeps the check within its memory limit.
set_option Elab.async false

/-! ### Registers -/

theorem extract_above {m n lo len : Nat} {x : BitVec m} {y : BitVec n} {z : BitVec len} (h : x.extractLsb' lo len = z) :
    (x ++ y).extractLsb' (lo + n) len = z := by
  rw [BitVec.extractLsb'_append_eq_of_le (Nat.le_add_left n lo), Nat.add_sub_cancel_right, h]

theorem extract_lowest {m n : Nat} {x : BitVec m} {y : BitVec n} : (x ++ y).extractLsb' 0 n = y := BitVec.extractLsb'_append_eq_right

theorem bit_above {m n lo : Nat} {x : BitVec m} {y : BitVec n} {b : Bool} (h : x.getLsbD lo = b) : (x ++ y).getLsbD (lo + n) = b := by
  rw [BitVec.getLsbD_append, if_neg (by omega), Nat.add_sub_cancel_right, h]

theorem bit_lowest {m : Nat} {x : BitVec m} {b : Bool} : (x ++ BitVec.ofBool b).getLsbD 0 = b := by
  rw [BitVec.getLsbD_append, if_pos (by decide)]
  cases b <;> rfl

theorem NegState.code_bits (n : NegState) : BitVec.ofNat 3 n.code = (match n with
    | .idle => 0 | .requesting => 1 | .stalled => 2 | .opened => 3 | .draining => 4 | .releasing => 5) := by
  cases n <;> rfl

theorem GroupState.code_bits (x : GroupState) : BitVec.ofNat 2 x.code = (match x with
    | .free => 0 | .held => 1 | .calibrating => 2) := by
  cases x <;> rfl

theorem State.statusWord_bits (s : State) :
    s.statusWord.getLsbD 0 = s.drain ∧ s.statusWord.extractLsb' 1 3 = BitVec.ofNat 3 (s.nego .a).state.code ∧
      s.statusWord.extractLsb' 4 3 = BitVec.ofNat 3 (s.nego .b).state.code ∧
      (∀ g : GroupId, s.statusWord.extractLsb' (7 + 2 * g.val) 2 = BitVec.ofNat 2 (s.group g).state.code) ∧
      s.statusWord.getLsbD 15 = !s.monitor.polling ∧
      s.statusWord.getLsbD 16 = (s.engine .a).resetMark ∧ s.statusWord.getLsbD 17 = (s.engine .b).resetMark ∧
      s.statusWord.getLsbD 18 = decide ((s.engine .a).state = .busy) ∧ s.statusWord.getLsbD 19 = decide ((s.engine .b).state = .busy) ∧
      s.statusWord.extractLsb' 20 12 = 0 := by
  refine ⟨bit_lowest, extract_above extract_lowest, extract_above (extract_above extract_lowest), fun g => ?_, ?_⟩
  · fin_cases g
    · exact extract_above (extract_above (extract_above extract_lowest))
    · exact extract_above (extract_above (extract_above (extract_above extract_lowest)))
    · exact extract_above (extract_above (extract_above (extract_above (extract_above extract_lowest))))
    · exact extract_above (extract_above (extract_above (extract_above (extract_above (extract_above extract_lowest)))))
  have hlow : ∀ {m : Nat} {x : BitVec m} {lo : Nat} {b : Bool}, x.getLsbD lo = b →
      (x ++ BitVec.ofNat 2 (s.group 3).state.code ++ BitVec.ofNat 2 (s.group 2).state.code ++ BitVec.ofNat 2 (s.group 1).state.code ++
        BitVec.ofNat 2 (s.group 0).state.code ++ BitVec.ofNat 3 (s.nego .b).state.code ++ BitVec.ofNat 3 (s.nego .a).state.code ++
        BitVec.ofBool s.drain).getLsbD (lo + 15) = b := fun h =>
    bit_above (bit_above (bit_above (bit_above (bit_above (bit_above (bit_above h))))))
  exact ⟨hlow bit_lowest, hlow (bit_above bit_lowest), hlow (bit_above (bit_above bit_lowest)),
    hlow (bit_above (bit_above (bit_above bit_lowest))), hlow (bit_above (bit_above (bit_above (bit_above bit_lowest)))),
    extract_above (extract_above (extract_above (extract_above (extract_above (extract_above (extract_above (extract_above
      (extract_above (extract_above (extract_above (extract_above BitVec.extractLsb'_eq_self)))))))))))⟩

theorem State.controlWord_bits (s : State) :
    s.controlWord.getLsbD 0 = false ∧ s.controlWord.getLsbD 1 = s.intEnable ∧ s.controlWord.extractLsb' 2 6 = 0 ∧
      s.controlWord.extractLsb' 8 7 = BitVec.ofNat 7 s.intThreshold ∧ s.controlWord.extractLsb' 15 17 = 0 := by
  have hzero : ∀ {m : Nat} {x : BitVec m}, (x ++ (0 : BitVec 1)).getLsbD 0 = false := by
    intro m x
    rw [BitVec.getLsbD_append, if_pos (by decide)]
    rfl
  exact ⟨hzero, bit_above bit_lowest, extract_above (extract_above extract_lowest),
    extract_above (extract_above (extract_above extract_lowest)),
    extract_above (extract_above (extract_above (extract_above BitVec.extractLsb'_eq_self)))⟩

theorem State.reportCountWord_bits (s : State) :
    s.reportCountWord.extractLsb' 0 7 = BitVec.ofNat 7 s.records.length ∧
      s.reportCountWord.extractLsb' 8 5 = BitVec.ofNat 5 s.outstanding.length ∧
      s.reportCountWord.extractLsb' 16 7 = BitVec.ofNat 7 s.margin :=
  ⟨extract_lowest, extract_above (extract_above extract_lowest), extract_above (extract_above (extract_above (extract_above extract_lowest)))⟩

/-- Every offset that 10.1 does not list reads 0. -/
theorem State.readRegister_unlisted (s : State) {offset : Nat} (h : (0x04C < offset ∧ offset < 0x100) ∨ (0x17C < offset ∧ offset < 0x200) ∨
    0x21C < offset) : s.readRegister offset = 0 := by
  unfold State.readRegister
  by_cases haligned : offset % 4 ≠ 0
  · rw [if_pos haligned]
  · rw [if_neg haligned, if_neg (by omega), if_neg (by omega), if_neg (by omega), if_neg (by omega), if_neg (by omega), if_neg (by omega),
      if_neg (by omega), if_neg (by omega), if_neg (by omega), if_neg (by omega), if_neg (by omega)]

/-- Settles O25: the two CONTROL rows and the tick as their effects, and the registers word by word. -/
theorem controlAndTimestamp : Obligations.ControlAndTimestamp := by
  intro s
  obtain ⟨hdrain, ha, hb, hgroups, hpolling, hrest⟩ := s.statusWord_bits
  refine ⟨fun hreset hsettled => ⟨fun enable => exec_of_settled hreset rfl hsettled, fun enable threshold => ?_, ?_⟩, ?_, ?_, ?_,
    rfl, rfl, rfl, ?_, rfl, fun i => ?_, fun offset h => s.readRegister_unlisted h⟩
  · exact exec_of_settled hreset rfl hsettled
  · exact exec_of_settled hreset rfl hsettled
  · exact ⟨hdrain, ha.trans (NegState.code_bits _), hb.trans (NegState.code_bits _), fun g => (hgroups g).trans (GroupState.code_bits _),
      hpolling, hrest⟩
  · exact s.controlWord_bits
  · exact s.reportCountWord_bits
  · cases h : s.submitStatus <;> simp [State.readRegister, h, SubmitStatus.code]
  · fin_cases i <;> simp [State.readRegister]

/-! ### Snapshots -/

theorem TaskKind.place_eq_refresh {k : TaskKind} : k.place = .refresh ↔ k = .refresh := by cases k <;> decide

theorem TaskKind.place_eq_calibration {k : TaskKind} : k.place = .calibration ↔ k = .calShort ∨ k = .calLong := by cases k <;> decide

theorem TaskKind.place_eq_pool {k : TaskKind} : k.place = .pool ↔ k = .refreshNow := by cases k <;> decide

theorem TaskKind.place_eq_power {k : TaskKind} :
    k.place = .power ↔ k = .napEnter ∨ k = .napExit ∨ k = .deepEnter ∨ k = .deepExit := by cases k <;> decide

/-- The snapshot with its work fields as lookups of the rank's tasks, its group and its channel's engine (R20). -/
theorem State.snapshot_eq (s : State) (r : Slot) :
    let tasks := match (s.rank r).channel with
      | none => []
      | some ch => (s.queue ch).tasks
    s.refreshPart r = (match tasks.find? (fun x => x.rank = r ∧ x.kind = .refresh) with
      | none => .none
      | some x => if x.cls = .urgent then .urgent else .routine) ∧
    s.powerPart r = (tasks.find? (fun x => x.rank = r ∧
      (x.kind = .napEnter ∨ x.kind = .napExit ∨ x.kind = .deepEnter ∨ x.kind = .deepExit))).map Task.kind := by
  have hplace : ∀ (p : TaskSlot) (t : Task), (t.rank == r && t.kind.place == p) = decide (t.rank = r ∧ t.kind.place = p) := by
    intro p t
    rw [Bool.decide_and]
    rfl
  simp only [State.refreshPart, State.powerPart, State.taskAt, hplace, TaskKind.place_eq_refresh, TaskKind.place_eq_power]
  cases (s.rank r).channel with
  | none => exact ⟨rfl, rfl⟩
  | some ch => exact ⟨rfl, rfl⟩

/-- The rank's part in its group (R20), its waiting entry as an entry of the list. -/
theorem State.calPart_eq (s : State) (r : Slot) : s.calPart r = (match (s.rank r).group with
    | none => .none
    | some g =>
      if (s.group g).holder = some r then
        match (s.group g).state with
        | .free => .none
        | .held => .held
        | .calibrating => .calibrating
      else if ∃ e ∈ (s.group g).waiting, e.rank = r then .waiting
      else .none) := by
  unfold State.calPart
  cases (s.rank r).group with
  | none => rfl
  | some g =>
    by_cases hholder : (s.group g).holder = some r
    · simp only [if_pos hholder]
      cases (s.group g).state <;> rfl
    · simp only [if_neg hholder, List.any_eq_true, beq_iff_eq]

/-- The flight of the rank's channel, if it is the rank's (R20). -/
theorem State.executingFor_eq (s : State) (r : Slot) : s.executingFor r = (match (match (s.rank r).channel with
      | none => none
      | some c => (s.engine c).flight) with
    | none => none
    | some f => if f.rank = r then some f.kind else none) := by
  unfold State.executingFor
  cases (s.rank r).channel <;> rfl

theorem takeCommand_queryRank {u : State} {tag : Tag} {slot : BitVec 8} {r : Slot} (hslot : slotOf slot = some r) :
    takeCommand tag (.queryRank slot) u = u.complete tag .done (.snapshot (u.snapshot r)) := by
  have hpasses : ∀ p ∈ slotChecks slot, p.2 = true := by
    intro p hp
    rw [List.mem_singleton.mp hp, hslot]
    rfl
  have hstate : stateCheck .queryRank (u.rank r).state = none := by cases (u.rank r).state <;> rfl
  show runQueryRank tag slot u = _
  unfold runQueryRank
  exact State.rankCommand_of_passed hpasses hslot hstate

/-- Settles O24: the snapshot's work fields as lookups, and a capture read back word by word. -/
theorem snapshots : Obligations.Snapshots := by
  refine ⟨fun s tag slot r hadmits hslot => ?_, fun s hreset hsettled => ⟨fun r => ?_, fun g => ?_⟩⟩
  · obtain ⟨hrefresh, hpower⟩ := s.snapshot_eq r
    have htake : takeCommand tag (.queryRank slot) (s.taken tag (.queryRank slot)) =
        (s.taken tag (.queryRank slot)).complete tag .done (.snapshot (s.snapshot r)) :=
      takeCommand_queryRank hslot
    refine (exec_answered (c := .queryRank slot) hadmits htake).trans ?_
    rw [State.snapshot, hrefresh, hpower, State.calPart_eq, State.executingFor_eq] <;> rfl
  · refine ⟨_, exec_of_settled hreset rfl hsettled, rfl, ?_, ?_, ?_⟩ <;> fin_cases r <;>
      simp [State.readRegister, State.rankRead, State.capture] <;> rfl
  · refine ⟨_, exec_of_settled hreset rfl hsettled, rfl, ?_⟩
    fin_cases g <;> simp [State.readRegister, State.groupRead, State.capture] <;> rfl

/-- A write to an aligned offset that is neither CONTROL, SUBMIT nor a staging word is ignored. -/
theorem State.writeRegister_ignored (s : State) (write : WindowWrite) {offset : Nat} (hcontrol : offset ≠ 0x008) (hsubmit : offset ≠ 0x010)
    (hrange : offset < 0x020 ∨ 0x03C < offset) : s.writeRegister offset write = s := by
  unfold State.writeRegister
  simp only []
  rw [if_neg hcontrol, if_neg hsubmit, if_neg (show ¬(0x020 ≤ offset ∧ offset ≤ 0x03C) by omega), ite_self]

theorem State.writeRegister_staging (s : State) (write : WindowWrite) (i : Fin 8) :
    s.writeRegister (0x020 + 4 * i.val) write = { s with staging := s.staging.set i write.word } := by
  unfold State.writeRegister
  have hindex : (0x020 + 4 * i.val - 0x020) / 4 = i.val := by omega
  rw [if_neg (by omega), if_neg (by omega), if_neg (by omega), if_pos (by omega), hindex]
  congr 1
  exact Vector.ext fun j hj => by simp [Vector.getElem_set, Vector.getElem_setIfInBounds]

theorem State.writeRegister_control (s : State) (write : WindowWrite) : s.writeRegister 0x008 write =
    s.writeControl (write.word.getLsbD 0) { enable := write.word.getLsbD 1, threshold := write.word.extractLsb' 8 7 } write.sda := rfl

theorem State.writeRegister_submit (s : State) (write : WindowWrite) : s.writeRegister 0x010 write = s.submitStaged := rfl

/-- Settles O27: a staging word, the ignored offsets, and the rows of CONTROL and SUBMIT as the effects of their own rows. -/
theorem registerWrite : Obligations.RegisterWrite := by
  intro s write hreset hsettled
  refine ⟨fun i => ?_, fun offset _ hcontrol hsubmit hrange => ?_, fun hsoft => ?_, fun hsoft => ?_, fun tag c => ?_, fun hnone => ?_⟩
  · have hoffset : (BitVec.ofNat 12 (0x020 + 4 * i.val)).toNat = 0x020 + 4 * i.val := by
      rw [BitVec.toNat_ofNat, Nat.mod_eq_of_lt (by omega)]
    exact exec_of_settled hreset ((congrArg (s.writeRegister · write) hoffset).trans (s.writeRegister_staging write i)) hsettled
  · exact exec_of_settled hreset (s.writeRegister_ignored write hcontrol hsubmit hrange) hsettled
  · have heffect : s.writeRegister 0x008 write = s.writeControl false
        { enable := write.word.getLsbD 1, threshold := write.word.extractLsb' 8 7 } true := by
      rw [s.writeRegister_control, hsoft]
      rfl
    rw [exec_next hreset, exec_next hreset]
    exact congrArg (Host.Outcome.next ∘ State.settle) heffect
  · have heffect := s.writeRegister_control write
    rw [hsoft] at heffect
    rw [exec_next hreset, exec_next hreset]
    exact congrArg (Host.Outcome.next ∘ State.settle) heffect
  · obtain ⟨htag, hcommand⟩ := recordRoundTrip tag c s.staging
    rw [exec_next (s := { s with staging := stageRecord tag c s.staging }) hreset, exec_next hreset (exec_instr_event tag c s), effectOf_instr]
    refine congrArg (Host.Outcome.next ∘ State.settle) ((State.writeRegister_submit _ write).trans ?_)
    unfold State.submitStaged
    rw [htag, hcommand]
    rfl
  · have hself : ({ s with staging := s.staging.set 0 s.staging[0] } : State) = s := by rw [Vector.set_getElem_self]
    rw [exec_next hreset, exec_next hreset]
    exact congrArg (Host.Outcome.next ∘ State.settle ∘ State.submitStaged) hself.symm

end Sys2Proof.Machine
end

section
/-! SUPPORT and the proofs of O29 to O33, O6, O49: the edges of the handshake's lines, its timers, the soft-reset drain, and where tasks
begin (R133 to R151, R184). -/

namespace Sys2Proof.Machine

-- Proofs are elaborated one after the other, which bounds the memory a compile reserves.
set_option Elab.async false

/-! ### Conditions left taken -/

/-- A write of one negotiator leaves the conditions taken where the new negotiator has taken its own. -/
theorem State.Settled.of_nego {s t : State} {c : Chan} {n : Negotiator} (h : s.Settled)
    (hrequest : ∀ d, t.requestCondition d = s.requestCondition d) (hurgency : ∀ d, t.urgencyCondition d = s.urgencyCondition d)
    (hnego : ∀ d, t.nego d = if d = c then n else s.nego d)
    (hidle : n.state = .idle → n.qgnt = false → s.requestCondition c = false)
    (hopen : n.state = .requesting ∨ n.state = .opened → s.urgencyCondition c = true → n.qurg = true) : t.Settled := by
  have hon : ∀ d, s.SettledOn d → t.SettledOn d := by
    intro d hd
    unfold State.SettledOn
    rw [hrequest, hurgency, hnego]
    split
    · next hdc => subst hdc; exact ⟨hidle, hopen⟩
    · exact hd
  exact ⟨hon .a h.1, hon .b h.2⟩

theorem State.Settled.on {s : State} (h : s.Settled) (c : Chan) : s.SettledOn c := by
  cases c
  · exact h.1
  · exact h.2

theorem State.Settled.setNego {s : State} (h : s.Settled) {c : Chan} {n : Negotiator}
    (hidle : n.state = .idle → n.qgnt = false → s.requestCondition c = false)
    (hopen : n.state = .requesting ∨ n.state = .opened → s.urgencyCondition c = true → n.qurg = true) : (s.setNego c n).Settled :=
  h.of_nego (fun _ => rfl) (fun _ => rfl) (fun d => s.nego_setNego c d n) hidle hopen

/-- A negotiator that is neither idle with QGNT low, nor REQUESTING, nor OPEN has nothing to take. -/
theorem State.Settled.setNego_of_other {s : State} (h : s.Settled) {c : Chan} {n : Negotiator}
    (hidle : n.state = .idle → n.qgnt = true) (hopen : n.state ≠ .requesting ∧ n.state ≠ .opened) : (s.setNego c n).Settled :=
  h.setNego (fun hi hg => absurd (hg.symm.trans (hidle hi)) (by decide)) fun ho _ => absurd ho (by simp [hopen])

theorem State.Settled.notice {s : State} (h : s.Settled) (b : Notice) : (s.notice b).Settled := by
  rw [State.notice_frame]; exact h

theorem State.Settled.reach {s : State} (h : s.Settled) (due : Nat) : (s.reach due).Settled := h

/-- An engine's write that keeps the reset mark leaves the conditions as they are. -/
theorem State.Settled.setEngine {s : State} (h : s.Settled) {c : Chan} {e : Engine} (hmark : e.resetMark = (s.engine c).resetMark) :
    (s.setEngine c e).Settled := by
  have hresetting : ∀ d, (s.setEngine c e).resetting d = s.resetting d := by
    intro d
    by_cases hd : d = c
    · subst hd; simpa [State.resetting] using hmark
    · simp [State.resetting, State.engine_setEngine_ne _ _ hd]
  refine h.of_nego (c := c) (n := s.nego c) (fun d => ?_) (fun d => ?_) (fun d => ?_) (h.on c).1 (h.on c).2
  · simp only [State.requestCondition, State.reports, hresetting]; rfl
  · simp only [State.urgencyCondition, State.reports, hresetting]; rfl
  · split
    · next hd => rw [hd]; rfl
    · rfl

theorem Negotiator.takes_of_other {n : Negotiator} {urgency request : Bool} {due : Nat}
    (h : n.state ≠ .idle ∧ n.state ≠ .requesting ∧ n.state ≠ .opened) : n.takes urgency request due = n := by
  obtain ⟨hidle, hrequesting, hopened⟩ := h
  simp [Negotiator.takes, hidle, hrequesting, hopened]

theorem Negotiator.takes_of_opened {n : Negotiator} (h : n.state = .opened) (urgency request : Bool) (due : Nat) :
    n.takes urgency request due = { n with qurg := n.qurg || urgency } := by
  cases n
  cases h
  cases urgency <;> simp [Negotiator.takes]

/-! ### The edges of the lines -/

/-- Settles O31: the effect of a fall by the stage it meets. -/
theorem grantFall : Obligations.GrantFall := by
  intro s c hreset hhigh
  have hexec : exec (.qgntFall c) s = .next (s.grantFall c).settle := by
    rw [exec_next hreset]
    simp only [effectOf, if_pos hhigh]
  refine ⟨fun hs => ?_, fun hs => ?_, fun hsettled hs hl => ?_, fun hs => ⟨fun f hf hsettled => ?_, fun hf => ?_⟩⟩
  · rw [hexec, State.grantFall_of_level (.inl hs)]
  · rw [hexec, State.grantFall_of_releasing hs]
  · rw [hexec, State.grantFall_of_level (.inr (.inr (.inr ⟨hs, hl⟩)))]
    exact congrArg _ (State.settle_of_settled _ (hsettled.setNego_of_other (by simp [hs]) (by simp [hs])))
  · rw [hexec, State.grantFall_of_flight hs hf]
    exact congrArg _ (State.settle_of_settled _ ((hsettled.notice _).setNego_of_other (by simp) (by simp)))
  · rw [hexec, State.grantFall_of_no_flight hs hf]

/-- Settles O32: the effect of a recall by the stage and the engine it meets. -/
theorem recallEdges : Obligations.RecallEdges := by
  intro s c hreset hsettled
  obtain ⟨hidle, hopen⟩ := hsettled.on c
  refine ⟨fun hlow => ?_, ?_⟩
  · have hexec : ∀ t, s.recallRise c = t → t.Settled → exec (.qrclRise c) s = .next t := by
      intro t ht hsettled'
      refine exec_of_settled hreset ?_ hsettled'
      simp only [effectOf, hlow, Bool.false_eq_true, if_false, ht]
    refine ⟨fun hs => ?_, fun hs hf => ?_, fun hs hf => ?_⟩
    · exact hexec _ (State.recallRise_of_not_opened hs) (hsettled.setNego hidle hopen)
    · exact hexec _ (State.recallRise_of_flight hs hf) (hsettled.setNego_of_other (by simp) (by simp))
    · exact hexec _ (State.recallRise_of_no_flight hs hf) (hsettled.setNego_of_other (by simp) (by simp))
  · exact exec_of_settled hreset rfl (hsettled.setNego hidle hopen)

/-- A request that is escalated or urgent already becomes STALLED (R137). -/
theorem State.grantExpiry_of_late {s : State} {c : Chan} (h : (s.nego c).escalated = true ∨ (s.nego c).qurg = true) :
    s.grantExpiry c = (s.notice (.windowTimeout c (s.nego c).escalated)).setNego c
      { s.nego c with state := .stalled, grantTimer := none, escalated := false } := by
  unfold State.grantExpiry
  simp only
  by_cases hescalated : (s.nego c).escalated = true
  · rw [if_pos hescalated, hescalated]
    exact State.setNego_notice _ _ _ _
  · rw [if_neg hescalated, if_pos (h.resolve_left hescalated), (by simpa using hescalated : (s.nego c).escalated = false)]
    exact State.setNego_notice _ _ _ _

/-- Settles O33: the two expiries by the marks they meet. -/
theorem handshakeTimers : Obligations.HandshakeTimers := by
  intro s c due hreset hsettled
  have hreached : (s.reach due).Settled := hsettled.reach due
  refine ⟨fun hs htimer => ⟨fun hescalated hurgent => ?_, fun hlate => ?_⟩, fun hs htimer => ?_⟩
  · refine exec_of_settled hreset ?_ (hreached.setNego ?_ ?_)
    · simp [effectOf, htimer, State.expire, State.grantExpiry, hescalated, hurgent]
      rfl
    · simp [hs]
    · exact fun _ _ => rfl
  · refine exec_of_settled hreset ?_ ((hreached.notice _).setNego_of_other (by simp) (by simp))
    simp only [effectOf, htimer, State.expire]
    exact State.grantExpiry_of_late hlate
  · cases hmark : (s.nego c).releaseMark with
    | true =>
      refine exec_of_settled hreset ?_ (hreached.setNego_of_other (by simp [hs]) (by simp [hs]))
      simp only [effectOf, htimer, State.expire, State.releaseExpiry, State.nego_of_reach, hmark]
      rfl
    | false =>
      refine exec_of_settled hreset ?_ ((hreached.notice _).setNego_of_other (by simp [hs]) (by simp [hs]))
      simp only [effectOf, htimer, State.expire, State.releaseExpiry, State.nego_of_reach, hmark]
      exact State.setNego_notice _ _ _ _

/-! ### What a selection keeps of the ranks and the reports -/

/-- Every rank's state and band as before, and the records extended at their end. -/
structure State.Steady (s t : State) : Prop where
  rank : ∀ r : Slot, (t.rank r).state = (s.rank r).state ∧ (t.rank r).band = (s.rank r).band
  records : s.records <+: t.records

namespace State.Steady

variable {s t u : State}

theorem refl (s : State) : s.Steady s := ⟨fun _ => ⟨rfl, rfl⟩, List.prefix_rfl⟩

theorem trans (h : s.Steady t) (h' : t.Steady u) : s.Steady u :=
  ⟨fun r => ⟨(h'.rank r).1.trans (h.rank r).1, (h'.rank r).2.trans (h.rank r).2⟩, h.records.trans h'.records⟩

theorem after (h : t.Steady u) (h' : s.Steady t) : s.Steady u := h'.trans h

theorem of_eq (hranks : t.ranks = s.ranks) (hrecords : t.records = s.records) : s.Steady t := by
  refine ⟨fun r => ?_, hrecords ▸ List.prefix_rfl⟩
  rw [State.rank, State.rank, hranks]
  exact ⟨rfl, rfl⟩

theorem setRank (s : State) {r : Slot} {k : Rank} (hstate : k.state = (s.rank r).state) (hband : k.band = (s.rank r).band) :
    s.Steady (s.setRank r k) := by
  refine ⟨fun q => ?_, List.prefix_rfl⟩
  rw [State.rank_setRank]
  split
  · next h => rw [h]; exact ⟨hstate, hband⟩
  · exact ⟨rfl, rfl⟩

theorem notice (s : State) (b : Notice) : s.Steady (s.notice b) := by
  obtain ⟨l, hl⟩ := s.notice_records b
  refine ⟨fun r => ?_, l, hl.symm⟩
  rw [State.notice_frame]
  exact ⟨rfl, rfl⟩

theorem complete (s : State) (tag : Tag) (st : Status) (d : Detail) : s.Steady (s.complete tag st d) := by
  refine ⟨fun r => ?_, ?_⟩
  · rw [State.complete_frame]; exact ⟨rfl, rfl⟩
  · unfold State.complete
    split
    · exact List.prefix_rfl
    · exact List.prefix_append _ _

theorem completeTag (s : State) (tag : Option Tag) (st : Status) (d : Detail) : s.Steady (s.completeTag tag st d) := by
  cases tag with
  | none => exact .refl s
  | some t => exact .complete s t st d

end State.Steady

theorem State.setRefreshClass_steady (s : State) (r : Slot) : s.Steady (s.setRefreshClass r) := by
  rw [State.setRefreshClass_frame]; exact .of_eq rfl rfl

theorem State.reevaluate_steady (s : State) (r : Slot) : s.Steady (s.reevaluate r) := by
  unfold State.reevaluate
  simp only
  split
  · refine State.Steady.trans ?_ (State.setRefreshClass_steady _ r)
    split
    · exact (State.Steady.notice _ _).after (.setRank s rfl rfl)
    · exact .setRank s rfl rfl
  · exact .refl s

theorem State.writeBalance_steady (s : State) (r : Slot) (b : Int) : s.Steady (s.writeBalance r b) :=
  (State.reevaluate_steady _ r).after (.setRank s rfl rfl)

theorem State.withdrawRefresh_steady (s : State) (r : Slot) : s.Steady (s.withdrawRefresh r) := by
  unfold State.withdrawRefresh
  split
  · exact .refl s
  · exact .of_eq rfl rfl

theorem State.creditAhead_steady (s : State) (r : Slot) (n : Nat) : s.Steady (s.creditAhead r n) := by
  have h := s.writeBalance_steady r ((s.rank r).balance + n)
  unfold State.creditAhead
  simp only
  split
  · exact h.trans (State.withdrawRefresh_steady _ r)
  · exact h

theorem State.closeAccount_steady (s : State) (r : Slot) : s.Steady (s.closeAccount r) :=
  (State.withdrawRefresh_steady _ r).after (.setRank s rfl rfl)

theorem State.ownersStart_steady (s : State) (r : Slot) (kind : TaskKind) (n : Nat) : s.Steady (s.ownersStart r kind n) := by
  have hcal : s.Steady (s.startCalibrating r) := by
    unfold State.startCalibrating
    split
    · exact .refl s
    · exact .of_eq rfl rfl
  cases kind with
  | refresh => exact s.writeBalance_steady r _
  | refreshNow => exact s.creditAhead_steady r n
  | calShort | calLong => exact hcal
  | deepEnter => exact (s.closeAccount_steady r).trans (.setRank _ rfl rfl)
  | napEnter | napExit | deepExit => exact .refl s

theorem State.finishInstant_steady (s : State) (c : Chan) (t : Task) : s.Steady (s.finishInstant c t) := by
  have hremoved : s.Steady (s.removeTasks c (fun u => decide (u = t))) := .of_eq rfl rfl
  unfold State.finishInstant
  simp only
  split <;> exact hremoved.trans (.completeTag _ _ _ _)

theorem State.startTask_steady (s : State) (c : Chan) (t : Task) (p : Plan) : s.Steady (s.startTask c t p) :=
  (State.ownersStart_steady _ _ _ _).after (.of_eq rfl rfl)

theorem State.startFill_steady (s : State) (c : Chan) (r : Slot) : s.Steady (s.startFill c r) := by
  rw [State.startFill_eq]
  exact (State.creditAhead_steady _ _ _).after (.of_eq rfl rfl)

theorem State.select_steady (c : Chan) (fuel : Nat) (s : State) : s.Steady (State.select c fuel s) := by
  induction fuel generalizing s with
  | zero => exact .of_eq rfl rfl
  | succ fuel ih =>
    unfold State.select
    split
    · split
      · exact (s.finishInstant_steady c _).trans (ih _)
      · exact s.startTask_steady c _ _
    · split
      · exact s.startFill_steady c _
      · exact .of_eq rfl rfl

theorem State.runSelection_steady (s : State) (c : Chan) : s.Steady (s.runSelection c) :=
  (State.select_steady c _ _).after (.of_eq rfl rfl)

theorem State.scanAll_steady (s : State) : s.Steady s.scanAll := by
  rw [State.scanAll_frame]; exact .of_eq rfl rfl

theorem State.settle_steady (s : State) : s.Steady s.settle := by
  rw [State.settle_frame]; exact .of_eq rfl rfl

/-! ### Grants -/

/-- A grant in REQUESTING opens the window (R139). -/
theorem State.grantRise_of_requesting {s : State} {c : Chan} (hs : (s.nego c).state = .requesting) : s.grantRise c =
    (s.setNego c { s.nego c with state := .opened, qgnt := true, grantTimer := none, escalated := false }).openEngine c := by
  simp [State.grantRise, State.openNego, hs]

/-- A grant in STALLED opens the window after its notice and the scans (R138, R139). -/
theorem State.grantRise_of_stalled {s : State} {c : Chan} (hs : (s.nego c).state = .stalled) : s.grantRise c =
    (((s.notice (.windowRecovered c)).setNego c
      { s.nego c with state := .opened, qgnt := true, grantTimer := none, escalated := false }).scanAll).openEngine c := by
  simp [State.grantRise, State.openNego, State.setNego_notice, hs]

/-- A grant that meets no request is answered by its notice and the level (R135, R144). -/
theorem State.grantRise_of_unsolicited {s : State} {c : Chan}
    (hs : (s.nego c).state = .idle ∨ ((s.nego c).state = .draining ∧ (s.nego c).lost = true)) :
    s.grantRise c = (s.notice (.unsolicitedGrant c)).setNego c { s.nego c with qgnt := true } := by
  obtain hs | ⟨hs, hl⟩ := hs
  · simp [State.grantRise, State.setNego_notice, hs]
  · simp [State.grantRise, State.setNego_notice, hs, hl]

theorem exec_qgntRise {s : State} {c : Chan} (hreset : s.inReset = false) (hlow : (s.nego c).qgnt = false) :
    exec (.qgntRise c) s = .next (s.grantRise c).settle := by
  rw [exec_next hreset]
  simp only [effectOf, hlow, Bool.false_eq_true, if_false]

/-- A window opened from STALLED once its scans are done (R138, R139). -/
def State.windowScanned (s : State) (c : Chan) : State :=
  ((s.notice (.windowRecovered c)).setNego c
    { s.nego c with state := .opened, qgnt := true, grantTimer := none, escalated := false }).scanAll

theorem State.windowScanned_eq (s : State) (c : Chan) :
    (s.windowScanned c).nego c = { s.nego c with state := .opened, qgnt := true, grantTimer := none, escalated := false } ∧
      (∀ d, (s.windowScanned c).engine d = s.engine d) ∧ (s.windowScanned c).now = s.now ∧ (s.windowScanned c).timing = s.timing ∧
      (s.windowScanned c).monitor = s.monitor ∧ (s.notice (.windowRecovered c)).Steady (s.windowScanned c) := by
  have hq := State.scanAll_quiet (free := False) ((s.notice (.windowRecovered c)).setNego c
    { s.nego c with state := .opened, qgnt := true, grantTimer := none, escalated := false })
  refine ⟨?_, fun d => ?_, ?_, ?_, ?_, ?_⟩ <;> unfold State.windowScanned
  · rw [hq.nego_eq, State.nego_setNego_self]
  · rw [hq.engine_eq, State.notice_frame]; rfl
  · rw [hq.now_eq, State.notice_frame]; rfl
  · rw [hq.timing_eq, State.notice_frame]; rfl
  · rw [hq.monitor_eq, State.notice_frame]; rfl
  · exact (State.scanAll_steady _).after (.of_eq rfl rfl)

/-- Settles O29: the unsolicited grant, and the opening that is recalled at once. -/
theorem grantWithoutWindow : Obligations.GrantWithoutWindow := by
  intro s c hreset hsettled hlow
  refine ⟨fun hs => ?_, fun hrecalled hf => ⟨fun hs => ?_, fun hs => ?_⟩⟩
  · rw [exec_qgntRise hreset hlow, State.grantRise_of_unsolicited hs]
    refine congrArg _ (State.settle_of_settled _ ((hsettled.notice _).setNego_of_other (fun _ => rfl) ?_))
    obtain hs | ⟨hs, -⟩ := hs <;> simp [hs]
  · rw [exec_qgntRise hreset hlow, State.grantRise_of_requesting hs, State.openEngine_of_recalled (by simpa using hrecalled) (by simpa using hf)]
    have hsettled' := (hsettled.setNego_of_other (c := c)
      (n := { s.nego c with
        state := .releasing, qreq := false, qurg := false, qgnt := true, grantTimer := none, escalated := false
        releaseTimer := some (s.now + s.timing.releaseWait), releaseMark := false, lost := false, cause := .recall })
      (by simp) (by simp)).setEngine (c := c)
      (e := { s.engine c with state := .standby, budget := s.timing.windowBudget, sampled := none }) rfl
    refine congrArg _ (Eq.trans ?_ (State.settle_of_settled _ hsettled'))
    simp [State.setEngine_setNego]
  · obtain ⟨hnego, hengine, hnow, htiming, hmonitor, -⟩ := s.windowScanned_eq c
    have heffect : s.grantRise c = (s.windowScanned c).openEngine c := State.grantRise_of_stalled hs
    have hranks : (s.windowScanned c).ranks = s.ranks := by
      rw [State.windowScanned, State.scanAll_frame, State.notice_frame]; rfl
    have hrecords : (s.windowScanned c).records = (s.notice (.windowRecovered c)).records := by
      rw [State.windowScanned, State.scanAll_frame]; rfl
    refine ⟨_, exec_qgntRise hreset hlow, ?_⟩
    generalize s.windowScanned c = u at *
    rw [heffect, State.openEngine_of_recalled (by rw [hnego]; exact hrecalled) (by rw [hengine, hf])]
    refine ⟨?_, ?_, ?_, ?_, ?_, fun d hd => ?_⟩
    · rw [State.nego_settle, Negotiator.takes_of_other (by simp)]
      simp only [State.nego_setNego_self, hnego, hnow, htiming]
    all_goals rw [State.settle_frame]
    · show (u.setEngine c _).engine c = _
      rw [State.engine_setEngine_self, hengine, htiming]
    · exact hranks
    · exact hmonitor
    · exact hrecords
    · show (u.setEngine c _).engine d = _
      rw [State.engine_setEngine_ne _ _ hd, hengine]

/-- What a window opened by a grant holds before its first selection (R139). -/
def State.windowOpened (s : State) (c : Chan) : State :=
  (s.setNego c { s.nego c with state := .opened, qgnt := true, grantTimer := none, escalated := false }).setEngine c
    { s.engine c with budget := s.timing.windowBudget, sampled := none }

/-- What the first selection of a window leaves (R139, R153, R155): a task in flight within the loaded budget, or the release. -/
theorem State.runSelection_of_window {s v : State} {c : Chan} (hopened : v.nego c =
      { s.nego c with state := .opened, qgnt := true, grantTimer := none, escalated := false })
    (hloaded : v.engine c = { s.engine c with budget := s.timing.windowBudget, sampled := none })
    (hother : ∀ d : Chan, d ≠ c → v.engine d = s.engine d) (hnow : v.now = s.now) (htiming : v.timing = s.timing)
    (hmonitor : v.monitor = s.monitor) (hqreq : (s.nego c).qreq = true) (hflight : (s.engine c).flight = none) :
    let t := (v.runSelection c).settle
    (t.nego c).qgnt = true ∧ (t.nego c).grantTimer = none ∧ (t.nego c).escalated = false ∧ t.monitor = s.monitor ∧
      (∀ d : Chan, d ≠ c → t.engine d = s.engine d) ∧
      if (t.engine c).flight.isSome = true then
        (t.nego c).state = .opened ∧ (t.nego c).qreq = true ∧ (t.engine c).state = .busy ∧
        ∀ f ∈ (t.engine c).flight, f.duration ≤ s.timing.windowBudget ∧
          (t.engine c).budget = s.timing.windowBudget - f.duration ∧ (t.engine c).completion = some (s.now + f.duration)
      else
        (t.nego c).state = .releasing ∧ (t.nego c).cause = .done ∧ (t.nego c).qreq = false ∧ (t.nego c).qurg = false ∧
        (t.nego c).releaseTimer = some (s.now + s.timing.releaseWait) ∧ (t.nego c).releaseMark = false ∧
        t.engine c = { s.engine c with state := .standby, budget := s.timing.windowBudget, sampled := none } := by
  intro t
  obtain ⟨hframe, houtcome⟩ := v.runSelection_selected c
  have hmonitor' : t.monitor = s.monitor := by
    show (v.runSelection c).settle.monitor = _
    rw [State.settle_frame, hframe]
    exact hmonitor
  have hengine : ∀ d, t.engine d = (v.runSelection c).engine d := by
    intro d
    show (v.runSelection c).settle.engine d = _
    rw [State.settle_frame]
    rfl
  have hnego := (v.runSelection c).nego_settle c
  obtain ⟨f, sample, pointer, hfits, hnegos, hengines⟩ | ⟨hnegos, hengines⟩ := houtcome
  · have hself : t.engine c = ({ s.engine c with state := .active, budget := s.timing.windowBudget, sampled := none } : Engine).begun
        s.now f sample pointer := by
      rw [hengine, State.engine_of_set hengines, if_pos rfl, State.engine_setEngine_self, hloaded]
      show Engine.begun _ v.now _ _ _ = _
      rw [hnow]
    have hstill : (v.runSelection c).nego c = v.nego c := by rw [State.nego, hnegos]; rfl
    rw [hstill, hopened] at hnego
    have hdone := Negotiator.takes_of_opened (n := { s.nego c with state := .opened, qgnt := true, grantTimer := none, escalated := false })
      rfl ((v.runSelection c).urgencyCondition c) ((v.runSelection c).requestCondition c)
      ((v.runSelection c).now + (v.runSelection c).timing.grantWait)
    have hnego : t.nego c = _ := hnego.trans hdone
    rw [State.engine_setEngine_self, hloaded] at hfits
    rw [hnego, hself]
    refine ⟨rfl, rfl, rfl, hmonitor', fun d hd => ?_, ?_⟩
    · rw [hengine, State.engine_of_set hengines, if_neg hd, State.engine_setEngine_ne _ _ hd, hother d hd]
    · split
      · refine ⟨rfl, hqreq, rfl, fun f' hf' => ?_⟩
        obtain rfl : f = f' := Option.some.inj hf'
        exact ⟨hfits, rfl, rfl⟩
      · next hnone => exact absurd rfl hnone
  · have hself : t.engine c = { s.engine c with state := .standby, budget := s.timing.windowBudget, sampled := none } := by
      rw [hengine, State.engine_of_set hengines, if_pos rfl, State.engine_setEngine_self, hloaded]
    have hreleased : (v.runSelection c).nego c = { s.nego c with
        state := .releasing, qgnt := true, grantTimer := none, escalated := false, qreq := false, qurg := false, lost := false
        releaseTimer := some (s.now + s.timing.releaseWait), releaseMark := false, cause := .done } := by
      rw [State.nego_of_set hnegos, if_pos rfl]
      simp only [State.nego_of_setEngine, hopened, State.setEngine_now, State.setEngine_timing, hnow, htiming]
    rw [hreleased, Negotiator.takes_of_other (by simp)] at hnego
    have hnego : t.nego c = _ := hnego
    rw [hnego, hself]
    refine ⟨rfl, rfl, rfl, hmonitor', fun d hd => ?_, ?_⟩
    · rw [hengine, State.engine_of_set hengines, if_neg hd, State.engine_setEngine_ne _ _ hd, hother d hd]
    · rw [if_neg (by simp [hflight])]
      exact ⟨rfl, rfl, rfl, rfl, rfl, rfl, rfl⟩

theorem State.scanAll_eq (s : State) : s.scanAll = (((s.scanGroup 0).scanGroup 1).scanGroup 2).scanGroup 3 := rfl

/-- Settles O30: the first selection of a window, opened from REQUESTING or, after the scans, from STALLED. -/
theorem grantOpensWindow : Obligations.GrantOpensWindow := by
  intro s c hreset hlow hfree
  have hexec := exec_qgntRise hreset hlow
  have hrequesting : (s.nego c).state = .requesting → s.grantRise c = (s.windowOpened c).runSelection c := by
    intro hs
    rw [State.grantRise_of_requesting hs, State.openEngine_of_free (by simpa using hfree)]
    rfl
  have hstalled : (s.nego c).state = .stalled → s.grantRise c = ((s.windowScanned c).setEngine c
      { s.engine c with budget := s.timing.windowBudget, sampled := none }).runSelection c := by
    intro hs
    obtain ⟨hnego, hengine, -, htiming, -⟩ := s.windowScanned_eq c
    rw [State.grantRise_of_stalled hs]
    refine (State.openEngine_of_free (s := s.windowScanned c) (by rw [hnego]; exact hfree)).trans ?_
    rw [hengine, htiming]
  refine ⟨fun hs => ?_, fun hs => ?_, fun hlaw hs => ⟨_, hexec, ?_⟩⟩
  · rw [hexec, hrequesting hs]; rfl
  · rw [hexec, hstalled hs]; rfl
  obtain ⟨hqreq, hflight⟩ : (s.nego c).qreq = true ∧ (s.engine c).flight = none := by
    obtain hs | hs := hs
    · obtain ⟨⟨-, -, -, -, -, hqreq, -, hflight, -⟩, -⟩ := (channelLaw_requesting_iff hs).mp (hlaw.channel c)
      exact ⟨hqreq, hflight⟩
    · obtain ⟨⟨-, -, -, -, -, -, hqreq, -, hflight, -⟩, -⟩ := (channelLaw_stalled_iff hs).mp (hlaw.channel c)
      exact ⟨hqreq, hflight⟩
  obtain hs | hs := hs
  · have hsteady : s.Steady (s.grantRise c).settle := by
      rw [hrequesting hs]
      exact (State.settle_steady _).after ((State.runSelection_steady _ c).after (.of_eq rfl rfl))
    obtain ⟨hqgnt, htimer, hescalated, hmonitor, hother, hout⟩ := State.runSelection_of_window (s := s) (v := s.windowOpened c) (c := c)
      (by simp [State.windowOpened]) (by simp [State.windowOpened])
      (fun d hd => by simp [State.windowOpened, State.engine_setEngine_ne _ _ hd]) rfl rfl rfl hqreq hflight
    rw [hrequesting hs] at hsteady ⊢
    exact ⟨hqgnt, htimer, hescalated, hmonitor, hother, hsteady.rank, fun h => absurd (hs.symm.trans h) (by decide), hout⟩
  · obtain ⟨hnego, hengine, hnow, htiming, hmonitor, hscanned⟩ := s.windowScanned_eq c
    have heffect := hstalled hs
    generalize s.windowScanned c = u at *
    have hsteady : (s.notice (.windowRecovered c)).Steady (s.grantRise c).settle := by
      rw [heffect]
      exact (State.settle_steady _).after ((State.runSelection_steady _ c).after (hscanned.trans (.of_eq rfl rfl)))
    obtain ⟨hqgnt, htimer, hescalated, hmonitor, hother, hout⟩ := State.runSelection_of_window (s := s) (c := c)
      (v := u.setEngine c { s.engine c with budget := s.timing.windowBudget, sampled := none })
      (by simp [hnego]) (by simp) (fun d hd => by simp [State.engine_setEngine_ne _ _ hd, hengine]) hnow htiming hmonitor hqreq hflight
    rw [heffect] at hsteady ⊢
    exact ⟨hqgnt, htimer, hescalated, hmonitor, hother, ((State.Steady.notice s _).trans hsteady).rank, fun _ => hsteady.records, hout⟩

/-! ### The soft-reset drain -/

theorem Negotiator.takes_nothing (n : Negotiator) (due : Nat) : n.takes false false due = n := by simp [Negotiator.takes]

/-- During a drain no condition is reported (R129). -/
theorem State.settle_nego_of_drain {s : State} (h : s.drain = true) (c : Chan) : s.settle.nego c = s.nego c := by
  have hnone : s.reports c = false := by simp [State.reports, h]
  rw [State.nego_settle, State.urgencyCondition, State.requestCondition, hnone]
  exact Negotiator.takes_nothing _ _

/-- The start of a drain touches the negotiators, and the arbiter where a stall ends. -/
theorem State.draining_frame (s : State) : s.draining = { s with
    drain := true, negotiators := s.draining.negotiators, groups := s.draining.groups, queues := s.draining.queues } := by
  unfold State.draining
  rw [State.dropRequest_frame _ .b, State.dropRequest_frame _ .a]

theorem Negotiator.dropped_drain (n : Negotiator) (due : Nat) (cause : ReleaseCause) :
    (n.dropped cause due).qreq = false ∧ (n.dropped cause due).qurg = false ∧ (n.dropped cause due).grantTimer = none ∧
      (n.dropped cause due).escalated = false ∧ (n.dropped cause due).qgnt = n.qgnt ∧ (n.dropped cause due).qrcl = n.qrcl ∧
      (n.dropped cause due).state = (if n.qgnt = true then .releasing else .idle) ∧
      (n.qgnt = true → (n.dropped cause due).cause = cause) := by
  unfold Negotiator.dropped
  cases hlevel : n.qgnt with
  | false => simp
  | true =>
    by_cases hs : n.state = .releasing
    · simp [hs]
    · simp [hs]

/-- A drain ended depends on the lines, the waiting commands, the last word read and the sensor read alone. -/
theorem State.drained_congr {s t : State} {now : Nat} {sda : Bool} (hpending : t.pending = s.pending) (hread : t.readData = s.readData)
    (hmonitor : t.monitor = s.monitor) (hlines : ∀ c, (t.nego c).qgnt = (s.nego c).qgnt ∧ (t.nego c).qrcl = (s.nego c).qrcl) :
    t.drained now sda = s.drained now sda := by
  unfold State.drained
  rw [hpending, hread, hmonitor, (hlines .a).1, (hlines .a).2, (hlines .b).1, (hlines .b).2]

theorem State.drained_settled (s : State) (sda : Bool) : (s.drained s.now sda).Settled := by
  rw [← State.endDrain_eq_drained]
  exact State.initial_settled s.now (s.nego .a).levels (s.nego .b).levels s.pending

/-- Settles O6: the drain that ends with the write, the one that waits for a task in flight, and the fields taken during one. -/
theorem softResetDrain : Obligations.SoftResetDrain := by
  intro s fields sda hreset
  have hexec : exec (.softReset fields sda) s = .next (s.writeControl true fields sda).settle := exec_next hreset
  have hstart : s.drain = false → s.writeControl true fields sda = (s.withControl fields).draining.checkDrain sda := by
    intro h
    rw [State.writeControl_eq, h]
    rfl
  obtain ⟨hengines, hdrain, hnego⟩ := (s.withControl fields).draining_lines
  have hframe := (s.withControl fields).draining_frame
  have hflight : ∀ c, ((s.withControl fields).draining.engine c) = s.engine c := fun c => by rw [State.engine, hengines]; rfl
  have hnego : ∀ c, (s.withControl fields).draining.nego c = (s.nego c).dropped .drain (s.now + s.timing.releaseWait) := hnego
  refine ⟨fun h ha hb => ?_, fun h hbusy => ?_, fun h hsettled => ?_⟩
  · rw [hexec, hstart h]
    obtain ⟨-, -, -, hended⟩ | ⟨hrunning, -⟩ := (s.withControl fields).draining.checkDrain_cases sda
    · rw [hended, State.settle_of_settled _ (State.drained_settled _ sda)]
      refine congrArg _ (Eq.trans (congrArg (State.drained _ · sda) ?_) (State.drained_congr ?_ ?_ ?_ fun c => ?_))
      · rw [hframe]; rfl
      · rw [hframe]; rfl
      · rw [hframe]; rfl
      · rw [hframe]; rfl
      · obtain ⟨-, -, -, -, hqgnt, hqrcl, -⟩ := (s.nego c).dropped_drain (s.now + s.timing.releaseWait) .drain
        rw [hnego]
        exact ⟨hqgnt, hqrcl⟩
    · rw [hdrain, hflight, hflight, ha, hb] at hrunning
      simp at hrunning
  · obtain ⟨-, ha, hb, -⟩ | ⟨-, hwaits⟩ := (s.withControl fields).draining.checkDrain_cases sda
    · rw [hflight] at ha hb
      rw [ha, hb] at hbusy
      simp at hbusy
    · refine ⟨_, hexec, ?_⟩
      rw [hstart h, hwaits]
      have hlines : ∀ c, (s.withControl fields).draining.settle.nego c = (s.nego c).dropped .drain (s.now + s.timing.releaseWait) :=
        fun c => (State.settle_nego_of_drain hdrain c).trans (hnego c)
      have hrest : (s.withControl fields).draining.settle.drain = true := by rw [State.settle_frame]; exact hdrain
      have hengines' : (s.withControl fields).draining.settle.engines = s.engines := by rw [State.settle_frame]; exact hengines
      refine ⟨hrest, ?_, ?_, hengines', ?_, ?_, ?_, ?_, ?_, fun c => ?_⟩
      · rw [State.settle_frame, hframe]; rfl
      · rw [State.settle_frame, hframe]; rfl
      · rw [State.settle_frame, hframe]; rfl
      · rw [State.settle_frame, hframe]; rfl
      · rw [State.settle_frame, hframe]; rfl
      · rw [State.settle_frame, hframe]; rfl
      · rw [State.settle_frame, hframe]; rfl
      · obtain ⟨hqreq, hqurg, htimer, hescalated, hqgnt, -, hstate, hcause⟩ :=
          (s.nego c).dropped_drain (s.now + s.timing.releaseWait) .drain
        rw [hlines]
        exact ⟨hqreq, hqurg, htimer, hescalated, hqgnt, hstate, hcause⟩
  · have hfields : s.writeControl true fields sda = s.withControl fields := by
      rw [State.writeControl_eq, h]
      rfl
    rw [hexec, hfields]
    exact congrArg _ (State.settle_of_settled _ hsettled)

/-! ### Where tasks begin -/

/-- No task begins: every completion timer is stopped or as it was. -/
def State.BeginsNone (s t : State) : Prop :=
  ∀ c : Chan, (t.engine c).completion = none ∨ (t.engine c).completion = (s.engine c).completion

theorem State.BeginsNone.of_engines {s t : State} (h : t.engines = s.engines) : s.BeginsNone t := fun c => by
  rw [State.engine, h]; exact .inr rfl

theorem State.BeginsNone.of_set {s t : State} {c : Chan} {e : Engine} (h : t.engines = s.engines.set c e)
    (he : e.completion = none ∨ e.completion = (s.engine c).completion) : s.BeginsNone t := fun d => by
  rw [State.engine_of_set h]
  split
  · next hd => rw [hd]; exact he
  · exact .inr rfl

theorem State.BeginsNone.trans {s t u : State} (h : s.BeginsNone t) (h' : t.BeginsNone u) : s.BeginsNone u := fun c =>
  (h' c).elim .inl fun hu => (h c).imp hu.trans hu.trans

theorem State.checkDrain_beginsNone (s : State) (sda : Bool) : s.BeginsNone (s.checkDrain sda) := by
  obtain ⟨-, -, -, hended⟩ | ⟨-, hsame⟩ := s.checkDrain_cases sda
  · rw [hended]; exact fun c => .inl (by cases c <;> rfl)
  · rw [hsame]; exact .of_engines rfl

theorem State.writeControl_beginsNone (s : State) (soft : Bool) (fields : ControlFields) (sda : Bool) :
    s.BeginsNone (s.writeControl soft fields sda) := by
  rw [State.writeControl_eq]
  split
  · exact (State.BeginsNone.of_engines (s.withControl fields).draining_lines.1).trans (State.checkDrain_beginsNone _ sda)
  · exact .of_engines rfl

theorem State.resetChannel_beginsNone (s : State) (c : Chan) : s.BeginsNone (s.resetChannel c) := by
  obtain ⟨-, hengines, -⟩ := s.resetChannel_lines c
  refine .of_set hengines (.inr ?_)
  unfold Engine.reset
  split <;> rfl

theorem takeCommand_beginsNone (tag : Tag) (c : HostCommand) (s : State) : s.BeginsNone (takeCommand tag c s) := by
  by_cases hc : ∃ b, c = .resetChannel b
  · obtain ⟨b, rfl⟩ := hc
    change s.BeginsNone (runResetChannel tag b s)
    unfold runResetChannel
    split
    · exact .of_engines (State.Quiet.complete (free := False) s tag _ _).engines_eq
    · exact State.BeginsNone.trans (t := s.noteRemoved tag _) (.of_engines rfl) (State.resetChannel_beginsNone _ _)
  · refine .of_engines (takeCommand_evolves (free := True) (lines := False) tag c (fun _ => trivial) (fun hl => ?_) s).lines_eq.2.1
    cases c with
    | resetChannel b => exact hc ⟨b, rfl⟩
    | _ => exact Bool.noConfusion hl

theorem State.submit_beginsNone (s : State) (tag : Tag) (c : Option HostCommand) : s.BeginsNone (s.submit tag c) := by
  obtain ⟨status, -, -, hs⟩ | ⟨x, -, -, hs⟩ := s.submit_cases tag c
  · rw [hs]; exact .of_engines rfl
  · rw [hs]; exact takeCommand_beginsNone tag x (s.accept tag x)

theorem State.writeRegister_beginsNone (s : State) (offset : Nat) (w : WindowWrite) : s.BeginsNone (s.writeRegister offset w) := by
  unfold State.writeRegister
  simp only
  split_ifs
  · exact .of_engines rfl
  · exact s.writeControl_beginsNone _ _ _
  · exact s.submit_beginsNone _ _
  · exact .of_engines rfl
  · exact .of_engines rfl

theorem State.grantFall_engines (s : State) (c : Chan) : (s.grantFall c).engines = s.engines := by
  have hlose : ∀ u : State, (u.loseGrant c).engines = u.engines := by
    intro u
    unfold State.loseGrant
    simp only
    split <;> (rw [State.notice_frame]; rfl)
  unfold State.grantFall
  simp only
  split
  · exact hlose _
  · split
    · rfl
    · exact hlose _
  all_goals rfl

theorem State.recallRise_engines (s : State) (c : Chan) : (s.recallRise c).engines = s.engines := by
  unfold State.recallRise State.recall
  simp only
  split
  · split <;> rfl
  · rfl

theorem State.grantExpiry_engines (s : State) (c : Chan) : (s.grantExpiry c).engines = s.engines := by
  have hstall : ∀ x, (s.stall c x).engines = s.engines := fun x => by
    unfold State.stall
    rw [State.notice_frame]
    rfl
  unfold State.grantExpiry
  simp only
  split
  · exact hstall _
  · split
    · exact hstall _
    · rfl

theorem State.releaseExpiry_engines (s : State) (c : Chan) : (s.releaseExpiry c).engines = s.engines := by
  unfold State.releaseExpiry
  simp only
  split
  · rfl
  · rw [State.notice_frame]; rfl

theorem State.takeSample_beginsNone (s : State) (c : Chan) (line : CalResult) : s.BeginsNone (s.takeSample c line) := by
  unfold State.takeSample
  split
  · exact .of_engines rfl
  · exact .of_set rfl (.inr rfl)

theorem State.expire_beginsNone (s : State) (timer : Option Nat) (f : State → State) (hf : ∀ u : State, u.BeginsNone (f u)) :
    s.BeginsNone (s.expire timer f) := by
  cases timer with
  | none => exact .of_engines rfl
  | some due => exact (State.BeginsNone.of_engines rfl).trans (hf (s.reach due))

/-- A task begins on a channel only in a selection of its engine. -/
theorem State.Selected.begins {s t : State} {c d : Chan} (h : s.Selected c t) :
    (t.engine d).completion = (s.engine d).completion ∨
      d = c ∧ (t.engine d).state = .busy ∧ (t.nego d).state = (s.nego d).state := by
  obtain ⟨-, ⟨f, sample, pointer, -, hnego, hengine⟩ | ⟨-, hengine⟩⟩ := h
  · rw [State.engine_of_set hengine]
    split
    · next hd => exact .inr ⟨hd, rfl, by rw [State.nego, hnego]; rfl⟩
    · exact .inl rfl
  · rw [State.engine_of_set hengine]
    split
    · next hd => rw [hd]; exact .inl rfl
    · exact .inl rfl

/-- What a channel's part in a state needs for a task to have begun there in an event. -/
def State.BeginsAt (s : State) (c : Chan) (ready : Prop) (t : State) : Prop :=
  ∀ d : Chan, (t.engine d).completion = none ∨ (t.engine d).completion = (s.engine d).completion ∨
    (d = c ∧ (t.engine d).state = .busy ∧ (t.nego d).state = .opened ∧ ready)

theorem State.openEngine_beginsAt {s u : State} {c : Chan} {ready : Prop} (hengines : u.engines = s.engines) (hopened : (u.nego c).state = .opened)
    (hready : ready) : s.BeginsAt c ready (u.openEngine c) := by
  have hsame : ∀ d, (u.engine d) = s.engine d := fun d => by rw [State.engine, hengines]; rfl
  intro d
  unfold State.openEngine
  simp only
  split
  · refine .inr (.inl ?_)
    have hrecall : ∀ v : State, (v.recall c).engines = v.engines := fun v => by rw [State.recall_frame]
    rw [State.standby, State.engine_setEngine]
    simp only [State.engine, hrecall]
    split
    · next hd => rw [hd]; simp [State.setEngine, hengines]
    · next hd => simp [State.setEngine, PerChan.get_set_ne _ _ hd, hengines]
  · obtain hkept | ⟨hd, hbusy, hstate⟩ := (State.runSelection_selected
      (u.setEngine c { u.engine c with budget := u.timing.windowBudget, sampled := none, state := .active }) c).begins (d := d)
    · refine .inr (.inl (hkept.trans ?_))
      by_cases hd : d = c
      · subst hd; simp [hsame]
      · simp [State.engine_setEngine_ne _ _ hd, hsame]
    · exact .inr (.inr ⟨hd, hbusy, hstate.trans (by rw [hd]; exact hopened), hready⟩)

theorem State.BeginsNone.beginsAt {s t : State} (h : s.BeginsNone t) (c : Chan) (ready : Prop) : s.BeginsAt c ready t := fun d =>
  (h d).imp id .inl

/-- A grant begins a task only where it opens the window of a request (R138, R139). -/
theorem State.grantRise_beginsAt (s : State) (c : Chan) :
    s.BeginsAt c ((s.nego c).state = .requesting ∨ (s.nego c).state = .stalled) (s.grantRise c) := by
  cases hs : (s.nego c).state with
  | requesting =>
    rw [State.grantRise_of_requesting hs]
    exact State.openEngine_beginsAt rfl (by simp) (.inl rfl)
  | stalled =>
    have hq := State.scanAll_quiet (free := False) ((s.notice (.windowRecovered c)).setNego c
      { s.nego c with state := .opened, qgnt := true, grantTimer := none, escalated := false })
    rw [State.grantRise_of_stalled hs]
    exact State.openEngine_beginsAt (hq.engines_eq.trans (by rw [State.notice_frame]; rfl)) (by rw [hq.nego_eq, State.nego_setNego_self])
      (.inr rfl)
  | idle =>
    rw [State.grantRise_of_unsolicited (.inl hs)]
    exact (State.BeginsNone.of_engines (by rw [State.notice_frame]; rfl)).beginsAt _ _
  | draining =>
    refine State.BeginsNone.beginsAt (.of_engines ?_) _ _
    simp only [State.grantRise, hs]
    split
    · rw [State.notice_frame]; rfl
    · rfl
  | opened | releasing =>
    refine State.BeginsNone.beginsAt (.of_engines ?_) _ _
    simp only [State.grantRise, hs]
    rfl

/-- A completion begins a task only where its window is OPEN (R162). -/
theorem State.takeCompletion_beginsAt (s : State) (c : Chan) (lines : CompletionLines) :
    s.BeginsAt c ((s.nego c).state = .opened) (s.takeCompletion c lines) := by
  unfold State.takeCompletion
  split
  · exact (State.BeginsNone.of_engines rfl).beginsAt _ _
  next f _ =>
  have hcompletion : s.BeginsAt c ((s.nego c).state = .opened) (s.completion c f lines.result) := by
    obtain ⟨hnego, hengine, -⟩ := s.taskEnded_lines c f lines.result
    have hended : s.BeginsNone (s.taskEnded c f lines.result) := .of_set hengine (.inl rfl)
    have hnego' : ∀ d, (s.taskEnded c f lines.result).nego d = s.nego d := fun d => by rw [State.nego, hnego]; rfl
    rw [State.completion_eq_taskEnded]
    generalize s.taskEnded c f lines.result = u at *
    unfold State.afterCompletion
    rw [hnego']
    split
    · next hs =>
      intro d
      obtain hkept | ⟨hd, hbusy, hstate⟩ := (State.runSelection_selected u c).begins (d := d)
      · refine (hended d).imp (fun h => ?_) fun h => .inl ?_
        all_goals
          refine hkept.trans (Eq.trans ?_ h)
          by_cases hd : d = c
          · subst hd; simp
          · simp [State.engine_setEngine_ne _ _ hd]
      · exact .inr (.inr ⟨hd, hbusy, hstate.trans (by rw [hd, State.nego_of_setEngine, hnego', hs]), hs⟩)
    · split
      · exact State.BeginsNone.beginsAt (t := u.setNego c _) hended _ _
      · exact State.BeginsNone.beginsAt (t := u.enterReleasing c .recall) hended _ _
    all_goals exact hended.beginsAt _ _
  intro d
  obtain ⟨-, -, -, hended⟩ | ⟨-, hsame⟩ := (s.completion c f lines.result).checkDrain_cases lines.sda
  · rw [hended]; exact .inl (by cases d <;> rfl)
  · rw [hsame]; exact hcompletion d

theorem effectOf_beginsNone (i : Instr) (hgrant : ∀ c, i ≠ .qgntRise c) (hcompletion : ∀ c lines, i ≠ .taskCompletion c lines) (s : State) :
    s.BeginsNone (effectOf i s) := by
  by_cases hl : lineEvent i = true
  swap
  · exact .of_engines (effectOf_evolves (free := True) (lines := False) i (fun _ => trivial) (fun h => hl h) s).lines_eq.2.1
  cases i
  case resetChannel tag b => exact State.submit_beginsNone { s with staging := stageRecord tag _ s.staging } tag _
  case unknownCommand w => exact State.submit_beginsNone { s with staging := s.staging.set 0 w } _ _
  case softReset fields sda => exact s.writeControl_beginsNone _ _ _
  case registerWrite offset w => exact s.writeRegister_beginsNone _ w
  case qgntRise c => exact absurd rfl (hgrant c)
  case qgntFall c =>
    simp only [effectOf]
    split
    · exact .of_engines (s.grantFall_engines c)
    · exact .of_engines rfl
  case qrclRise c =>
    simp only [effectOf]
    split
    · exact .of_engines rfl
    · exact .of_engines (s.recallRise_engines c)
  case qrclFall c => exact .of_engines rfl
  case grantTimerExpiry c => exact s.expire_beginsNone _ _ fun u => .of_engines (u.grantExpiry_engines c)
  case releaseTimerExpiry c => exact s.expire_beginsNone _ _ fun u => .of_engines (u.releaseExpiry_engines c)
  case taskCompletion c lines => exact absurd rfl (hcompletion c lines)
  case calResultSample c line => exact s.expire_beginsNone _ _ fun u => u.takeSample_beginsNone c line
  all_goals exact Bool.noConfusion hl

/-- Settles O49: a selection alone begins tasks, and it is run at a grant that opens a window and at a completion in OPEN. -/
theorem tasksBeginInOpenWindow : Obligations.TasksBeginInOpenWindow := by
  intro s i c t hexec hsome hnew
  have hnot : ¬((t.engine c).completion = none ∨ (t.engine c).completion = (s.engine c).completion) := by
    rintro (h | h)
    · rw [h] at hsome; cases hsome
    · exact hnew h
  obtain rfl | rfl | ⟨la, lb, rfl⟩ | ⟨-, rfl⟩ := exec_cases i s t hexec
  · exact absurd (.inr rfl) hnot
  · exact absurd (.inl (by cases c <;> rfl)) hnot
  · exact absurd (.inl (by cases c <;> rfl)) hnot
  have hengine : (effectOf i s).settle.engine c = (effectOf i s).engine c := by rw [State.settle_frame]; rfl
  have hopen : ((effectOf i s).nego c).state = .opened → ((effectOf i s).settle.nego c).state = .opened := fun h => by
    rw [State.nego_settle, Negotiator.takes_of_opened h]
    exact h
  rw [hengine] at hnot ⊢
  have hat : ∀ d ready, s.BeginsAt d ready (effectOf i s) → d = c ∧ ((effectOf i s).engine c).state = .busy ∧
      ((effectOf i s).settle.nego c).state = .opened ∧ ready := by
    intro d ready h
    obtain h | h | ⟨hd, hbusy, hstate, hready⟩ := h c
    · exact absurd (.inl h) hnot
    · exact absurd (.inr h) hnot
    · exact ⟨hd.symm, hbusy, hopen hstate, hready⟩
  by_cases hgrant : ∃ d, i = .qgntRise d
  · obtain ⟨d, rfl⟩ := hgrant
    obtain ⟨rfl, hbusy, hstate, hready⟩ := hat d ((s.nego d).state = .requesting ∨ (s.nego d).state = .stalled) (by
      simp only [effectOf]
      split
      · exact (State.BeginsNone.of_engines rfl).beginsAt _ _
      · exact s.grantRise_beginsAt d)
    exact ⟨hstate, hbusy, .inl ⟨rfl, hready⟩⟩
  by_cases hcompletion : ∃ d lines, i = .taskCompletion d lines
  · obtain ⟨d, lines, rfl⟩ := hcompletion
    obtain ⟨rfl, hbusy, hstate, hready⟩ := hat d ((s.nego d).state = .opened) (by
      simp only [effectOf]
      cases (s.engine d).completion with
      | none => exact (State.BeginsNone.of_engines rfl).beginsAt _ _
      | some due => exact (s.reach due).takeCompletion_beginsAt d lines)
    exact ⟨hstate, hbusy, .inr ⟨⟨lines, rfl⟩, hready⟩⟩
  exact absurd (effectOf_beginsNone i (fun d h => hgrant ⟨d, h⟩) (fun d lines h => hcompletion ⟨d, lines, h⟩) s c) hnot

end Sys2Proof.Machine
end

section
/-! SUPPORT and the proofs of O19, O21, O22, O23, O9, O10, O20: the commands that serve and configure a rank and those that order work for
it (R6 to R11, R36, R75 to R79, R95, R100, R119). -/

namespace Sys2Proof.Machine

-- Proofs are elaborated one after the other, which bounds the memory a compile reserves.
set_option Elab.async false

/-! ### Lookups of a rank's work -/

section Lookups

variable {s : State} {r : Slot} {ch : Chan} (hch : (s.rank r).channel = some ch)

include hch

theorem State.mem_of_taskAt {p : TaskSlot} {t : Task} (h : s.taskAt r p = some t) :
    t ∈ (s.queue ch).tasks ∧ t.rank = r ∧ t.kind.place = p := by
  simp only [State.taskAt, hch] at h
  exact ⟨List.mem_of_find?_eq_some h, by simpa using List.find?_some h⟩

theorem State.taskAt_isSome_iff {p : TaskSlot} :
    (s.taskAt r p).isSome = true ↔ ∃ x ∈ (s.queue ch).tasks, x.rank = r ∧ x.kind.place = p := by
  simp [State.taskAt, hch]

theorem State.hasPowerTask_iff : s.hasPowerTask r = true ↔ ∃ x ∈ (s.queue ch).tasks, x.rank = r ∧
    (x.kind = .napEnter ∨ x.kind = .napExit ∨ x.kind = .deepEnter ∨ x.kind = .deepExit) := by
  rw [State.hasPowerTask, State.taskAt_isSome_iff hch]
  simp only [TaskKind.place_eq_power]

theorem State.pool_isSome_iff : (s.taskAt r .pool).isSome = true ↔ ∃ x ∈ (s.queue ch).tasks, x.rank = r ∧ x.kind = .refreshNow := by
  rw [State.taskAt_isSome_iff hch]
  simp only [TaskKind.place_eq_pool]

theorem State.deepEnterQueued_of_none (h : ∀ x ∈ (s.queue ch).tasks, x.rank = r → x.kind ≠ .deepEnter) :
    s.deepEnterQueued r = false := by
  unfold State.deepEnterQueued
  split
  · rfl
  · next t ht =>
    obtain ⟨hmem, hrank, -⟩ := State.mem_of_taskAt hch ht
    simpa using h t hmem hrank

theorem State.calExecuting_of_none
    (h : ∀ x ∈ (s.queue ch).tasks, x.rank = r → x.kind = .calShort ∨ x.kind = .calLong → x.executing = false) :
    s.calExecuting r = false := by
  unfold State.calExecuting
  split
  · rfl
  · next t ht =>
    obtain ⟨hmem, hrank, hplace⟩ := State.mem_of_taskAt hch ht
    exact h t hmem hrank (TaskKind.place_eq_calibration.mp hplace)

theorem State.poolFull_iff : s.poolFull r = true ↔ 8 ≤ ((s.queue ch).tasks.filter (fun x => x.kind = .refreshNow)).length := by
  have hcount : (s.queue ch).poolCount = ((s.queue ch).tasks.filter (fun x => x.kind = .refreshNow)).length := by
    rw [Queue.poolCount, List.countP_eq_length_filter]
    rfl
  simp [State.poolFull, hch, hcount, Config.hostPool]

theorem State.insertPower_eq (kind : TaskKind) (tag : Tag) : s.insertPower r kind tag = s.setQueue ch ((s.queue ch).insert
    { seq := 0, rank := r, kind := kind, cls := .power, count := none, tag := some tag, origin := .host, executing := false }) := by
  simp only [State.insertPower, hch, State.insertTask_eq]

theorem State.insertRefreshNow_eq (count : Nat) (tag : Tag) : s.insertRefreshNow r count tag = s.setQueue ch ((s.queue ch).insert
    { seq := 0, rank := r, kind := .refreshNow, cls := .routine, count := some count, tag := some tag, origin := .host
      executing := false }) := by
  simp only [State.insertRefreshNow, hch, State.insertTask_eq]

end Lookups

theorem State.taggedCalibration_iff {s : State} {r : Slot} : s.taggedCalibration r = true ↔
    ∃ g ∈ (s.rank r).group, (∃ e ∈ (s.group g).waiting, e.rank = r ∧ e.tag.isSome = true) ∨
      ((s.group g).holder = some r ∧ ∃ e ∈ (s.group g).heldEntry, e.tag.isSome = true) := by
  unfold State.taggedCalibration CalGroup.heldTag
  cases (s.rank r).group with
  | none => simp
  | some g => cases h : (s.group g).heldEntry <;> simp [h]

/-- Work that keeps a rank from deep retention (R100 check 3). -/
theorem State.deepBusy_iff {s : State} {r : Slot} {ch : Chan} (hch : (s.rank r).channel = some ch) : s.deepBusy r = true ↔
    (∃ x ∈ (s.queue ch).tasks, x.rank = r ∧ x.kind = .refreshNow) ∨
      ∃ g ∈ (s.rank r).group, (s.group g).holder = some r ∨ ∃ e ∈ (s.group g).waiting, e.rank = r ∧ e.tag.isSome = true := by
  rw [State.deepBusy, Bool.or_eq_true, Bool.or_eq_true, State.pool_isSome_iff hch, or_assoc]
  unfold State.holdsToken State.taggedEntry
  cases (s.rank r).group with
  | none => simp
  | some g => simp

/-! ### What an accepted rank command does -/

section Rows

variable {u : State} {tag : Tag} {slot : BitVec 8} {r : Slot} (hslot : slotOf slot = some r)

include hslot

theorem slotChecks_pass : ∀ p ∈ slotChecks slot, p.2 = true := by
  simp [slotChecks, hslot]

theorem takeCommand_refreshNow {count : BitVec 8} (hpos : 1 ≤ count.toNat) (hmax : count.toNat ≤ 8) (hstate : (u.rank r).state.served = true) :
    takeCommand tag (.refreshNow slot count) u =
      if u.deepEnterQueued r then u.complete tag .rankBusy .none
      else if (u.taskAt r .pool).isSome then u.complete tag .alreadyPending .none
      else if u.poolFull r then u.complete tag .queueFull .none
      else u.insertRefreshNow r count.toNat tag := by
  have hpasses : ∀ p ∈ countChecks slot count, p.2 = true := by simp [countChecks, hslot, within, hpos, hmax]
  have hcheck : stateCheck .refreshNow (u.rank r).state = none := by
    cases h : (u.rank r).state <;> first | rfl | (rw [h] at hstate; cases hstate)
  show runRefreshNow tag slot count u = _
  unfold runRefreshNow
  exact State.rankCommand_of_passed hpasses hslot hcheck

theorem takeCommand_calibrate {kind : BitVec 8} {k : CalKind} (hkind : calKindOf kind = some k) (hstate : (u.rank r).state.served = true) :
    takeCommand tag (.calibrate slot kind) u =
      if u.deepEnterQueued r then u.complete tag .rankBusy .none
      else if u.calExecuting r then u.complete tag .rankBusy .none
      else if u.taggedCalibration r then u.complete tag .alreadyPending .none
      else u.request r k .host (some tag) := by
  have hpasses : ∀ p ∈ calibrateChecks slot kind, p.2 = true := by simp [calibrateChecks, hslot, hkind]
  have hcheck : stateCheck .calibrate (u.rank r).state = none := by
    cases h : (u.rank r).state <;> first | rfl | (rw [h] at hstate; cases hstate)
  show runCalibrate tag slot kind u = _
  unfold runCalibrate
  rw [State.rankCommand_of_passed hpasses hslot hcheck, hkind]
  rfl

theorem takeCommand_takeOffline (hcheck : stateCheck .takeOffline (u.rank r).state = none) :
    takeCommand tag (.takeOffline slot) u =
      if (u.executingFor r).isSome then u.complete tag .rankBusy .none else (u.takeOffline r).complete tag .done .none := by
  show runTakeOffline tag slot u = _
  unfold runTakeOffline
  exact State.rankCommand_of_passed (slotChecks_pass hslot) hslot hcheck

theorem takeCommand_napEnter (hcheck : stateCheck .napEnter (u.rank r).state = none) : takeCommand tag (.napEnter slot) u =
    if u.hasPowerTask r then u.complete tag .alreadyPending .none else u.insertPower r .napEnter tag := by
  show runNapEnter tag slot u = _
  unfold runNapEnter
  exact State.rankCommand_of_passed (slotChecks_pass hslot) hslot hcheck

theorem takeCommand_napExit (hcheck : stateCheck .napExit (u.rank r).state = none) : takeCommand tag (.napExit slot) u =
    if u.hasPowerTask r then u.complete tag .alreadyPending .none else u.insertPower r .napExit tag := by
  show runNapExit tag slot u = _
  unfold runNapExit
  exact State.rankCommand_of_passed (slotChecks_pass hslot) hslot hcheck

theorem takeCommand_deepEnter (hcheck : stateCheck .deepEnter (u.rank r).state = none) : takeCommand tag (.deepEnter slot) u =
    if u.hasPowerTask r then u.complete tag .alreadyPending .none
    else if (u.rank r).band = 3 then u.complete tag .bandCritical .none
    else if u.deepBusy r then u.complete tag .rankBusy .none
    else u.insertPower r .deepEnter tag := by
  show runDeepEnter tag slot u = _
  unfold runDeepEnter
  exact State.rankCommand_of_passed (slotChecks_pass hslot) hslot hcheck

theorem takeCommand_deepExit (hcheck : stateCheck .deepExit (u.rank r).state = none) : takeCommand tag (.deepExit slot) u =
    if u.hasPowerTask r then u.complete tag .alreadyPending .none else u.insertPower r .deepExit tag := by
  show runDeepExit tag slot u = _
  unfold runDeepExit
  exact State.rankCommand_of_passed (slotChecks_pass hslot) hslot hcheck

end Rows

section Lookups

variable (s : State) (tag : Tag) (c : HostCommand) (r : Slot)

@[simp] theorem State.deepEnterQueued_of_taken : (s.taken tag c).deepEnterQueued r = s.deepEnterQueued r := rfl
@[simp] theorem State.taskAt_of_taken (p : TaskSlot) : (s.taken tag c).taskAt r p = s.taskAt r p := rfl
@[simp] theorem State.poolFull_of_taken : (s.taken tag c).poolFull r = s.poolFull r := rfl
@[simp] theorem State.calExecuting_of_taken : (s.taken tag c).calExecuting r = s.calExecuting r := rfl
@[simp] theorem State.taggedCalibration_of_taken : (s.taken tag c).taggedCalibration r = s.taggedCalibration r := rfl
@[simp] theorem State.executingFor_of_taken : (s.taken tag c).executingFor r = s.executingFor r := rfl
@[simp] theorem State.hasPowerTask_of_taken : (s.taken tag c).hasPowerTask r = s.hasPowerTask r := rfl
@[simp] theorem State.deepBusy_of_taken : (s.taken tag c).deepBusy r = s.deepBusy r := rfl

end Lookups

theorem RankState.served_iff {x : RankState} : x.served = true ↔ x = .online ∨ x = .nap ∨ x = .faulted := by
  cases x <;> simp [RankState.served]

/-! ### Work ordered, and work turned away -/

/-- Settles O19: every check passes, and the task joins the end of the queue. -/
theorem refreshNow : Obligations.RefreshNow := by
  intro s tag slot count r ch hadmits hslot hpos hmax hstate hch hfree hroom
  have hdeep : s.deepEnterQueued r = false := State.deepEnterQueued_of_none hch fun x hx hr => (hfree x hx hr).1
  have hpool : ¬(s.taskAt r .pool).isSome = true := by
    rw [State.pool_isSome_iff hch]
    rintro ⟨x, hx, hr, hk⟩
    exact (hfree x hx hr).2 hk
  have hfull : ¬s.poolFull r = true := fun h => Nat.not_le_of_lt hroom ((State.poolFull_iff hch).mp h)
  have htake := takeCommand_refreshNow (u := s.taken tag (.refreshNow slot count)) (tag := tag) hslot hpos hmax
    ((State.rank_of_taken s tag _ r).symm ▸ RankState.served_iff.mpr hstate)
  rw [State.deepEnterQueued_of_taken, State.taskAt_of_taken, State.poolFull_of_taken, hdeep, if_neg Bool.false_ne_true, if_neg hpool,
    if_neg hfull, State.insertRefreshNow_eq (s := s.taken tag _) (ch := ch) hch, State.queue_of_taken] at htake
  exact exec_admitted (c := .refreshNow slot count) hadmits htake

/-- Settles O21: each power command by its own checks. -/
theorem powerCommands : Obligations.PowerCommands := by
  intro s tag slot r ch hadmits hslot hch hfree
  have hpower : ¬s.hasPowerTask r = true := by
    rw [State.hasPowerTask_iff hch]
    rintro ⟨x, hx, hr, hk⟩
    obtain ⟨h1, h2, h3, h4⟩ := hfree x hx hr
    exact hk.elim h1 fun hk => hk.elim h2 fun hk => hk.elim h3 h4
  refine ⟨fun hs => ?_, fun hs => ?_, fun hs hband hpool hgroup => ?_, fun hs => ?_⟩
  · have htake := takeCommand_napEnter (u := s.taken tag (.napEnter slot)) (tag := tag) hslot
      (by rw [State.rank_of_taken, hs]; rfl)
    rw [State.hasPowerTask_of_taken, if_neg hpower, State.insertPower_eq (s := s.taken tag _) (ch := ch) hch, State.queue_of_taken] at htake
    exact exec_admitted (c := .napEnter slot) hadmits htake
  · have htake := takeCommand_napExit (u := s.taken tag (.napExit slot)) (tag := tag) hslot
      (by rw [State.rank_of_taken, hs]; rfl)
    rw [State.hasPowerTask_of_taken, if_neg hpower, State.insertPower_eq (s := s.taken tag _) (ch := ch) hch, State.queue_of_taken] at htake
    exact exec_admitted (c := .napExit slot) hadmits htake
  · have hbusy : ¬s.deepBusy r = true := by
      rw [State.deepBusy_iff hch]
      rintro (⟨x, hx, hr, hk⟩ | ⟨g, hg, hholds | ⟨e, he, her, htag⟩⟩)
      · exact hpool x hx hr hk
      · exact (hgroup g hg).1 hholds
      · rw [(hgroup g hg).2 e he her] at htag; cases htag
    have htake := takeCommand_deepEnter (u := s.taken tag (.deepEnter slot)) (tag := tag) hslot
      (by rw [State.rank_of_taken]; obtain hs | hs := hs <;> (rw [hs]; rfl))
    rw [State.hasPowerTask_of_taken, if_neg hpower, State.rank_of_taken, if_neg hband, State.deepBusy_of_taken, if_neg hbusy,
      State.insertPower_eq (s := s.taken tag _) (ch := ch) hch, State.queue_of_taken] at htake
    exact exec_admitted (c := .deepEnter slot) hadmits htake
  · have htake := takeCommand_deepExit (u := s.taken tag (.deepExit slot)) (tag := tag) hslot
      (by rw [State.rank_of_taken, hs]; rfl)
    rw [State.hasPowerTask_of_taken, if_neg hpower, State.insertPower_eq (s := s.taken tag _) (ch := ch) hch, State.queue_of_taken] at htake
    exact exec_admitted (c := .deepExit slot) hadmits htake

/-- Settles O22: the checks of each command in their order. -/
theorem workRefusals : Obligations.WorkRefusals := by
  intro s tag slot r ch hadmits hslot hch
  refine ⟨fun hcheck hbusy => ?_, fun hserved => ⟨fun count hpos hmax => ?_, fun kind hkind => ?_⟩⟩
  · have hexecuting : (s.executingFor r).isSome = true := by
      obtain ⟨f, hf, hr⟩ := hbusy
      rw [Option.mem_def] at hf
      simp [State.executingFor, hch, hf, hr]
    have htake := takeCommand_takeOffline (u := s.taken tag (.takeOffline slot)) (tag := tag) hslot hcheck
    rw [State.executingFor_of_taken, if_pos hexecuting] at htake
    exact exec_answered (c := .takeOffline slot) hadmits htake
  · have htake := takeCommand_refreshNow (u := s.taken tag (.refreshNow slot count)) (tag := tag) hslot hpos hmax hserved
    rw [State.deepEnterQueued_of_taken, State.taskAt_of_taken, State.poolFull_of_taken] at htake
    refine ⟨fun hdeep => ?_, fun hdeep hqueued => ?_, fun hdeep hqueued hfull => ?_⟩
    · rw [if_pos hdeep] at htake
      exact exec_answered (c := .refreshNow slot count) hadmits htake
    · rw [if_neg hdeep, if_pos ((State.pool_isSome_iff hch).mpr hqueued)] at htake
      exact exec_answered (c := .refreshNow slot count) hadmits htake
    · rw [if_neg hdeep, if_neg (mt (State.pool_isSome_iff hch).mp hqueued), if_pos ((State.poolFull_iff hch).mpr hfull)] at htake
      exact exec_answered (c := .refreshNow slot count) hadmits htake
  · obtain ⟨k, hk⟩ : ∃ k, calKindOf kind = some k := by
      obtain h | h : kind = 0 ∨ kind = 1 := by
        obtain h | h : kind.toNat = 0 ∨ kind.toNat = 1 := by omega
        · exact .inl (BitVec.eq_of_toNat_eq h)
        · exact .inr (BitVec.eq_of_toNat_eq h)
      · exact ⟨.short, by rw [h]; rfl⟩
      · exact ⟨.long, by rw [h]; rfl⟩
    have htake := takeCommand_calibrate (u := s.taken tag (.calibrate slot kind)) (tag := tag) hslot hk hserved
    rw [State.deepEnterQueued_of_taken, State.calExecuting_of_taken, State.taggedCalibration_of_taken] at htake
    refine ⟨fun hbusy => ?_, fun hdeep hrunning hpending => ?_⟩
    · by_cases hdeep : s.deepEnterQueued r = true
      · rw [if_pos hdeep] at htake
        exact exec_answered (c := .calibrate slot kind) hadmits htake
      · rw [if_neg hdeep, if_pos (hbusy.resolve_left hdeep)] at htake
        exact exec_answered (c := .calibrate slot kind) hadmits htake
    · rw [if_neg hdeep, if_neg hrunning, if_pos (State.taggedCalibration_iff.mpr hpending)] at htake
      exact exec_answered (c := .calibrate slot kind) hadmits htake

/-- Settles O23: the checks of each power command in their order. -/
theorem powerRefusals : Obligations.PowerRefusals := by
  intro s tag slot r ch hadmits hslot hch
  refine ⟨fun c hc hcheck hpower => ?_, fun hcheck hpower => ⟨fun hband => ?_, fun hband hwork => ?_⟩⟩
  · have hhas := (State.hasPowerTask_iff hch).mpr hpower
    simp only [List.mem_cons, List.not_mem_nil, or_false] at hc
    obtain rfl | rfl | rfl | rfl := hc
    · have htake := takeCommand_napEnter (u := s.taken tag (.napEnter slot)) (tag := tag) hslot hcheck
      rw [State.hasPowerTask_of_taken, if_pos hhas] at htake
      exact exec_answered hadmits htake
    · have htake := takeCommand_napExit (u := s.taken tag (.napExit slot)) (tag := tag) hslot hcheck
      rw [State.hasPowerTask_of_taken, if_pos hhas] at htake
      exact exec_answered hadmits htake
    · have htake := takeCommand_deepEnter (u := s.taken tag (.deepEnter slot)) (tag := tag) hslot hcheck
      rw [State.hasPowerTask_of_taken, if_pos hhas] at htake
      exact exec_answered hadmits htake
    · have htake := takeCommand_deepExit (u := s.taken tag (.deepExit slot)) (tag := tag) hslot hcheck
      rw [State.hasPowerTask_of_taken, if_pos hhas] at htake
      exact exec_answered hadmits htake
  · have htake := takeCommand_deepEnter (u := s.taken tag (.deepEnter slot)) (tag := tag) hslot hcheck
    rw [State.hasPowerTask_of_taken, if_neg (mt (State.hasPowerTask_iff hch).mp hpower), State.rank_of_taken, if_pos hband] at htake
    exact exec_answered (c := .deepEnter slot) hadmits htake
  · have htake := takeCommand_deepEnter (u := s.taken tag (.deepEnter slot)) (tag := tag) hslot hcheck
    rw [State.hasPowerTask_of_taken, if_neg (mt (State.hasPowerTask_iff hch).mp hpower), State.rank_of_taken, if_neg hband,
      State.deepBusy_of_taken, if_pos ((State.deepBusy_iff hch).mpr hwork)] at htake
    exact exec_answered (c := .deepEnter slot) hadmits htake

/-! ### Ranks configured and removed -/

/-- A command completed at the end of its event (R172, R175). -/
theorem exec_completed {s t : State} {tag : Tag} {c : HostCommand} {status : Status} {detail : Detail} (hadmits : s.Admits tag)
    (h : takeCommand tag c (s.taken tag c) = t.complete tag status detail) (hout : t.outstanding = s.outstanding ++ [outEntryOf tag c]) :
    exec (c.instr tag) s =
      .next ({ t with outstanding := s.outstanding, records := t.records ++ [t.completionOf tag c status detail] } : State).settle := by
  obtain ⟨-, -, hfresh, -⟩ := id hadmits
  rw [exec_admitted hadmits h, State.complete_taken s t tag c status detail hfresh hout]

/-- The conditions of a channel depend on its queue, its engine, the drain bit, the policy and the balances of its tasks' ranks. -/
theorem State.conditions_congr {s t : State} {c : Chan} (hqueue : t.queue c = s.queue c) (hengine : t.engine c = s.engine c)
    (hdrain : t.drain = s.drain) (hpolicy : t.policy = s.policy)
    (hbalance : ∀ x ∈ (s.queue c).tasks, (t.rank x.rank).balance = (s.rank x.rank).balance) :
    t.requestCondition c = s.requestCondition c ∧ t.urgencyCondition c = s.urgencyCondition c := by
  have howed : t.owedSum c = s.owedSum c := by
    unfold State.owedSum
    rw [hqueue]
    refine congrArg List.sum (List.map_congr_left fun x hx => ?_)
    rw [Rank.owed, Rank.owed, hbalance x (List.mem_of_mem_filter hx)]
  unfold State.requestCondition State.urgencyCondition State.reports State.resetting
  rw [hqueue, hengine, hdrain, hpolicy, howed]
  exact ⟨rfl, rfl⟩

/-- What leaves the queues, the lines, the policy and the balances of the ranks at work leaves the conditions taken. -/
theorem State.Settled.congr {s t : State} (h : s.Settled) (hqueue : t.queues = s.queues) (hengine : t.engines = s.engines)
    (hdrain : t.drain = s.drain) (hpolicy : t.policy = s.policy) (hnego : t.negotiators = s.negotiators)
    (hbalance : ∀ c, ∀ x ∈ (s.queue c).tasks, (t.rank x.rank).balance = (s.rank x.rank).balance) : t.Settled := by
  have hqueue' : ∀ c, t.queue c = s.queue c := fun c => by rw [State.queue, hqueue]; rfl
  have hengine' : ∀ c, t.engine c = s.engine c := fun c => by rw [State.engine, hengine]; rfl
  refine h.of_nego (c := .a) (n := s.nego .a) (fun c => ?_) (fun c => ?_) (fun c => ?_) h.1.1 h.1.2
  · exact (State.conditions_congr (hqueue' c) (hengine' c) hdrain hpolicy (hbalance c)).1
  · exact (State.conditions_congr (hqueue' c) (hengine' c) hdrain hpolicy (hbalance c)).2
  · rw [State.nego, hnego]
    split
    · next hc => rw [hc]; rfl
    · rfl

theorem State.discardRead_eq (s : State) (r : Slot) : s.discardRead r = s.setMonitor (s.monitor.discarding r) := by
  unfold State.discardRead Monitor.discarding
  split <;> rfl

/-- A slot out of service has no task in a queue (R4, R121). -/
theorem State.RankLaw.no_task {s : State} (h : s.RankLaw) {r : Slot} (hout : (s.rank r).state = .absent ∨ (s.rank r).state = .offline)
    (d : Chan) : ∀ x ∈ (s.queue d).tasks, x.rank ≠ r := by
  obtain ⟨-, ⟨ha, -⟩, ⟨hb, -⟩⟩ := h
  intro x hx hr
  obtain ⟨-, hnotabsent, hnotoffline⟩ := (by cases d; exacts [ha x hx, hb x hx] :
    (s.rank x.rank).channel = some d ∧ (s.rank x.rank).state ≠ .absent ∧ (s.rank x.rank).state ≠ .offline)
  rw [hr] at hnotabsent hnotoffline
  exact hout.elim hnotabsent hnotoffline

theorem State.RankLaw.interval_eq_none {s : State} (h : s.RankLaw) {r : Slot} (hout : (s.rank r).state.served = false) :
    (s.rank r).interval = none := by
  obtain ⟨htimer, -⟩ := h
  obtain ⟨hinterval, -⟩ := htimer r
  rw [Option.eq_none_iff_forall_ne_some]
  intro i hi
  have := hinterval (by rw [hi]; rfl)
  rw [hout] at this
  cases this

theorem State.taskAt_eq_none {s : State} {r : Slot} (h : ∀ d, ∀ x ∈ (s.queue d).tasks, x.rank ≠ r) (p : TaskSlot) :
    s.taskAt r p = none := by
  unfold State.taskAt
  split
  · rfl
  · next c _ =>
    rw [List.find?_eq_none]
    intro x hx
    simp [h c x hx]

/-- A band change of a rank with no timer and no power task is not taken by the planner or the power logic (R27, R107). -/
theorem State.handBand_of_out {s : State} {r : Slot} (hinterval : (s.rank r).interval = none) (hdeep : (s.rank r).state ≠ .deep)
    (hpower : s.taskAt r .power = none) (old new : Band) : s.handBand r old new = s := by
  have hplanner : s.bandToPlanner r old new = s := by simp only [State.bandToPlanner, hinterval]
  have hremove : s.removeDeepEnter r = s := by
    unfold State.removeDeepEnter
    rw [hpower]
    split
    · next h => cases h
    · rfl
  unfold State.handBand State.criticalBand
  simp only [hplanner, hdeep, if_false, hremove, ite_self]

/-- A band change of a rank out of service is its record alone (R65). -/
theorem State.changeBand_of_out {s : State} {r : Slot} (hinterval : (s.rank r).interval = none) (hdeep : (s.rank r).state ≠ .deep)
    (hidle : ∀ d, ∀ x ∈ (s.queue d).tasks, x.rank ≠ r) (b : Band) : s.changeBand r b = s.setRank r { s.rank r with band := b } :=
  State.handBand_of_out (by rw [State.rank_setRank_self]; exact hinterval) (by rw [State.rank_setRank_self]; exact hdeep)
    (State.taskAt_eq_none (by exact hidle) .power) _ _

/-- CONFIGURE_RANK of a slot with no work: the record and the discarded read (R7, R8, R63). -/
theorem State.configure_eq {s : State} {r : Slot} (hinterval : (s.rank r).interval = none)
    (hidle : ∀ d, ∀ x ∈ (s.queue d).tasks, x.rank ≠ r) (c : Option Chan) (g : Option GroupId) (address : BitVec 7) (present : Bool) :
    s.configure r c g (addressOf address present) = { s with
      monitor := s.monitor.discarding r
      ranks := s.ranks.set r { s.rank r with
        state := .offline, channel := c, group := g, lastTemp := none, sensorFailures := 0
        sensor := if present = true then some address else none
        sensorStatus := if present = true then .unread else .absent
        band := if present = true then s.thermal.fallbackBand else (s.rank r).band
        bandSource := if present = true then (if s.monitor.polling = true then .sensor else .fallback) else .host } } := by
  have hpolling : (s.monitor.discarding r).polling = s.monitor.polling := by
    unfold Monitor.discarding
    split <;> rfl
  unfold State.configure State.configureSensor
  rw [State.discardRead_eq]
  cases present with
  | false =>
    simp only [addressOf, Bool.false_eq_true, if_false, State.rank_of_setMonitor, State.rank_setRank_self]
    simp [State.setRank, State.setMonitor]
  | true =>
    simp only [addressOf, if_true, State.rank_of_setMonitor, State.rank_setRank_self]
    refine (State.changeBand_of_out (by simpa using hinterval) (by simp) (by exact hidle) _).trans ?_
    simp [State.setRank, State.setMonitor, State.rank, hpolling]

theorem State.addressShared_iff {s : State} {r : Slot} {address : BitVec 7} {present : Bool} :
    s.addressShared r (addressOf address present) = true ↔
      present = true ∧ ∃ q : Slot, q ≠ r ∧ (s.rank q).state ≠ .absent ∧ (s.rank q).sensor = some address := by
  have hall : ∀ q : Slot, q ∈ allSlots := by decide
  cases present <;> simp [addressOf, State.addressShared, State.addressTaken, hall, and_assoc]

theorem takeCommand_configureRank {u : State} {tag : Tag} {slot channel group : BitVec 8} {address : BitVec 7} {present : Bool} {r : Slot}
    {ch : Chan} {g : GroupId} (hslot : slotOf slot = some r) (hch : chanOf channel = some ch) (hg : groupOf group = some g)
    (haddress : present = true → 0x08 ≤ address.toNat ∧ address.toNat ≤ 0x77)
    (hcheck : stateCheck .configureRank (u.rank r).state = none) :
    takeCommand tag (.configureRank slot channel group address present) u =
      if u.addressShared r (addressOf address present) then u.badParameter tag addressPosition
      else (u.configure r (some ch) (some g) (addressOf address present)).complete tag .done .none := by
  have hpasses : ∀ p ∈ configureChecks slot channel group address present, p.2 = true := by
    simp only [configureChecks, within, List.forall_mem_cons, hslot, hch, hg, Option.isSome_some, Bool.or_eq_true, Bool.not_eq_true',
      Bool.and_eq_true, decide_eq_true_eq]
    refine ⟨trivial, trivial, trivial, ?_, fun _ h => nomatch h⟩
    cases present
    · exact .inl rfl
    · exact .inr (haddress rfl)
  show runConfigureRank tag slot channel group address present u = _
  unfold runConfigureRank
  rw [State.rankCommand_of_passed hpasses hslot hcheck, hch, hg]

theorem takeCommand_removeRank {u : State} {tag : Tag} {slot : BitVec 8} {r : Slot} (hslot : slotOf slot = some r)
    (hcheck : stateCheck .removeRank (u.rank r).state = none) :
    takeCommand tag (.removeRank slot) u = ((u.discardRead r).setRank r Rank.initial).complete tag .done .none := by
  show runRemoveRank tag slot u = _
  unfold runRemoveRank
  exact State.rankCommand_of_passed (slotChecks_pass hslot) hslot hcheck

/-- Settles O9: a slot out of service has no work, so its record and the discarded read are all that changes. -/
theorem configureAndRemoveRank : Obligations.ConfigureAndRemoveRank := by
  refine ⟨fun s tag slot channel group address present r ch g hadmits hlaw hslot hch hg haddress hout => ⟨fun hfree => ?_, fun hp htaken => ?_⟩,
    fun s tag slot r hadmits hlaw hslot hoffline => ?_⟩
  · obtain ⟨-, -, -, -, -, hsettled⟩ := id hadmits
    have hserved : (s.rank r).state.served = false := by obtain h | h := hout <;> (rw [h]; rfl)
    have hcheck : stateCheck .configureRank (s.rank r).state = none := by obtain h | h := hout <;> (rw [h]; rfl)
    have hidle := fun d => hlaw.no_task hout d
    have hshared : ¬(s.taken tag (.configureRank slot channel group address present)).addressShared r (addressOf address present) = true := by
      rw [State.addressShared_iff]
      rintro ⟨hp, q, hne, hstate, hsensor⟩
      exact hfree hp q hne hstate hsensor
    have htake := takeCommand_configureRank (u := s.taken tag (.configureRank slot channel group address present)) (tag := tag) hslot hch hg
      haddress hcheck
    rw [if_neg hshared, State.configure_eq (s := s.taken tag _) (hlaw.interval_eq_none hserved) hidle] at htake
    refine (exec_completed (c := .configureRank slot channel group address present) hadmits htake rfl).trans (congrArg _ ?_)
    refine State.settle_of_settled _ (State.Settled.congr (s := s) hsettled rfl rfl rfl rfl rfl fun d x hx => ?_)
    exact congrArg Rank.balance (State.rank_setRank_ne s _ (hidle d x hx))
  · have hcheck : stateCheck .configureRank (s.rank r).state = none := by obtain h | h := hout <;> (rw [h]; rfl)
    have hshared : (s.taken tag (.configureRank slot channel group address present)).addressShared r (addressOf address present) = true := by
      rw [State.addressShared_iff]
      obtain ⟨q, hne, hstate, hsensor⟩ := htaken
      exact ⟨hp, q, hne, hstate, hsensor⟩
    have htake := takeCommand_configureRank (u := s.taken tag (.configureRank slot channel group address present)) (tag := tag) hslot hch hg
      haddress hcheck
    rw [if_pos hshared] at htake
    exact exec_answered (c := .configureRank slot channel group address present) hadmits htake
  · obtain ⟨-, -, -, -, -, hsettled⟩ := id hadmits
    have hidle := fun d => hlaw.no_task (.inr hoffline) d
    have htake := takeCommand_removeRank (u := s.taken tag (.removeRank slot)) (tag := tag) hslot
      (by rw [State.rank_of_taken, hoffline]; rfl)
    rw [State.discardRead_eq] at htake
    refine (exec_completed (c := .removeRank slot) hadmits htake rfl).trans (congrArg _ ?_)
    refine State.settle_of_settled _ (State.Settled.congr (s := s) hsettled rfl rfl rfl rfl rfl fun d x hx => ?_)
    exact congrArg Rank.balance (State.rank_setRank_ne s _ (hidle d x hx))

/-! ### Requests -/

/-- A scan that follows a scan of the same group finds nothing more to grant (R81). -/
theorem State.scanGroup_scanGroup (s : State) (g : GroupId) : (s.scanGroup g).scanGroup g = s.scanGroup g := by
  cases hfind : (s.group g).waiting.find? s.eligible with
  | none => rw [State.scanGroup_of_none s g hfind, State.scanGroup_of_none s g hfind]
  | some e =>
    by_cases hfree : (s.group g).state = .free
    · refine State.scanGroup_of_taken _ g ?_
      have hheld : ((s.grant g e).group g).state = .held := by
        unfold State.grant
        simp only
        split
        · simp
        · rw [State.insertTask_eq]
          simp
      rw [State.scanGroup_of_some s g e hfree hfind, hheld]
      decide
    · rw [State.scanGroup_of_taken s g hfree, State.scanGroup_of_taken s g hfree]

/-- The table and the report queue replaced. -/
def State.withReports (s : State) (o : List OutEntry) (l : List Report) : State := { s with outstanding := o, records := l }

theorem State.grant_withReports (s : State) (g : GroupId) (e : Entry) (o : List OutEntry) (l : List Report) :
    (s.withReports o l).grant g e = (s.grant g e).withReports o l := by
  have heligible : (s.withReports o l).eligible = s.eligible := rfl
  have hchannel : ((s.withReports o l).rank e.rank).channel = (s.rank e.rank).channel := rfl
  unfold State.grant
  rw [heligible, hchannel]
  cases (s.rank e.rank).channel <;> rfl

/-- The scan reads and writes nothing of the report queue and the table. -/
theorem State.scanGroup_withReports (s : State) (g : GroupId) (o : List OutEntry) (l : List Report) :
    (s.withReports o l).scanGroup g = (s.scanGroup g).withReports o l := by
  cases hfind : (s.group g).waiting.find? s.eligible with
  | none => rw [State.scanGroup_of_none s g hfind, State.scanGroup_of_none (s.withReports o l) g hfind]
  | some e =>
    by_cases hfree : (s.group g).state = .free
    · rw [State.scanGroup_of_some s g e hfree hfind, State.scanGroup_of_some (s.withReports o l) g e hfree hfind, State.grant_withReports]
    · rw [State.scanGroup_of_taken s g hfree, State.scanGroup_of_taken (s.withReports o l) g hfree]

/-- A request of a rank with no part in its group joins the tail and is scanned (R75, R76). -/
theorem State.requestIn_of_noStanding {s : State} {g : GroupId} {r : Slot} (h : s.NoStanding g r) (kind : CalKind) (origin : CalOrigin)
    (tag : Option Tag) : s.requestIn g r kind origin tag = (s.joinTail g
      { rank := r, kind := (s.rank r).requestKind kind origin, origin := origin, tag := tag, revocations := 0 }).scanGroup g := by
  obtain ⟨hholder, hwaiting⟩ := h
  have hnone : (s.group g).waiting.any (fun e => e.rank == r) = false := by
    simpa using hwaiting
  simp only [State.requestIn, hholder, hnone, if_false, Bool.false_eq_true]

/-- A host request of a rank in the waiting list merges into its entry and is scanned (R76). -/
theorem State.requestIn_of_waiting {s : State} {g : GroupId} {r : Slot} (hholder : (s.group g).holder ≠ some r)
    (hwaiting : ∃ e ∈ (s.group g).waiting, e.rank = r) (kind : CalKind) (tag : Option Tag) : s.requestIn g r kind .host tag =
      (s.mergeWaiting g r ((s.rank r).requestKind kind .host) .host tag).scanGroup g := by
  have hany : (s.group g).waiting.any (fun e => e.rank == r) = true := by
    simpa using hwaiting
  simp only [State.requestIn, hholder, hany, if_true, if_false]

/-- A request of the rank that holds the token in HELD merges into the held entry and the queued task (R77). -/
theorem State.requestIn_of_held {s : State} {g : GroupId} {r : Slot} (hholder : (s.group g).holder = some r)
    (hheld : (s.group g).state = .held) (kind : CalKind) (origin : CalOrigin) (tag : Option Tag) : s.requestIn g r kind origin tag =
      s.mergeHeld g r ((s.rank r).requestKind kind origin) origin tag := by
  simp only [State.requestIn, hholder, hheld, if_true]

theorem joinKinds_eq_ite (a b : CalKind) : joinKinds a b = if a = .long then .long else b := by cases a <;> cases b <;> rfl

/-- A host request takes an untagged entry over, and never lowers its kind (R76, R77). -/
theorem Entry.merge_of_untagged {e : Entry} (h : e.tag = none) (kind : CalKind) (tag : Option Tag) :
    e.merge kind .host tag = { e with kind := (if e.kind = .long then .long else kind), origin := .host, tag := tag } := by
  simp only [Entry.merge, h, and_self, if_true, joinKinds_eq_ite]

theorem calTaskKind_eq_ite_long (k : CalKind) : calTaskKind k = if k = .long then .calLong else .calShort := by
  cases k <;> rfl

/-- A host request merged into an untagged held entry and its queued task (R77). -/
theorem State.mergeHeld_of_untagged {s : State} {g : GroupId} {r : Slot} {ch : Chan} {e : Entry} (hentry : (s.group g).heldEntry = some e)
    (hch : (s.rank r).channel = some ch) (h : e.tag = none) (kind : CalKind) (tag : Tag) : s.mergeHeld g r kind .host (some tag) =
      (s.setGroup g { s.group g with
        heldEntry := some { e with kind := (if e.kind = .long then .long else kind), origin := .host, tag := some tag } }).setQueue ch
      { s.queue ch with tasks := (s.queue ch).tasks.map (fun x =>
          if x.rank = r ∧ (x.kind = .calShort ∨ x.kind = .calLong) then
            { x with kind := (if (if e.kind = .long then CalKind.long else kind) = .long then .calLong else .calShort)
                     tag := some tag, origin := .host }
          else x) } := by
  simp only [State.mergeHeld, hentry, hch, State.mapTasks, Entry.merge_of_untagged h, TaskKind.place_eq_calibration, CalOrigin.task,
    calTaskKind_eq_ite_long, State.queue_of_setGroup]

/-- What an accepted BRING_ONLINE makes of a rank with no part in its group (R10). -/
theorem State.bringOnline_eq {s : State} {r : Slot} {g : GroupId} (hg : (s.rank r).group = some g) (hstanding : s.NoStanding g r) :
    s.bringOnline r = ((s.setRank r { s.rank r with
      state := .online, calStatus := .never, failures := 0, calTemp := none, balance := 0, urgent := false
      interval := some
        { started := s.now, full := s.timing.baseInterval / 2 ^ min (s.rank r).band.val 2
          length := s.timing.baseInterval / 2 ^ min (s.rank r).band.val 2 } }).joinTail g
        { rank := r, kind := .long, origin := .online, tag := none, revocations := 0 }).scanGroup g := by
  have haccount : ((s.setRank r { s.rank r with state := .online, calStatus := .never, failures := 0, calTemp := none }).openAccount r) =
      s.setRank r { s.rank r with
        state := .online, calStatus := .never, failures := 0, calTemp := none, balance := 0, urgent := false
        interval := some
          { started := s.now, full := s.timing.baseInterval / 2 ^ min (s.rank r).band.val 2
            length := s.timing.baseInterval / 2 ^ min (s.rank r).band.val 2 } } := by
    simp [State.openAccount, State.startInterval, intervalLength]
  unfold State.bringOnline
  simp only
  rw [haccount]
  generalize hk : ({ s.rank r with
    state := .online, calStatus := .never, failures := 0, calTemp := none, balance := 0, urgent := false
    interval := _ } : Rank) = k
  have hgroup : ((s.setRank r k).rank r).group = some g := by rw [State.rank_setRank_self, ← hk]; exact hg
  have hrequest : (s.setRank r k).internalRequest r .long .online = ((s.setRank r k).joinTail g
      { rank := r, kind := .long, origin := .online, tag := none, revocations := 0 }).scanGroup g := by
    have hserved : ((s.setRank r k).rank r).state.served = true := by rw [State.rank_setRank_self, ← hk]; rfl
    have hkind : ((s.setRank r k).rank r).requestKind .long .online = .long := ite_self _
    rw [State.internalRequest, if_pos hserved, State.request, hgroup]
    simp only
    rw [State.requestIn_of_noStanding (by exact hstanding), hkind]
  rw [hrequest]
  unfold State.scanRank
  rw [State.scanGroup_frame]
  change (match ((s.setRank r k).rank r).group with | none => _ | some g => _) = _
  rw [hgroup]
  simp only
  rw [← State.scanGroup_frame, State.scanGroup_scanGroup]

theorem takeCommand_bringOnline {u : State} {tag : Tag} {slot : BitVec 8} {r : Slot} (hslot : slotOf slot = some r)
    (hcheck : stateCheck .bringOnline (u.rank r).state = none) :
    takeCommand tag (.bringOnline slot) u = (u.bringOnline r).complete tag .done .none := by
  show runBringOnline tag slot u = _
  unfold runBringOnline
  exact State.rankCommand_of_passed (slotChecks_pass hslot) hslot hcheck

/-- Settles O10: the account opened, the request that joins the tail, and the scan, which the completion commutes with. -/
theorem bringOnline : Obligations.BringOnline := by
  intro s tag slot r g hadmits hslot hoffline hg hstanding
  have htake := takeCommand_bringOnline (u := s.taken tag (.bringOnline slot)) (tag := tag) hslot
    (by rw [State.rank_of_taken, hoffline]; rfl)
  rw [State.bringOnline_eq (s := s.taken tag _) hg hstanding] at htake
  refine (exec_completed (c := .bringOnline slot) hadmits htake (by rw [State.scanGroup_frame]; rfl)).trans ?_
  rw [congrArg State.records (State.scanGroup_frame _ g), congrArg (State.completionOf · tag (.bringOnline slot) .done .none)
    (State.scanGroup_frame _ g)]
  exact congrArg (Host.Outcome.next ∘ State.settle) (State.scanGroup_withReports _ g _ _).symm

theorem takeCommand_calibrate_free {s : State} {tag : Tag} {slot kind : BitVec 8} {r : Slot} {ch : Chan} {g : GroupId} {k : CalKind}
    (hslot : slotOf slot = some r) (hkind : calKindOf kind = some k)
    (hstate : (s.rank r).state = .online ∨ (s.rank r).state = .nap ∨ (s.rank r).state = .faulted) (hch : (s.rank r).channel = some ch)
    (hg : (s.rank r).group = some g) (hfree : ∀ x ∈ (s.queue ch).tasks, x.rank = r →
      x.kind ≠ .deepEnter ∧ (x.kind = .calShort ∨ x.kind = .calLong → x.executing = false))
    (huntagged : s.taggedCalibration r = false) : takeCommand tag (.calibrate slot kind) s = s.requestIn g r k .host (some tag) := by
  have hdeep : s.deepEnterQueued r = false := State.deepEnterQueued_of_none hch fun x hx hr => (hfree x hx hr).1
  have hrunning : s.calExecuting r = false := State.calExecuting_of_none hch fun x hx hr => (hfree x hx hr).2
  rw [takeCommand_calibrate hslot hkind (RankState.served_iff.mpr hstate), hdeep, hrunning, huntagged, State.request, hg]
  rfl

/-- Settles O20: the request by the rank's standing in its group. -/
theorem calibrate : Obligations.Calibrate := by
  intro s tag slot kind r ch g k hadmits hslot hkind hstate hch hg hfree
  have hrequestKind : (s.rank r).requestKind k .host =
      if (s.rank r).calStatus = .never ∨ (s.rank r).state = .faulted then CalKind.long else k := by
    simp only [Rank.requestKind, and_true]
  have huntagged : (∀ e ∈ (s.group g).waiting, e.rank = r → e.tag = none) →
      ((s.group g).holder = some r → ∀ e ∈ (s.group g).heldEntry, e.tag = none) → s.taggedCalibration r = false := by
    intro hwaiting hheld
    rw [Bool.eq_false_iff, Ne, State.taggedCalibration_iff]
    rintro ⟨g', hg', ⟨e, he, her, htag⟩ | ⟨hholds, e, he, htag⟩⟩
    all_goals
      obtain rfl : g = g' := Option.some.inj (hg.symm.trans hg')
    · rw [hwaiting e he her] at htag; cases htag
    · rw [hheld hholds e he] at htag; cases htag
  refine ⟨fun hstanding => ?_, fun hholder hwaiting hnotag => ?_, fun e hholder hheld hentry hnotag hwaiting => ?_⟩
  · have htake := takeCommand_calibrate_free (s := s.taken tag (.calibrate slot kind)) (tag := tag) hslot hkind hstate hch hg hfree
      (huntagged (fun e he hr => absurd hr (hstanding.2 e he)) fun h => absurd h hstanding.1)
    rw [State.requestIn_of_noStanding (s := s.taken tag _) hstanding, State.rank_of_taken, hrequestKind] at htake
    exact exec_admitted (c := .calibrate slot kind) hadmits htake
  · have htake := takeCommand_calibrate_free (s := s.taken tag (.calibrate slot kind)) (tag := tag) hslot hkind hstate hch hg hfree
      (huntagged hnotag fun h => absurd h hholder)
    rw [State.requestIn_of_waiting (s := s.taken tag _) hholder hwaiting, State.rank_of_taken, hrequestKind, State.mergeWaiting,
      State.group_of_taken] at htake
    refine (exec_admitted (c := .calibrate slot kind) hadmits htake).trans ?_
    have hmerge : (s.group g).waiting.map (fun e => if e.rank = r then e.merge
          (if (s.rank r).calStatus = .never ∨ (s.rank r).state = .faulted then CalKind.long else k) .host (some tag) else e) =
        (s.group g).waiting.map (fun e => if e.rank = r then { e with
          kind := (if e.kind = .long then .long else
            if (s.rank r).calStatus = .never ∨ (s.rank r).state = .faulted then CalKind.long else k), origin := .host, tag := some tag }
          else e) := by
      refine List.map_congr_left fun e he => ?_
      split
      · next hr => exact Entry.merge_of_untagged (hnotag e he hr) _ _
      · rfl
    rw [hmerge]
  · have htake := takeCommand_calibrate_free (s := s.taken tag (.calibrate slot kind)) (tag := tag) hslot hkind hstate hch hg hfree
      (huntagged (fun x hx hr => absurd hr (hwaiting x hx)) fun _ x hx => by
        obtain rfl : e = x := Option.some.inj (hentry.symm.trans hx)
        exact hnotag)
    rw [State.requestIn_of_held (s := s.taken tag _) hholder hheld, State.rank_of_taken, hrequestKind,
      State.mergeHeld_of_untagged (s := s.taken tag _) (ch := ch) hentry hch hnotag, State.group_of_taken, State.queue_of_taken] at htake
    exact exec_admitted (c := .calibrate slot kind) hadmits htake

end Sys2Proof.Machine
end

section
/-! SUPPORT and the proofs of O34 to O37: the timers of ranks and groups (R23 to R30, R42, R71 to R90, R106). -/

namespace Sys2Proof.Machine

-- Proofs are elaborated one after the other, which bounds the memory a compile reserves.
set_option Elab.async false

/-! ### An interval expiry taken -/

/-- The balance an expiry leaves (R25). -/
def State.nextBalance (s : State) (r : Slot) : Int :=
  if (s.rank r).balance ≤ -(s.policy.postponeLimit : Int) then (s.rank r).balance else (s.rank r).balance - 1

/-- The overruns an expiry leaves (R25). -/
def State.nextOverruns (s : State) (r : Slot) : Nat :=
  if (s.rank r).balance ≤ -(s.policy.postponeLimit : Int) then min 65535 ((s.rank r).overruns + 1) else (s.rank r).overruns

/-- The urgent flag an expiry leaves (R23). -/
def State.nextUrgent (s : State) (r : Slot) : Bool := decide (s.nextBalance r ≤ -(s.policy.urgentAt : Int))

/-- The notices of an expiry: the overrun, then the flag that rises (R23, R25). -/
def State.expiryNoticed (s : State) (r : Slot) (ch : Chan) : State :=
  let u := if (s.rank r).balance ≤ -(s.policy.postponeLimit : Int) then s.notice (.refreshOverrun r (some ch) (s.nextOverruns r)) else s
  if s.nextUrgent r = true ∧ (s.rank r).urgent = false then u.notice (.rankUrgent r (some ch) (s.nextBalance r)) else u

/-- The record an expiry leaves (R23 to R25). -/
def State.expiryRank (s : State) (r : Slot) : Rank :=
  { s.rank r with
    balance := s.nextBalance r, overruns := s.nextOverruns r, urgent := s.nextUrgent r
    interval := some
      { started := s.now, full := s.timing.baseInterval / 2 ^ min (s.rank r).band.val 2
        length := s.timing.baseInterval / 2 ^ min (s.rank r).band.val 2 } }

/-- A queue with the internal refresh tasks of a rank in a class (R30). -/
def Queue.reclassed (q : Queue) (r : Slot) (urgent : Bool) : Queue :=
  { q with tasks := q.tasks.map (fun x =>
      if x.rank = r ∧ x.kind = .refresh then { x with cls := if urgent = true then TaskClass.urgent else .routine } else x) }

/-- The queue an expiry leaves: the rank's task reclassed, or created for a new debt (R26, R30). -/
def State.expiryQueue (s : State) (r : Slot) (ch : Chan) : Queue :=
  if s.nextBalance r < 0 ∧ (∀ x ∈ (s.queue ch).tasks, x.rank = r → x.kind ≠ TaskKind.refresh) ∧ (s.engine ch).resetMark = false then
    ((s.queue ch).reclassed r (s.nextUrgent r)).insert
      { seq := 0, rank := r, kind := .refresh, cls := if s.nextUrgent r = true then TaskClass.urgent else .routine, count := none
        tag := none, origin := .planner, executing := false }
  else (s.queue ch).reclassed r (s.nextUrgent r)

/-- A notice and a write of a rank record commute. -/
theorem State.setRank_notice (s : State) (r : Slot) (k : Rank) (b : Notice) : (s.setRank r k).notice b = (s.notice b).setRank r k := by
  have hm : (s.setRank r k).margin = s.margin := rfl
  unfold State.notice
  rw [hm]
  split <;> rfl

@[simp] theorem State.rank_of_notice (s : State) (b : Notice) (r : Slot) : (s.notice b).rank r = s.rank r := by
  rw [State.notice_frame]; rfl

@[simp] theorem State.queue_of_notice (s : State) (b : Notice) (c : Chan) : (s.notice b).queue c = s.queue c := by
  rw [State.notice_frame]; rfl

@[simp] theorem State.policy_of_notice (s : State) (b : Notice) : (s.notice b).policy = s.policy := by
  rw [State.notice_frame]

@[simp] theorem State.timing_of_notice (s : State) (b : Notice) : (s.notice b).timing = s.timing := by
  rw [State.notice_frame]

@[simp] theorem State.now_of_notice (s : State) (b : Notice) : (s.notice b).now = s.now := by
  rw [State.notice_frame]

/-- The notices change the report queue alone. -/
theorem State.expiryNoticed_frame (s : State) (r : Slot) (ch : Chan) : s.expiryNoticed r ch =
    { s with records := (s.expiryNoticed r ch).records, lost := (s.expiryNoticed r ch).lost } := by
  unfold State.expiryNoticed
  simp only
  split <;> split
  · rw [State.notice_frame (s.notice _), State.notice_frame s]
  · rw [State.notice_frame]
  · rw [State.notice_frame]
  · rfl

/-- The debit or the overrun of an expiry, with its notice (R25). -/
theorem State.debit_eq {s : State} {r : Slot} {ch : Chan} (hch : (s.rank r).channel = some ch) : s.debit r =
    (if (s.rank r).balance ≤ -(s.policy.postponeLimit : Int) then s.notice (.refreshOverrun r (some ch) (s.nextOverruns r)) else s).setRank r
      { s.rank r with balance := s.nextBalance r, overruns := s.nextOverruns r } := by
  unfold State.debit State.nextBalance State.nextOverruns
  simp only [hch]
  split
  · rw [State.setRank_notice]; rfl
  · rfl

/-- The urgent flag and the class of a served rank re-evaluated (R23, R30). -/
theorem State.reevaluate_of_served {s : State} {r : Slot} {ch : Chan} (hserved : (s.rank r).state.served = true)
    (hch : (s.rank r).channel = some ch) : s.reevaluate r =
      ((if s.urgentFor r = true ∧ (s.rank r).urgent = false then s.notice (.rankUrgent r (some ch) (s.rank r).balance) else s).setRank r
        { s.rank r with urgent := s.urgentFor r }).setQueue ch ((s.queue ch).reclassed r (s.urgentFor r)) := by
  unfold State.reevaluate State.setRefreshClass
  simp only [hserved, if_true, hch]
  by_cases h : s.urgentFor r = true ∧ (s.rank r).urgent = false
  · have h' : (s.urgentFor r && !(s.rank r).urgent) = true := by simpa using h
    simp only [if_pos h, if_pos h', State.setRank_notice, State.rank_setRank_self]
    simp only [State.mapTasks, Queue.reclassed, refreshClass, State.queue_of_setRank, State.queue_of_notice]
  · have h' : ¬(s.urgentFor r && !(s.rank r).urgent) = true := by simpa using h
    simp only [if_neg h, if_neg h', State.rank_setRank_self]
    simp only [State.mapTasks, Queue.reclassed, refreshClass, State.queue_of_setRank]

theorem Queue.reclassed_reclassed (q : Queue) (r : Slot) (x : Bool) : (q.reclassed r x).reclassed r x = q.reclassed r x := by
  simp only [Queue.reclassed, List.map_map]
  congr 1
  refine List.map_congr_left fun t _ => ?_
  by_cases h : t.rank = r ∧ t.kind = .refresh
  · simp [h]
  · simp [h]

/-- After an expiry a rank in debt has its task (R26, R30). -/
theorem State.ensureRefresh_of_reclassed {s : State} {r : Slot} {ch : Chan} (hch : (s.rank r).channel = some ch) {q : Queue}
    (hqueue : s.queue ch = q.reclassed r (s.rank r).urgent) : s.ensureRefresh r = s.setQueue ch
      (if (s.rank r).balance < 0 ∧ (∀ x ∈ q.tasks, x.rank = r → x.kind ≠ TaskKind.refresh) ∧ (s.engine ch).resetMark = false then
        (q.reclassed r (s.rank r).urgent).insert
          { seq := 0, rank := r, kind := .refresh, cls := if (s.rank r).urgent = true then TaskClass.urgent else .routine, count := none
            tag := none, origin := .planner, executing := false }
      else q.reclassed r (s.rank r).urgent) := by
  have hsame : s.setQueue ch (q.reclassed r (s.rank r).urgent) = s := by rw [← hqueue, State.setQueue_queue_same]
  have htask : (s.taskAt r .refresh).isSome = true ↔ ¬∀ x ∈ q.tasks, x.rank = r → x.kind ≠ TaskKind.refresh := by
    rw [State.taskAt_isSome_iff hch, hqueue]
    simp only [Queue.reclassed, List.mem_map, TaskKind.place_eq_refresh]
    push Not
    constructor
    · rintro ⟨x, ⟨y, hy, rfl⟩, hrank, hkind⟩
      refine ⟨y, hy, ?_, ?_⟩ <;> split_ifs at hrank hkind <;> assumption
    · rintro ⟨y, hy, hrank, hkind⟩
      exact ⟨_, ⟨y, hy, rfl⟩, by simp [hrank, hkind]⟩
  unfold State.ensureRefresh
  by_cases hdebt : (s.rank r).balance < 0
  · simp only [hdebt, true_and, if_true]
    cases hfind : s.taskAt r .refresh with
    | some t =>
      have hnot := htask.mp (by rw [hfind]; rfl)
      simp only [hnot, false_and, if_false, State.setRefreshClass, hch]
      rw [hsame]
      show s.setQueue ch ((s.queue ch).reclassed r (s.rank r).urgent) = s
      rw [hqueue, Queue.reclassed_reclassed, ← hqueue, State.setQueue_queue_same]
    | none =>
      have hall : ∀ x ∈ q.tasks, x.rank = r → x.kind ≠ TaskKind.refresh := by
        by_contra h
        rw [← htask, hfind] at h
        cases h
      simp only [hch]
      by_cases hmark : s.resetting ch = true
      · rw [if_pos hmark, if_neg fun h => absurd (hmark.symm.trans (h.2 : s.resetting ch = false)) (by decide), hsame]
      · rw [if_neg hmark, if_pos ⟨hall, (Bool.not_eq_true _).mp hmark⟩]
        simp only [State.createRefresh, hch, State.insertTask_eq, hqueue]
        rfl
  · simp only [hdebt, false_and, if_false]
    exact hsame.symm

/-- An interval expiry taken (R25, R26). -/
theorem State.takeInterval_eq {s : State} {r : Slot} {ch : Chan} (hserved : (s.rank r).state.served = true)
    (hch : (s.rank r).channel = some ch) :
    s.takeInterval r = ((s.expiryNoticed r ch).setRank r (s.expiryRank r)).setQueue ch (s.expiryQueue r ch) := by
  have hdebit : (s.debit r).startInterval r =
      (if (s.rank r).balance ≤ -(s.policy.postponeLimit : Int) then s.notice (.refreshOverrun r (some ch) (s.nextOverruns r)) else s).setRank r
        { s.expiryRank r with urgent := (s.rank r).urgent } := by
    rw [State.debit_eq hch, State.startInterval]
    split <;> simp [intervalLength, State.expiryRank]
  unfold State.takeInterval
  rw [hdebit]
  generalize hnoticed : (if (s.rank r).balance ≤ -(s.policy.postponeLimit : Int) then
    s.notice (.refreshOverrun r (some ch) (s.nextOverruns r)) else s) = u
  have hu : u.policy = s.policy ∧ (∀ c, u.queue c = s.queue c) ∧ ∀ c, u.engine c = s.engine c := by
    rw [← hnoticed]
    split
    · exact ⟨State.policy_of_notice _ _, fun c => State.queue_of_notice _ _ c, fun c => State.engine_of_notice _ _ c⟩
    · exact ⟨rfl, fun _ => rfl, fun _ => rfl⟩
  obtain ⟨hpolicy, hqueue, hengine⟩ := hu
  have hurgent : (u.setRank r { s.expiryRank r with urgent := (s.rank r).urgent }).urgentFor r = s.nextUrgent r := by
    simp only [State.urgentFor, State.rank_setRank_self, State.setRank_policy, hpolicy]
    rfl
  rw [State.reevaluate_of_served (ch := ch) (by rw [State.rank_setRank_self]; exact hserved) (by rw [State.rank_setRank_self]; exact hch),
    hurgent]
  have hnotices : (if s.nextUrgent r = true ∧ ((u.setRank r { s.expiryRank r with urgent := (s.rank r).urgent }).rank r).urgent = false then
      (u.setRank r { s.expiryRank r with urgent := (s.rank r).urgent }).notice
        (.rankUrgent r (some ch) ((u.setRank r { s.expiryRank r with urgent := (s.rank r).urgent }).rank r).balance)
      else u.setRank r { s.expiryRank r with urgent := (s.rank r).urgent }) =
      (s.expiryNoticed r ch).setRank r { s.expiryRank r with urgent := (s.rank r).urgent } := by
    unfold State.expiryNoticed
    simp only [State.rank_setRank_self, hnoticed, State.setRank_notice]
    split <;> rfl
  rw [hnotices]
  have hnoticed : (s.expiryNoticed r ch).queue ch = s.queue ch ∧ (s.expiryNoticed r ch).engine ch = s.engine ch := by
    rw [State.expiryNoticed_frame]
    exact ⟨rfl, rfl⟩
  obtain ⟨hqueue', hengine'⟩ := hnoticed
  simp only [State.rank_setRank_self, State.setRank_setRank, State.queue_of_setRank, hqueue]
  rw [State.ensureRefresh_of_reclassed (ch := ch) (q := s.queue ch)]
  · simp only [State.rank_of_setQueue, State.rank_setRank_self, State.setQueue_setQueue, State.engine_of_setQueue, State.engine_of_setRank, hengine']
    rfl
  · simp only [State.rank_of_setQueue, State.rank_setRank_self]
    exact hch
  · simp only [State.queue_setQueue_self, State.rank_of_setQueue, State.rank_setRank_self]

/-! ### The timers -/

/-- A running timer's expiry is taken from its time on (entry 1). -/
theorem exec_expiry {s : State} {i : Instr} {timer : Option Nat} {f : State → State} {due : Nat} (hreset : s.inReset = false)
    (htimer : timer = some due) (heffect : effectOf i s = s.expire timer f) (hevent : exec i s = s.event (effectOf i) := by rfl) :
    exec i s = .next (f (s.reach due)).settle := by
  rw [exec_next hreset hevent, heffect, htimer]
  rfl

/-- Settles O34: the expiry of the interval timer is the one the planner takes, from its time on. -/
theorem intervalExpiry : Obligations.IntervalExpiry := by
  intro s r ch it hreset hserved hch hit
  have hexec : exec (.intervalExpiry r) s = .next ((s.reach (it.started + it.length)).takeInterval r).settle :=
    exec_expiry (i := .intervalExpiry r) (f := fun s => s.takeInterval r) hreset (congrArg (Option.map Interval.due) hit) rfl
  have htake := State.takeInterval_eq (s := s.reach (it.started + it.length)) hserved hch
  have hranks : ((s.reach (it.started + it.length)).expiryNoticed r ch).ranks = s.ranks := by
    rw [State.expiryNoticed_frame]
    rfl
  intro k u past length balance overruns urgent u1 u2 cls reclass q
  have hnoticed : (s.reach (it.started + it.length)).expiryNoticed r ch = u2 := rfl
  refine hexec.trans (congrArg (Host.Outcome.next ∘ State.settle) (htake.trans ?_))
  rw [hnoticed] at hranks ⊢
  refine congrArg₂ (State.setQueue · ch ·) ?_ rfl
  rw [State.setRank, hranks]
  rfl

theorem State.scanRank_eq {s : State} {r : Slot} {g : GroupId} (h : (s.rank r).group = some g) : s.scanRank r = s.scanGroup g := by
  simp only [State.scanRank, h]

theorem State.internalRequest_eq {s : State} {r : Slot} {g : GroupId} (hserved : (s.rank r).state.served = true)
    (hg : (s.rank r).group = some g) (kind : CalKind) (origin : CalOrigin) :
    s.internalRequest r kind origin = s.requestIn g r kind origin none := by
  simp only [State.internalRequest, hserved, if_true, State.request, hg]

/-- An internal request raises an entry's kind and changes nothing else of it (R76). -/
theorem Entry.merge_of_internal {origin : CalOrigin} (horigin : origin ≠ .host) (e : Entry) (kind : CalKind) (tag : Option Tag) :
    e.merge kind origin tag = if kind = .long then { e with kind := .long } else e := by
  obtain ⟨rank, k, o, t, n⟩ := e
  cases kind <;> cases k <;> simp [Entry.merge, horigin, joinKinds]

/-- An internal request of a rank in the waiting list raises its entry's kind (R76). -/
theorem State.requestIn_of_waiting_internal {s : State} {g : GroupId} {r : Slot} (hholder : (s.group g).holder ≠ some r)
    (hwaiting : ∃ e ∈ (s.group g).waiting, e.rank = r) (kind : CalKind) {origin : CalOrigin} (horigin : origin ≠ .host) (tag : Option Tag) :
    s.requestIn g r kind origin tag = s.setGroup g { s.group g with waiting := (s.group g).waiting.map (fun e =>
      if e.rank = r ∧ (s.rank r).requestKind kind origin = .long then { e with kind := .long } else e) } := by
  have hany : (s.group g).waiting.any (fun e => e.rank == r) = true := by
    simpa using hwaiting
  have hmerge : ∀ e : Entry, (if e.rank = r then e.merge ((s.rank r).requestKind kind origin) origin tag else e) =
      if e.rank = r ∧ (s.rank r).requestKind kind origin = .long then { e with kind := .long } else e := by
    intro e
    rw [Entry.merge_of_internal horigin, ite_and]
  simp only [State.requestIn, hholder, hany, if_true, if_false, horigin, State.mergeWaiting, hmerge]

/-- The end of a settle period up to its request (R42, R106). -/
theorem State.settled_account (s : State) (r : Slot) :
    (s.setRank r { s.rank r with state := .online, settle := none }).openAccount r = s.setRank r { s.rank r with
      state := .online, settle := none, balance := 0, urgent := false
      interval := some
        { started := s.now, full := s.timing.baseInterval / 2 ^ min (s.rank r).band.val 2
          length := s.timing.baseInterval / 2 ^ min (s.rank r).band.val 2 } } := by
  simp [State.openAccount, State.startInterval, intervalLength]

/-- Settles O35: the account opened, the EXIT request by the rank's standing, and the scan. -/
theorem settleExpiry : Obligations.SettleExpiry := by
  intro s r g due hreset hdue hg hholder
  have hexec : exec (.settleExpiry r) s = .next ((s.reach due).endSettle r).settle :=
    exec_expiry (i := .settleExpiry r) (f := fun s => s.endSettle r) hreset hdue rfl
  have haccount := (s.reach due).settled_account r
  simp only
  generalize hk : ({ s.rank r with
    state := .online, settle := none, balance := 0, urgent := false
    interval := some
      { started := max s.now due, full := s.timing.baseInterval / 2 ^ min (s.rank r).band.val 2
        length := s.timing.baseInterval / 2 ^ min (s.rank r).band.val 2 } } : Rank) = k
  have haccount : ((s.reach due).setRank r { (s.reach due).rank r with state := .online, settle := none }).openAccount r =
      (s.reach due).setRank r k := haccount.trans (by rw [← hk]; rfl)
  have hgroup : (((s.reach due).setRank r k).rank r).group = some g := by rw [State.rank_setRank_self, ← hk]; exact hg
  have hserved : (((s.reach due).setRank r k).rank r).state.served = true := by rw [State.rank_setRank_self, ← hk]; rfl
  have hkind : (((s.reach due).setRank r k).rank r).requestKind .short .exit =
      if (s.rank r).calStatus = .never then .long else .short := by
    rw [State.rank_setRank_self, ← hk]
    simp [Rank.requestKind]
  have heffect : (s.reach due).endSettle r = (((s.reach due).setRank r k).requestIn g r .short .exit none).scanRank r := by
    unfold State.endSettle
    simp only
    rw [haccount, State.internalRequest_eq hserved hgroup]
  rw [hexec, heffect]
  refine ⟨fun hstanding => ?_, fun hwaiting => ?_⟩
  · rw [State.requestIn_of_noStanding (s := (s.reach due).setRank r k) ⟨hholder, hstanding⟩, hkind, State.scanRank_eq (g := g) (by rw [State.scanGroup_frame]; exact hgroup),
      State.scanGroup_scanGroup]
    rfl
  · rw [State.requestIn_of_waiting_internal (s := (s.reach due).setRank r k) hholder hwaiting _ (by decide), hkind, State.scanRank_eq (s := State.setGroup _ g _) (g := g) (by rw [State.rank_of_setGroup]; exact hgroup)]
    have hlong : ∀ p : Prop, [Decidable p] → ((if p then CalKind.long else .short) = .long ↔ p) := by
      intro p _
      by_cases h : p <;> simp [h]
    simp only [hlong]
    rfl

/-- Settles O36: the task and the token taken back, and the entry by its revocations. -/
theorem tokenHoldExpiry : Obligations.TokenHoldExpiry := by
  intro s g due e ch hreset hheld hdue hentry hch
  have hexec : exec (.tokenHoldExpiry g) s = .next ((s.reach due).revoke g).settle :=
    exec_expiry (i := .tokenHoldExpiry g) (f := fun s => s.revoke g) hreset hdue rfl
  have hplace : ∀ x : Task, (x.kind.place == .calibration) = (x.kind == TaskKind.calShort || x.kind == TaskKind.calLong) := by
    intro x; cases x.kind <;> rfl
  have heffect : (s.reach due).revoke g = (((((s.reach due).removeCalTask e.rank).freeGroup g).requeueOrStarve g e)).scanGroup g := by
    simp only [State.revoke, State.group_of_reach, hentry]
  have hremoved : (s.reach due).removeCalTask e.rank = (s.reach due).setQueue ch { s.queue ch with
      tasks := (s.queue ch).tasks.filter (fun x => !(x.rank == e.rank && (x.kind == TaskKind.calShort || x.kind == TaskKind.calLong))) } := by
    simp only [State.removeCalTask, State.rank_of_reach, hch, State.removeTasks, State.queue_of_reach, hplace]
  rw [hexec, heffect, hremoved]
  refine ⟨fun hfew => ?_, fun hmany => ?_⟩
  · rw [State.requeueOrStarve, if_pos (show e.revocations < Config.revocationLimit from hfew)]
    simp only [State.freeGroup, State.joinTail, State.setGroup_setGroup, State.group_setGroup_self]
    rfl
  · rw [State.requeueOrStarve, if_neg (show ¬e.revocations < Config.revocationLimit from Nat.not_lt.mpr hmany)]
    rfl

/-- A SHORT internal request of the rank that holds the token leaves the held entry as it is (R77). -/
theorem State.mergeHeld_short (s : State) (g : GroupId) (r : Slot) (origin : CalOrigin) (horigin : origin ≠ .host) :
    (s.mergeHeld g r .short origin none).group g = s.group g ∧ (s.mergeHeld g r .short origin none).ranks = s.ranks ∧
      (s.mergeHeld g r .short origin none).engines = s.engines ∧ (s.mergeHeld g r .short origin none).records = s.records := by
  unfold State.mergeHeld
  split
  · exact ⟨rfl, rfl, rfl, rfl⟩
  · next e he =>
    have hsame : s.setGroup g { s.group g with heldEntry := some (e.merge .short origin none) } = s := by
      rw [Entry.merge_of_internal horigin, if_neg (by decide), ← he, State.setGroup_group_same]
    simp only [hsame]
    split <;> exact ⟨rfl, rfl, rfl, rfl⟩

/-- Settles O37: the request by the rank's standing. -/
theorem periodicExpiry : Obligations.PeriodicExpiry := by
  intro s r g due hreset hsettled hdue hstate hvalid hg
  have hexec : exec (.periodicExpiry r) s =
      .next (((s.reach due).setRank r { (s.reach due).rank r with periodic := none }).internalRequest r .short .periodic).settle :=
    exec_expiry (i := .periodicExpiry r)
      (f := fun s => (s.setRank r { s.rank r with periodic := none }).internalRequest r .short .periodic) hreset hdue rfl
  simp only
  generalize hk : ({ s.rank r with periodic := none } : Rank) = k
  have hkeep : ((s.reach due).setRank r k).Settled := by
    refine hsettled.congr rfl rfl rfl rfl rfl fun c x _ => ?_
    rw [State.rank_setRank]
    split
    · next hx => rw [hx, ← hk]
    · rfl
  have hserved : (((s.reach due).setRank r k).rank r).state.served = true := by
    rw [State.rank_setRank_self, ← hk]
    obtain h | h := hstate <;> (simp only [h]; rfl)
  have hkind : (((s.reach due).setRank r k).rank r).requestKind .short .periodic = .short := by
    rw [State.rank_setRank_self, ← hk]
    simp [Rank.requestKind, hvalid]
  have heffect : ((s.reach due).setRank r k).internalRequest r .short .periodic =
      ((s.reach due).setRank r k).requestIn g r .short .periodic none :=
    State.internalRequest_eq hserved (by rw [State.rank_setRank_self, ← hk]; exact hg) _ _
  have hexec : exec (.periodicExpiry r) s = .next (((s.reach due).setRank r k).requestIn g r .short .periodic none).settle := by
    rw [hexec, ← heffect, ← hk]
    rfl
  rw [hexec]
  refine ⟨fun hstanding => ?_, fun hholder hwaiting => ?_, fun hholder hcal => ?_, fun hholder hheld => ⟨_, rfl, ?_⟩⟩
  · rw [State.requestIn_of_noStanding (s := (s.reach due).setRank r k) hstanding, hkind]
    rfl
  · have hsame : ((s.reach due).setRank r k).requestIn g r .short .periodic none = (s.reach due).setRank r k := by
      rw [State.requestIn_of_waiting_internal (s := (s.reach due).setRank r k) hholder hwaiting _ (by decide), hkind]
      simp only [reduceCtorEq, and_false, if_false, List.map_id']
      exact State.setGroup_group_same ((s.reach due).setRank r k) g
    rw [hsame, State.settle_of_settled _ hkeep]
    rfl
  · have hsame : ((s.reach due).setRank r k).requestIn g r .short .periodic none = (s.reach due).setRank r k := by
      simp only [State.requestIn, State.group_of_setRank, State.group_of_reach, hholder, hcal, if_true]
    rw [hsame, State.settle_of_settled _ hkeep]
    rfl
  · rw [State.requestIn_of_held (s := (s.reach due).setRank r k) hholder hheld, hkind, State.settle_frame]
    have hheldEntry := ((s.reach due).setRank r k).mergeHeld_short g r .periodic (by decide)
    obtain ⟨hgroup, hranks, hengines, hrecords⟩ := hheldEntry
    exact ⟨hgroup, hranks, hengines, hrecords⟩

end Sys2Proof.Machine
end

section
/-! SUPPORT and the proofs of O41, O42, O47, O48: what a selection takes (R153 to R159), the sample of a calibration (R157, R158) and a
poll (R51, R52). -/

namespace Sys2Proof.Machine

-- Proofs are elaborated one after the other, which bounds the memory a compile reserves.
set_option Elab.async false

/-! ### The first slot from a pointer -/

theorem mem_allSlots (r : Slot) : r ∈ allSlots := by
  revert r; decide

theorem find?_allSlots {p : Slot → Bool} {i : Slot} (hbefore : ∀ j < i, p j = false) (hp : p i = true) : allSlots.find? p = some i := by
  have hsorted : allSlots.Pairwise (· < ·) := by decide
  obtain ⟨before, after, hsplit⟩ := List.append_of_mem (mem_allSlots i)
  rw [hsplit, List.pairwise_append] at hsorted
  refine List.find?_eq_some_iff_append.mpr ⟨hp, before, after, hsplit, fun j hj => ?_⟩
  simp [hbefore j (hsorted.2.2 j hj i List.mem_cons_self)]

/-- The first slot from a pointer that satisfies `p` (R39, R52). -/
theorem find?_slotsFrom {p : Slot → Bool} {start i : Slot} (hbefore : ∀ j < i, p (start + j) = false) (hp : p (start + i) = true) :
    (slotsFrom start).find? p = some (start + i) := by
  rw [slotsFrom, List.find?_map, find?_allSlots (p := p ∘ (start + ·)) hbefore hp]
  rfl

theorem find?_slotsFrom_eq_none {p : Slot → Bool} {start : Slot} (h : ∀ r, p r = false) : (slotsFrom start).find? p = none :=
  List.find?_eq_none.mpr fun r _ => by simp [h r]

/-! ### The poll and the sample -/

/-- A poll leaves the conditions taken: it writes the monitor alone. -/
theorem State.Settled.setMonitor {s : State} (h : s.Settled) (m : Monitor) : (s.setMonitor m).Settled := h

/-- Settles O42: the expiry of the poll timer is the poll, from its time on. -/
theorem pollTimerExpiry : Obligations.PollTimerExpiry := by
  intro s scl sda due hreset hsettled htimer now m has
  have hexec : exec (.pollTimerExpiry scl sda) s = .next ((s.reach due).poll scl sda).settle :=
    exec_expiry (i := .pollTimerExpiry scl sda) (f := fun s => s.poll scl sda) hreset htimer rfl
  have hhas : ∀ r, ((s.rank r).state != .absent && (s.rank r).sensor.isSome) = true ↔ has r := fun r => by simp [has]
  have hnone : ∀ r, ¬has r → ((s.rank r).state != .absent && (s.rank r).sensor.isSome) = false := fun r hr => by
    rw [← hhas r] at hr
    exact (Bool.not_eq_true _).mp hr
  constructor
  · intro hquiet
    have hpoll : (s.reach due).poll scl sda = (s.reach due).setMonitor m := by
      unfold State.poll
      by_cases hidle : s.monitor.bus = .idle
      · have hchoice : (s.reach due).pollChoice = none :=
          find?_slotsFrom_eq_none fun r => hnone r (hquiet.resolve_left (not_not_intro hidle) r)
        rw [State.reach_monitor, if_pos hidle, hchoice]
        rfl
      · rw [State.reach_monitor, if_neg hidle]
        rfl
    rw [hexec, hpoll, State.settle_of_settled _ ((hsettled.reach due).setMonitor m)]
    rfl
  · intro hidle i hbefore hi
    have hchoice : (s.reach due).pollChoice = some (s.monitor.cursor + i) :=
      find?_slotsFrom (fun j hj => hnone _ (hbefore j hj)) ((hhas _).mpr hi)
    have hpoll : (s.reach due).poll scl sda = ((s.reach due).setMonitor m).startRead (s.monitor.cursor + i) scl sda := by
      unfold State.poll
      rw [State.reach_monitor, if_pos hidle, hchoice]
      rfl
    rw [hexec, hpoll, State.startRead_eq, State.settle_of_settled _ (((hsettled.reach due).setMonitor m).setMonitor _)]
    cases sda <;> rfl

/-- Settles O41: the sample is held, and the closing NAP_IN is driven where the window is open and the result does not fault the rank. -/
theorem calResultSample : Obligations.CalResultSample := by
  intro s c line f due g hreset hsettled hsample hflight hg drives
  have hexec : exec (.calResultSample c line) s = .next ((s.reach due).takeSample c line).settle :=
    exec_expiry (i := .calResultSample c line) (f := fun s => s.takeSample c line) hreset hsample rfl
  have hdrives : (s.reach due).drivesNapIn c f.rank line = true ↔ drives := by
    show s.drivesNapIn c f.rank line = true ↔ drives
    simp [State.drivesNapIn, hg, drives, or_assoc]
  have htake : (s.reach due).takeSample c line = (s.reach due).setEngine c { s.engine c with
      sampled := some line, sample := none
      flight := some { f with ops := if drives then f.ops ++ [MaintOp.napIn] else f.ops, napInHeld := false } } := by
    have hf : ((s.reach due).engine c).flight = some f := hflight
    unfold State.takeSample State.sampleResult
    rw [hf]
    simp only [hdrives]
    by_cases h : drives
    · simp only [if_pos h]; rfl
    · simp only [if_neg h]; rfl
  rw [hexec, htake, State.settle_of_settled _ ((hsettled.reach due).setEngine (by rfl))]
  rfl

/-! ### What a credit writes -/

/-- A balance written and the urgent flag with it, for a rank in service (R22, R23). -/
theorem State.writeBalance_rank {s : State} {r : Slot} (hserved : (s.rank r).state.served = true) (b : Int) (q : Slot) :
    (s.writeBalance r b).rank q = if q = r then
      { s.rank r with balance := b, urgent := decide (b ≤ -(s.policy.urgentAt : Int)) } else s.rank q := by
  have hclass : ∀ u : State, (u.setRefreshClass r).rank q = u.rank q := fun u => by rw [State.setRefreshClass_frame]; rfl
  unfold State.writeBalance State.reevaluate State.urgentFor
  simp only [State.rank_setRank_self, hserved, if_true, State.setRank_policy, hclass, State.setRank_setRank]
  split
  · rw [State.rank_of_notice, State.rank_setRank]
  · rw [State.rank_setRank]

theorem State.withdrawRefresh_rank (s : State) (r q : Slot) : (s.withdrawRefresh r).rank q = s.rank q := by
  unfold State.withdrawRefresh
  split <;> rfl

theorem State.creditAhead_rank {s : State} {r : Slot} (hserved : (s.rank r).state.served = true) (n : Nat) (q : Slot) :
    (s.creditAhead r n).rank q = if q = r then
      { s.rank r with
        balance := (s.rank r).balance + n, urgent := decide ((s.rank r).balance + n ≤ -(s.policy.urgentAt : Int)) } else s.rank q := by
  unfold State.creditAhead
  simp only
  split
  · rw [State.withdrawRefresh_rank, State.writeBalance_rank hserved]
  · rw [State.writeBalance_rank hserved]

/-- A paid debt leaves no task of the rank waiting (R34). -/
theorem State.withdrawRefresh_none {s : State} {r : Slot} {c : Chan} (hch : (s.rank r).channel = some c) :
    ∀ y ∈ ((s.withdrawRefresh r).queue c).tasks, y.rank = r → y.kind = .refresh → y.executing = true := by
  intro y hy hrank hkind
  simp only [State.withdrawRefresh, hch, State.removeTasks, State.queue_setQueue_self, List.mem_filter, hrank, hkind] at hy
  simpa using hy.2

/-! ### Plans -/

/-- The engine as a selection finds it keeps its budget, so plans are what they were (R154). -/
theorem State.planTask_active (s : State) (c : Chan) (t : Task) :
    (s.setEngine c { s.engine c with state := .active }).planTask c t = s.planTask c t := by
  have hbudget : ((s.setEngine c { s.engine c with state := .active }).engine c).budget = (s.engine c).budget := by
    rw [State.engine_setEngine_self]
  simp only [State.planTask, State.planRefresh, State.planRefreshNow, State.planCal, State.planFitting, State.planDeepEnter, hbudget]
  rfl

theorem State.findPlan_active (s : State) (c : Chan) :
    (s.setEngine c { s.engine c with state := .active }).findPlan c = s.findPlan c := by
  simp only [State.findPlan, State.planTask_active, State.queue_of_setEngine]

theorem State.fillChoice_active (s : State) (c : Chan) :
    (s.setEngine c { s.engine c with state := .active }).fillChoice c = s.fillChoice c := by
  have hqualifies : (s.setEngine c { s.engine c with state := .active }).fillQualifies c = s.fillQualifies c := by
    funext r
    simp only [State.fillQualifies, State.engine_setEngine_self]
    rfl
  simp only [State.fillChoice, hqualifies, State.engine_setEngine_self, State.setEngine_policy]

/-! ### Fill tasks -/

theorem State.fillQualifies_iff {s : State} {c : Chan} {r : Slot} : s.fillQualifies c r = true ↔
    (s.rank r).channel = some c ∧ ((s.rank r).state = .online ∨ (s.rank r).state = .faulted) ∧
      (s.rank r).balance < (s.policy.advanceLimit : Int) ∧ s.deepEnterQueued r = false ∧ s.timing.refreshBusy ≤ (s.engine c).budget := by
  simp [State.fillQualifies, and_assoc]

/-- A selection that finds no task starts the fill task there is (R155). -/
theorem State.runSelection_of_fill {s : State} {c : Chan} {r : Slot} (h : s.findPlan c = none) (hfill : s.fillChoice c = some r) :
    s.runSelection c = (s.setEngine c { s.engine c with state := .active }).startFill c r := by
  simp only [State.runSelection, State.select, State.findPlan_active, h, State.fillChoice_active, hfill]

/-- A selection that finds nothing reports done (R155). -/
theorem State.runSelection_of_done {s : State} {c : Chan} (h : s.findPlan c = none) (hfill : s.fillChoice c = none) :
    s.runSelection c = (s.setEngine c { s.engine c with state := .active }).reportDone c := by
  simp only [State.runSelection, State.select, State.findPlan_active, h, State.fillChoice_active, hfill]

/-- The refreshes of a fill task: at least one, up to the advance limit, and no more would fit (R39, R40). -/
theorem State.fillCount_spec {s : State} {c : Chan} {r : Slot} (hbusy : 1 ≤ s.timing.refreshBusy)
    (h : s.fillQualifies c r = true) : 1 ≤ s.fillCount c r ∧ (s.rank r).balance + s.fillCount c r ≤ s.policy.advanceLimit ∧
      ((s.rank r).balance + s.fillCount c r = s.policy.advanceLimit ∨
        (s.engine c).budget < (s.fillCount c r + 1) * s.timing.refreshBusy) := by
  obtain ⟨-, -, hroom, -, hbudget⟩ := State.fillQualifies_iff.mp h
  have hfitting : fitting (s.engine c).budget 0 s.timing.refreshBusy = (s.engine c).budget / s.timing.refreshBusy := by simp [fitting]
  have hone : 1 ≤ (s.engine c).budget / s.timing.refreshBusy := (Nat.one_le_div_iff hbusy).mpr hbudget
  have hnext : (s.engine c).budget < ((s.engine c).budget / s.timing.refreshBusy + 1) * s.timing.refreshBusy := by
    rw [Nat.mul_comm]
    exact Nat.lt_mul_div_succ _ hbusy
  unfold State.fillCount
  rw [hfitting]
  refine ⟨by omega, by omega, ?_⟩
  by_cases hle : ((s.policy.advanceLimit : Int) - (s.rank r).balance).toNat ≤ (s.engine c).budget / s.timing.refreshBusy
  · exact .inl (by rw [Nat.min_eq_left hle]; omega)
  · exact .inr (by rw [Nat.min_eq_right (Nat.le_of_not_le hle)]; exact hnext)

/-- Settles O48: with no task to start, a selection starts the fill task of the first rank that qualifies, or reports done. -/
theorem fillOrDone : Obligations.FillOrDone := by
  intro s c hnone hbusy limit budget fits v
  have hfits : ∀ r, s.fillQualifies c r = true ↔ fits r := fun r => State.fillQualifies_iff
  have hunfit : ∀ r, ¬fits r → s.fillQualifies c r = false := fun r hr => (Bool.not_eq_true _).mp (mt (hfits r).mp hr)
  constructor
  · intro henable i hbefore hi r
    have hqualifies := (hfits r).mpr hi
    have hchoice : s.fillChoice c = some r := by
      rw [State.fillChoice, if_pos henable]
      exact find?_slotsFrom (fun j hj => hunfit _ (hbefore j hj)) hqualifies
    have hserved : (s.rank r).state.served = true := by
      obtain h | h := hi.2.1 <;> rw [show (s.rank r).state = _ from h] <;> rfl
    obtain ⟨hpos, hlimit, hmost⟩ := State.fillCount_spec hbusy hqualifies
    have hcount : (s.setEngine c { s.engine c with state := .active }).fillCount c r = s.fillCount c r := by
      simp only [State.fillCount, State.engine_setEngine_self]
      rfl
    have hstart : v = (s.setEngine c ((s.engine c).begun s.now (s.fillFlight c r) none (r + 1))).creditAhead r (s.fillCount c r) := by
      show s.runSelection c = _
      rw [State.runSelection_of_fill hnone hchoice, State.startFill_eq, hcount, State.setEngine_setEngine, State.fillFlight, hcount, State.engine_setEngine_self]
      rfl
    have hquiet := State.creditAhead_quiet (free := False)
      (s.setEngine c ((s.engine c).begun s.now (s.fillFlight c r) none (r + 1))) r (s.fillCount c r) (Nat.min_le_left _ _)
    have hengine : v.engine c = (s.engine c).begun s.now (s.fillFlight c r) none (r + 1) := by
      rw [hstart, hquiet.engine_eq, State.engine_setEngine_self]
    have hbalance : (v.rank r).balance = (s.rank r).balance + s.fillCount c r := by
      have hserved' : ((s.setEngine c ((s.engine c).begun s.now (s.fillFlight c r) none (r + 1))).rank r).state.served = true := hserved
      rw [hstart, State.creditAhead_rank hserved', if_pos rfl]
      rfl
    have hfit := s.fillFlight_fits c r
    rw [hengine, hbalance]
    exact ⟨s.fillFlight c r, rfl, rfl, rfl, hpos, rfl, rfl, Nat.sub_add_cancel hfit, rfl, rfl, rfl, hlimit, hmost⟩
  · intro hquiet
    have hchoice : s.fillChoice c = none := by
      unfold State.fillChoice
      obtain h | h := hquiet
      · rw [if_neg (by simp [h])]
      · split
        · exact find?_slotsFrom_eq_none fun r => hunfit r (h r)
        · rfl
    show s.runSelection c = _
    rw [State.runSelection_of_done hnone hchoice]
    simp only [State.reportDone, State.enterReleasing, State.standby, State.nego_of_setEngine, State.engine_of_setNego,
      State.engine_setEngine_self]
    simp only [State.setEngine, State.setNego, PerChan.set_set]

/-! ### What a task takes -/

/-- The ranks a task can serve (R153). -/
def State.serves (s : State) (y : Task) : Prop :=
  if y.kind = .deepExit then (s.rank y.rank).state = .deep
  else if y.kind = .deepEnter then (s.rank y.rank).state = .online ∨ (s.rank y.rank).state = .nap
  else (s.rank y.rank).state = .online ∨ (s.rank y.rank).state = .nap ∨ (s.rank y.rank).state = .faulted

/-- The time of a task with `n` refreshes (R31, R37, R98, R102, R154). -/
def State.lengthOf (s : State) (y : Task) (n : Nat) : Nat :=
  match y.kind with
  | .refresh | .refreshNow => s.overhead y.rank + n * s.timing.refreshBusy
  | .calShort => s.overhead y.rank + s.timing.calShort
  | .calLong => s.overhead y.rank + s.timing.calLong
  | .napEnter => s.timing.napEntry
  | .napExit => s.timing.napExit
  | .deepEnter => (if s.napping y.rank then s.timing.napExit else 0) + n * s.timing.refreshBusy + s.timing.deepEntry
  | .deepExit => s.timing.deepExit

/-- The operations of a task with `n` refreshes (R98, R156). -/
def State.opsOf (s : State) (y : Task) (n : Nat) : List MaintOp :=
  match y.kind with
  | .refresh | .refreshNow => wrapNap (s.napping y.rank) (List.replicate n .refresh)
  | .calShort => if s.napping y.rank then [.napOut, .calShort] else [.calShort]
  | .calLong => if s.napping y.rank then [.napOut, .calLong] else [.calLong]
  | .napEnter => [.napIn]
  | .napExit => [.napOut]
  | .deepEnter => (if s.napping y.rank then [.napOut] else []) ++ (List.replicate n MaintOp.refresh ++ [.deepIn])
  | .deepExit => [.deepOut]

/-- The fewest refreshes a task of the kind is started with (R31, R37, R96). -/
def State.leastRefreshes (s : State) (y : Task) : Nat :=
  match y.kind with
  | .refresh => 1
  | .refreshNow => s.hostRefreshes y.rank (y.count.getD 0)
  | .calShort | .calLong | .napEnter | .napExit | .deepEnter | .deepExit => (s.rank y.rank).owed

/-- A task completed at its selection (R38, R110). -/
def State.losesPurpose (s : State) (y : Task) : Prop :=
  (y.kind = .refreshNow ∧ s.hostRefreshes y.rank (y.count.getD 0) = 0) ∨
    ((y.kind = .napEnter ∨ y.kind = .napExit) ∧ (s.rank y.rank).state = .faulted)

/-- What the plan of a task says (R153, R154, R156). -/
theorem State.planTask_of_some {s : State} {c : Chan} {x : Task} {p : Plan} (h : s.planTask c x = some p) :
    x.executing = false ∧ s.serves x ∧ (p.instant = true ↔ s.losesPurpose x) ∧ (p.instant = true → p.duration = 0) ∧
      (p.instant = false → p.duration = s.lengthOf x p.n ∧ p.ops = s.opsOf x p.n) := by
  have hexecuting : x.executing = false := by
    unfold State.planTask at h
    by_contra hx
    simp [hx] at h
  refine ⟨hexecuting, ?_⟩
  simp only [State.planTask, hexecuting, Bool.false_eq_true, if_false] at h
  unfold State.serves State.losesPurpose State.lengthOf State.opsOf
  cases hk : x.kind <;> simp only [hk] at h
  case refresh =>
    split_ifs at h with hserved
    obtain ⟨-, -, hduration, hops, hinstant⟩ := State.planRefresh_eq_some_iff.mp h
    simp [hduration, hops, hinstant, RankState.served_iff.mp hserved]
  case refreshNow =>
    split_ifs at h with hserved
    obtain ⟨hzero, rfl⟩ | ⟨hpos, -, rfl⟩ := State.planRefreshNow_eq_some_iff.mp h
    · simp [hzero, planLostPurpose, RankState.served_iff.mp hserved]
    · simp [hpos, RankState.served_iff.mp hserved]
  case calShort | calLong =>
    split_ifs at h with hserved
    obtain ⟨-, rfl⟩ := State.planFitting_eq_some_iff.mp h
    simp [RankState.served_iff.mp hserved]
  case napEnter | napExit =>
    split_ifs at h with hfaulted hserved
    · cases h
      simp [hfaulted, planLostPurpose]
    · obtain ⟨-, rfl⟩ := State.planFitting_eq_some_iff.mp h
      simpa [hfaulted] using RankState.served_iff.mp hserved
  case deepEnter =>
    split_ifs at h with hstate
    rw [State.planDeepEnter_eq] at h
    obtain ⟨-, rfl⟩ := State.planFitting_eq_some_iff.mp h
    simp [hstate, Nat.add_assoc]
  case deepExit =>
    split_ifs at h with hstate
    obtain ⟨-, rfl⟩ := State.planFitting_eq_some_iff.mp h
    simp [hstate]

/-- Why a selection passes over a task (R153, R154). -/
theorem State.planTask_of_none {s : State} {c : Chan} {y : Task} (h : s.planTask c y = none) (hbusy : 1 ≤ s.timing.refreshBusy)
    (hlimit : 1 ≤ s.policy.postponeLimit) :
    y.executing = true ∨ ¬s.serves y ∨ (s.engine c).budget < s.lengthOf y (s.leastRefreshes y) ∨
      (y.kind = .refresh ∧ (s.rank y.rank).owed = 0) := by
  have hfitting : ∀ {n d ops}, s.planFitting c n d ops = none → (s.engine c).budget < d := by
    intro n d ops hp
    unfold State.planFitting at hp
    split at hp
    · cases hp
    · omega
  refine or_iff_not_imp_left.mpr fun hexecuting => or_iff_not_imp_left.mpr fun hserves => ?_
  rw [not_not] at hserves
  rw [Bool.not_eq_true] at hexecuting
  simp only [State.planTask, hexecuting, Bool.false_eq_true, if_false] at h
  unfold State.serves at hserves
  unfold State.lengthOf State.leastRefreshes
  cases hk : y.kind <;> simp only [hk] at h hserves ⊢
  case refresh =>
    rw [if_pos (RankState.served_iff.mpr hserves)] at h
    refine or_iff_not_imp_right.mpr fun howed => ?_
    have hnone : fitting (s.engine c).budget (s.overhead y.rank) s.timing.refreshBusy = 0 := by
      unfold State.planRefresh at h
      simp only at h
      split at h
      · cases h
      · simp only [true_and] at howed
        omega
    unfold fitting at hnone
    split at hnone
    · rw [Nat.div_eq_zero_iff] at hnone
      omega
    · omega
  case refreshNow =>
    rw [if_pos (RankState.served_iff.mpr hserves)] at h
    unfold State.planRefreshNow at h
    simp only at h
    split_ifs at h
    omega
  case calShort | calLong =>
    rw [if_pos (RankState.served_iff.mpr hserves)] at h
    exact .inl (hfitting h)
  case napEnter | napExit =>
    split_ifs at h with hfaulted hserved
    · exact .inl (hfitting h)
    · exact absurd (RankState.served_iff.mpr hserves) hserved
  case deepEnter =>
    rw [if_pos (by simpa using hserves), State.planDeepEnter_eq] at h
    have := hfitting h
    exact .inl (by omega)
  case deepExit =>
    rw [if_pos (by simpa using hserves)] at h
    exact .inl (hfitting h)

/-! ### Fuel -/

/-- A task of the queue removed leaves fewer. -/
theorem length_filter_ne_lt {l : List Task} {x : Task} (h : x ∈ l) : (l.filter (fun y => !decide (y = x))).length < l.length := by
  rw [← List.countP_eq_length_filter]
  exact List.countP_lt_length_iff.mpr ⟨x, h, by simp⟩

/-- The completion of a task of zero duration (R38, R110). -/
theorem State.finishInstant_eq (s : State) (c : Chan) (t : Task) : s.finishInstant c t =
    (s.removeTasks c (fun u => decide (u = t))).completeTag t.tag (if t.kind = .refreshNow then .done else .rankState)
      (if t.kind = .refreshNow then .count 0 else .rankState (s.rank t.rank).state) := by
  unfold State.finishInstant
  simp only
  cases t.kind <;> rfl

theorem State.finishInstant_queue (s : State) (c : Chan) (t : Task) :
    ((s.finishInstant c t).queue c).tasks = (s.queue c).tasks.filter (fun y => !decide (y = t)) := by
  have hqueue : ∀ (u : State) tag st d, (u.completeTag tag st d).queue c = u.queue c := fun u tag st d => by
    rw [State.completeTag_frame]
    rfl
  rw [State.finishInstant_eq, hqueue, State.removeTasks, State.queue_setQueue_self]

/-- More fuel than tasks changes nothing. -/
theorem State.select_of_fuel (c : Chan) : ∀ (n m : Nat) (s : State), (s.queue c).tasks.length < n → (s.queue c).tasks.length < m →
    State.select c n s = State.select c m s
  | 0, _, _, h, _ => absurd h (Nat.not_lt_zero _)
  | _, 0, _, _, h => absurd h (Nat.not_lt_zero _)
  | n + 1, m + 1, s, hn, hm => by
    unfold State.select
    split
    · next t p hplan =>
      have hless := length_filter_ne_lt (State.findPlan_some hplan).1
      rw [← State.finishInstant_queue] at hless
      rw [State.select_of_fuel c n m (s.finishInstant c t) (by omega) (by omega)]
    · rfl

theorem State.completeTag_setEngine (s : State) (c : Chan) (e : Engine) (tag : Option Tag) (st : Status) (d : Detail) :
    (s.setEngine c e).completeTag tag st d = (s.completeTag tag st d).setEngine c e := by
  cases tag with
  | none => rfl
  | some tag =>
    show (s.setEngine c e).complete tag st d = (s.complete tag st d).setEngine c e
    unfold State.complete
    rw [show (s.setEngine c e).outEntry tag = s.outEntry tag from rfl]
    split <;> rfl

/-- A task of zero duration is completed, and the selection goes on (R155). -/
theorem State.runSelection_of_instant {s : State} {c : Chan} {x : Task} {p : Plan} (h : s.findPlan c = some (x, p)) (hinstant : p.instant = true) :
    s.runSelection c = (s.finishInstant c x).runSelection c := by
  have hless := length_filter_ne_lt (State.findPlan_some h).1
  rw [← State.finishInstant_queue] at hless
  have hcommutes : (s.setEngine c { s.engine c with state := .active }).finishInstant c x =
      (s.finishInstant c x).setEngine c { (s.finishInstant c x).engine c with state := .active } := by
    rw [(s.finishInstant_quiet (free := False) c x).engine_eq, State.finishInstant_eq, State.finishInstant_eq]
    exact State.completeTag_setEngine (s.removeTasks c fun u => decide (u = x)) c _ _ _ _
  rw [State.runSelection, State.select, State.findPlan_active, h]
  simp only [hinstant, if_true, hcommutes]
  exact State.select_of_fuel c _ _ _ hless (Nat.lt_succ_self _)

/-- A task that takes time is started (R153). -/
theorem State.runSelection_of_start {s : State} {c : Chan} {x : Task} {p : Plan} (h : s.findPlan c = some (x, p)) (hinstant : p.instant = false) :
    s.runSelection c = (s.setEngine c { s.engine c with state := .active }).startTask c x p := by
  simp only [State.runSelection, State.select, State.findPlan_active, h, hinstant, Bool.false_eq_true, if_false]

/-! ### What a start writes -/

/-- A channel's executing tasks stay, with their ranks, kinds and tags. -/
def State.KeepsRunning (c : Chan) (s t : State) : Prop :=
  ∀ x ∈ (s.queue c).tasks, x.executing = true →
    ∃ y ∈ (t.queue c).tasks, y.rank = x.rank ∧ y.kind = x.kind ∧ y.tag = x.tag ∧ y.executing = true

theorem State.KeepsRunning.refl (c : Chan) (s : State) : State.KeepsRunning c s s := fun x hx hrun => ⟨x, hx, rfl, rfl, rfl, hrun⟩

theorem State.KeepsRunning.trans {c : Chan} {s t u : State} (h : State.KeepsRunning c s t) (h' : State.KeepsRunning c t u) :
    State.KeepsRunning c s u := by
  intro x hx hrun
  obtain ⟨y, hy, hrank, hkind, htag, hyrun⟩ := h x hx hrun
  obtain ⟨z, hz, hzrank, hzkind, hztag, hzrun⟩ := h' y hy hyrun
  exact ⟨z, hz, hzrank.trans hrank, hzkind.trans hkind, hztag.trans htag, hzrun⟩

theorem State.KeepsRunning.of_queue {c : Chan} {s t : State} (h : (t.queue c).tasks = (s.queue c).tasks) : State.KeepsRunning c s t :=
  fun x hx hrun => ⟨x, h ▸ hx, rfl, rfl, rfl, hrun⟩

theorem State.setRefreshClass_keepsRunning (c : Chan) (s : State) (r : Slot) : State.KeepsRunning c s (s.setRefreshClass r) := by
  unfold State.setRefreshClass
  split
  · exact .refl c s
  · next d _ =>
    intro x hx hrun
    rw [State.mapTasks, State.queue_setQueue]
    split
    · next hd =>
      subst hd
      refine ⟨_, List.mem_map_of_mem hx, ?_⟩
      split <;> exact ⟨rfl, rfl, rfl, hrun⟩
    · exact ⟨x, hx, rfl, rfl, rfl, hrun⟩

theorem State.writeBalance_keepsRunning (c : Chan) (s : State) (r : Slot) (b : Int) : State.KeepsRunning c s (s.writeBalance r b) := by
  unfold State.writeBalance State.reevaluate
  simp only
  split
  · refine .trans (.of_queue ?_) (State.setRefreshClass_keepsRunning c _ r)
    split
    · rw [State.queue_of_notice]; rfl
    · rfl
  · exact .of_queue rfl

theorem State.withdrawRefresh_keepsRunning (c : Chan) (s : State) (r : Slot) : State.KeepsRunning c s (s.withdrawRefresh r) := by
  unfold State.withdrawRefresh
  split
  · exact .refl c s
  · next d _ =>
    intro x hx hrun
    rw [State.removeTasks, State.queue_setQueue]
    refine ⟨x, ?_, rfl, rfl, rfl, hrun⟩
    split
    · next hd =>
      subst hd
      exact List.mem_filter.mpr ⟨hx, by simp [hrun]⟩
    · exact hx

theorem State.ownersStart_keepsRunning (c : Chan) (s : State) (r : Slot) (kind : TaskKind) (n : Nat) :
    State.KeepsRunning c s (s.ownersStart r kind n) := by
  have hcal : State.KeepsRunning c s (s.startCalibrating r) := by
    unfold State.startCalibrating
    split
    · exact .refl c s
    · exact .of_queue rfl
  have hahead : State.KeepsRunning c s (s.creditAhead r n) := by
    unfold State.creditAhead
    simp only
    split
    · exact (State.writeBalance_keepsRunning c s r _).trans (State.withdrawRefresh_keepsRunning c _ r)
    · exact State.writeBalance_keepsRunning c s r _
  have hclosed : State.KeepsRunning c s (s.closeAccount r) :=
    State.withdrawRefresh_keepsRunning c (s.setRank r { s.rank r with balance := 0, urgent := false, interval := none }) r
  cases kind with
  | refresh => exact State.writeBalance_keepsRunning c s r _
  | refreshNow => exact hahead
  | calShort | calLong => exact hcal
  | deepEnter => exact hclosed.trans (.of_queue rfl)
  | napEnter | napExit | deepExit => exact .refl c s

/-- A start up to its owners' part: the task marked, and the engine's part (R159 step 1). -/
def State.marked (s : State) (c : Chan) (x : Task) (p : Plan) : State :=
  (s.mapTasks c (fun u => if u = x then { u with executing := true } else u)).setEngine c
    ((s.engine c).begun s.now
      { rank := x.rank, kind := .task x.kind, n := p.n, duration := p.duration, ops := p.ops
        napInHeld := (s.sampleTime x.rank x.kind).isSome } (s.sampleTime x.rank x.kind) (s.engine c).pointer)

theorem State.startTask_eq (s : State) (c : Chan) (x : Task) (p : Plan) :
    s.startTask c x p = (s.marked c x p).ownersStart x.rank x.kind p.n := rfl

theorem State.marked_active (s : State) (c : Chan) (x : Task) (p : Plan) :
    (s.setEngine c { s.engine c with state := .active }).marked c x p = s.marked c x p := by
  simp only [State.marked, State.mapTasks, State.engine_setEngine_self, State.queue_of_setEngine]
  simp only [State.setEngine, State.setQueue, PerChan.set_set]
  rfl

theorem State.mem_marked {s : State} {c : Chan} {x : Task} {p : Plan} (h : x ∈ (s.queue c).tasks) :
    { x with executing := true } ∈ ((s.marked c x p).queue c).tasks := by
  show _ ∈ ((s.mapTasks c (fun u => if u = x then { u with executing := true } else u)).queue c).tasks
  rw [State.mapTasks, State.queue_setQueue_self]
  exact List.mem_map.mpr ⟨x, h, if_pos rfl⟩

/-- The sample of a calibration on a napping rank comes before its closing NAP_IN (R157). -/
theorem State.sampleTime_eq (s : State) (x : Task) (n : Nat) : s.sampleTime x.rank x.kind =
    if (x.kind = .calShort ∨ x.kind = .calLong) ∧ (s.rank x.rank).state = .nap then some (s.now + s.lengthOf x n - s.timing.napEntry)
    else none := by
  unfold State.sampleTime State.lengthOf State.overhead State.napping
  by_cases hnap : (s.rank x.rank).state = .nap
  · cases x.kind <;> simp [hnap] <;> omega
  · simp [hnap]

/-- The records a start leaves (R32, R34, R37, R41, R84). -/
theorem State.ownersStart_others (s : State) (r q : Slot) (hq : q ≠ r) (kind : TaskKind) (n : Nat)
    (hserved : kind = .refresh ∨ kind = .refreshNow → (s.rank r).state.served = true) : (s.ownersStart r kind n).rank q = s.rank q := by
  have hcal : (s.startCalibrating r).rank q = s.rank q := by
    unfold State.startCalibrating
    split <;> rfl
  cases kind with
  | refresh => exact (State.writeBalance_rank (hserved (.inl rfl)) _ q).trans (if_neg hq)
  | refreshNow => exact (State.creditAhead_rank (hserved (.inr rfl)) _ q).trans (if_neg hq)
  | calShort | calLong => exact hcal
  | deepEnter =>
    show ((s.closeAccount r).setRank r _).rank q = _
    rw [State.rank_setRank_ne _ _ hq, State.closeAccount, State.withdrawRefresh_rank, State.rank_setRank_ne _ _ hq]
  | napEnter | napExit | deepExit => rfl

/-- The engine a start leaves: the task in flight, the budget charged, the sample before the closing NAP_IN (R157, R159). -/
theorem State.startTask_engine {s : State} {c : Chan} {x : Task} {p : Plan} (h : s.planTask c x = some p) (hinstant : p.instant = false) :
    (s.startTask c x p).engine c = { s.engine c with
      state := .busy, budget := (s.engine c).budget - p.duration, completion := some (s.now + p.duration)
      flight := some
        { rank := x.rank, kind := .task x.kind, n := p.n, duration := p.duration, ops := s.opsOf x p.n
          napInHeld := decide ((x.kind = .calShort ∨ x.kind = .calLong) ∧ (s.rank x.rank).state = .nap) }
      sample := if (x.kind = .calShort ∨ x.kind = .calLong) ∧ (s.rank x.rank).state = .nap then some (s.now + p.duration - s.timing.napEntry)
        else none } := by
  obtain ⟨-, -, -, -, hlong⟩ := State.planTask_of_some h
  obtain ⟨hduration, hops⟩ := hlong hinstant
  have hfits := State.planTask_creditFits h
  have hquiet := State.ownersStart_quiet (free := False) (s.marked c x p) x.rank x.kind p.n hfits
  rw [State.startTask_eq, hquiet.engine_eq, State.marked, State.engine_setEngine_self, State.sampleTime_eq s x p.n, ← hduration, ← hops]
  generalize s.engine c = e
  unfold Engine.begun
  by_cases hnap : (x.kind = .calShort ∨ x.kind = .calLong) ∧ (s.rank x.rank).state = .nap
  · rw [if_pos hnap, decide_eq_true hnap, Option.isSome_some]
  · rw [if_neg hnap, decide_eq_false hnap, Option.isSome_none]

theorem State.overhead_eq (s : State) (r : Slot) :
    s.overhead r = if (s.rank r).state = .nap then s.timing.napExit + s.timing.napEntry else 0 := by
  simp [State.overhead, State.napping]

theorem State.napping_iff {s : State} {r : Slot} : s.napping r = true ↔ (s.rank r).state = .nap := by simp [State.napping]

/-- An internal refresh task pays as much of the debt as the policy and the budget allow (R31). -/
theorem State.planTask_refresh {s : State} {c : Chan} {x : Task} {p : Plan} (h : s.planTask c x = some p) (hk : x.kind = .refresh) :
    1 ≤ p.n ∧ p.n ≤ s.policy.postponeLimit ∧ p.n ≤ (s.rank x.rank).owed ∧ (p.n = s.policy.postponeLimit ∨ p.n = (s.rank x.rank).owed ∨
      (s.engine c).budget < s.overhead x.rank + (p.n + 1) * s.timing.refreshBusy) := by
  simp only [State.planTask, hk] at h
  split_ifs at h
  obtain ⟨hpos, hn, -⟩ := State.planRefresh_eq_some_iff.mp h
  refine ⟨hpos, by omega, by omega, ?_⟩
  by_cases hfit : fitting (s.engine c).budget (s.overhead x.rank) s.timing.refreshBusy = p.n
  · refine .inr (.inr ?_)
    unfold fitting at hfit
    split at hfit
    · have hbusy : 0 < s.timing.refreshBusy := by
        by_contra hzero
        rw [Nat.eq_zero_of_not_pos hzero, Nat.div_zero] at hfit
        omega
      have := Nat.lt_mul_div_succ ((s.engine c).budget - s.overhead x.rank) hbusy
      rw [hfit, Nat.mul_comm] at this
      omega
    · omega
  · omega

theorem State.planTask_refreshNow {s : State} {c : Chan} {x : Task} {p : Plan} (h : s.planTask c x = some p) (hk : x.kind = .refreshNow) :
    p.n = s.hostRefreshes x.rank (x.count.getD 0) := by
  simp only [State.planTask, hk] at h
  split_ifs at h
  obtain ⟨hzero, rfl⟩ | ⟨-, -, rfl⟩ := State.planRefreshNow_eq_some_iff.mp h
  · exact hzero.symm
  · rfl

theorem State.planTask_deepEnter {s : State} {c : Chan} {x : Task} {p : Plan} (h : s.planTask c x = some p) (hk : x.kind = .deepEnter) :
    p.n = (s.rank x.rank).owed := by
  simp only [State.planTask, hk] at h
  split_ifs at h
  rw [State.planDeepEnter_eq] at h
  obtain ⟨-, rfl⟩ := State.planFitting_eq_some_iff.mp h
  rfl

/-- A credit that pays a debt leaves no task of the rank waiting (R34, R37). -/
theorem State.creditAhead_none {s : State} {r : Slot} {c : Chan} {n : Nat} (hserved : (s.rank r).state.served = true)
    (hch : (s.rank r).channel = some c) (hpaid : 0 ≤ (s.rank r).balance + n) :
    ∀ y ∈ ((s.creditAhead r n).queue c).tasks, y.rank = r → y.kind = .refresh → y.executing = true := by
  have hrank := State.writeBalance_rank hserved ((s.rank r).balance + n) r
  rw [if_pos rfl] at hrank
  unfold State.creditAhead
  simp only
  rw [if_pos (by rw [hrank]; exact hpaid)]
  exact State.withdrawRefresh_none (by rw [hrank]; exact hch)

theorem State.closed_rank (s : State) (r : Slot) : (s.ownersStart r .deepEnter 0).rank r =
    { s.rank r with balance := 0, urgent := false, interval := none, periodic := none } := by
  show ((s.closeAccount r).setRank r _).rank r = _
  rw [State.rank_setRank_self, State.closeAccount, State.withdrawRefresh_rank, State.rank_setRank_self]

/-- A DEEP_ENTER absorbs the waiting refresh task (R41). -/
theorem State.closed_none {s : State} {r : Slot} {c : Chan} (hch : (s.rank r).channel = some c) :
    ∀ y ∈ ((s.ownersStart r .deepEnter 0).queue c).tasks, y.rank = r → y.kind = .refresh → y.executing = true := by
  have hch' : ((s.setRank r { s.rank r with balance := 0, urgent := false, interval := none }).rank r).channel = some c := by
    rw [State.rank_setRank_self]; exact hch
  exact State.withdrawRefresh_none hch'

/-- Where the task in flight is taken from: the first in queue order with a plan (R153). -/
theorem State.findPlan_split {s : State} {c : Chan} {x : Task} {p : Plan} (h : s.findPlan c = some (x, p)) :
    ∃ before after, queueOrder (s.queue c).tasks = before ++ x :: after ∧ ∀ y ∈ before, s.planTask c y = none := by
  obtain ⟨before, y, after, hsplit, hy, hbefore⟩ := List.findSome?_eq_some_iff.mp h
  simp only [Option.map_eq_some_iff, Prod.mk.injEq] at hy
  obtain ⟨q, -, rfl, -⟩ := hy
  exact ⟨before, after, hsplit, fun z hz => by simpa using hbefore z hz⟩

/-- Settles O47: the first task with a plan is started as its plan says, or completed at once where it takes no time. -/
theorem selectionStartsFirst : Obligations.SelectionStartsFirst := by
  intro s c x p hfind k nap overhead serves owed asked length least cal woken lowered ops v
  obtain ⟨-, hplan⟩ := State.findPlan_some hfind
  obtain ⟨hmem, -⟩ := State.findPlan_some hfind
  obtain ⟨before, after, hsplit, hbefore⟩ := State.findPlan_split hfind
  obtain ⟨hexecuting, hserves, hpurpose, hshort, hlong⟩ := State.planTask_of_some hplan
  have hoverhead : ∀ y : Task, s.overhead y.rank = overhead y := fun y => s.overhead_eq y.rank
  have hnap : ∀ (y : Task) (n : Nat), (if s.napping y.rank = true then n else 0) = nap y n := fun y n => by
    simp only [State.napping_iff, nap]
  have hlength : ∀ (y : Task) (n : Nat), s.lengthOf y n = length y n := fun y n => by
    cases hk : y.kind <;> simp only [State.lengthOf, length, hk, hoverhead, hnap]
  have hleast : ∀ y : Task, s.lengthOf y (s.leastRefreshes y) = least y := fun y => by
    rw [hlength]
    cases hk : y.kind <;> simp only [State.leastRefreshes, least, hk] <;> rfl
  have hops : s.opsOf x p.n = ops := by
    simp only [State.opsOf, ops, wrapNap, State.napping_iff, woken, lowered, k]
    by_cases h : (s.rank x.rank).state = .nap
    · cases x.kind <;> simp [h]
    · cases x.kind <;> simp [h]
  refine ⟨⟨before, after, hsplit, fun y hy => ⟨hbefore y hy, fun hlaw => ?_⟩⟩, hplan, hexecuting, hserves, State.planTask_fits hplan, hpurpose,
    fun hinstant => ⟨hshort hinstant, ?_⟩, fun hinstant => ?_⟩
  · obtain ⟨⟨-, ⟨hbusy, -⟩, -⟩, ⟨⟨hlimit, -⟩, -⟩, -⟩ := hlaw
    have hpassed := State.planTask_of_none (hbefore y hy) (by omega) hlimit
    rwa [hleast] at hpassed
  · show s.runSelection c = _
    have hgone : (s.removeTasks c fun u => decide (u = x)) =
        s.setQueue c { s.queue c with tasks := (s.queue c).tasks.filter (fun y => y ≠ x) } := by
      simp only [State.removeTasks, ne_eq, decide_not]
    have hdetail : (if x.kind = .refreshNow then Detail.count 0 else .rankState (s.rank x.rank).state) =
        if x.kind = .refreshNow then .count 0 else .rankState .faulted := by
      obtain ⟨hk, -⟩ | ⟨-, hfaulted⟩ := hpurpose.mp hinstant
      · rw [if_pos hk, if_pos hk]
      · rw [hfaulted]
    rw [State.runSelection_of_instant hfind hinstant, State.finishInstant_eq, hgone, hdetail]
  · have hv : v = (s.marked c x p).ownersStart x.rank x.kind p.n := by
      show s.runSelection c = _
      rw [State.runSelection_of_start hfind hinstant, State.startTask_eq, State.marked_active]
    have hserved : x.kind = .refresh ∨ x.kind = .refreshNow → (s.rank x.rank).state.served = true := by
      intro hk
      rw [State.serves, if_neg (by obtain h | h := hk <;> simp [h]), if_neg (by obtain h | h := hk <;> simp [h])] at hserves
      exact RankState.served_iff.mpr hserves
    have hfits := State.planTask_creditFits hplan
    have hquiet := State.ownersStart_quiet (free := False) (s.marked c x p) x.rank x.kind p.n hfits
    have hrank : ∀ q, (s.marked c x p).rank q = s.rank q := fun _ => rfl
    refine ⟨(hlong hinstant).1.trans (hlength x p.n), by rw [hv, hquiet.negotiators_eq]; rfl, fun r hr => ?_, ?_, ?_, fun hk => ?_, fun hk => ?_,
      fun hk => ?_, fun hk => ?_, fun hk => ?_⟩
    · rw [hv, State.ownersStart_others (s.marked c x p) x.rank r hr x.kind p.n hserved]
      rfl
    · rw [hv, ← State.startTask_eq, State.startTask_engine hplan hinstant, hops]
    · obtain ⟨y, hy, hyrank, hykind, hytag, hyrun⟩ :=
        State.ownersStart_keepsRunning c (s.marked c x p) x.rank x.kind p.n _ (State.mem_marked hmem) rfl
      exact ⟨y, hv ▸ hy, hyrank, hykind, hytag, hyrun⟩
    · obtain ⟨hpos, hlimit, howed, hmost⟩ := State.planTask_refresh hplan hk
      have hdebt : (p.n : Int) ≤ -k.balance := by
        have : p.n ≤ (-k.balance).toNat := howed
        omega
      refine ⟨?_, hpos, hlimit, hdebt, ?_⟩
      · rw [hv, hk]
        exact (State.writeBalance_rank (s := s.marked c x p) (hserved (.inl hk)) _ x.rank).trans (if_pos rfl)
      · rw [← hoverhead]
        refine hmost.imp_right (Or.imp_left fun h => ?_)
        have : p.n = (-k.balance).toNat := h
        omega
    · refine ⟨State.planTask_refreshNow hplan hk, ?_, fun hch hpaid => ?_⟩
      · rw [hv, hk]
        exact (State.creditAhead_rank (s := s.marked c x p) (hserved (.inr hk)) p.n x.rank).trans (if_pos rfl)
      · rw [hv, hk]
        exact State.creditAhead_none (s := s.marked c x p) (hserved (.inr hk)) hch hpaid
    · have hstart : v = (s.marked c x p).startCalibrating x.rank := by
        rw [hv]
        obtain h | h := hk <;> rw [h] <;> rfl
      rw [hstart]
      unfold State.startCalibrating
      rw [hrank]
      refine ⟨by split <;> rfl, fun g hg => ?_⟩
      rw [Option.mem_def.mp hg]
      exact State.group_setGroup_self _ g _
    · refine ⟨State.planTask_deepEnter hplan hk, ?_, fun hch => ?_⟩
      · rw [hv, hk]
        exact (s.marked c x p).closed_rank x.rank
      · rw [hv, hk]
        exact State.closed_none (s := s.marked c x p) hch
    · have hstart : v = s.marked c x p := by
        rw [hv]
        obtain h | h | h := hk <;> rw [h] <;> rfl
      rw [hstart]
      rfl
end Sys2Proof.Machine
end

section
/-! SUPPORT and the proofs of O12, O14, O15: a band handed on to the planner and the power logic (R26, R27, R65, R107), and the settings and
policies replaced (R43, R44, R67). -/

namespace Sys2Proof.Machine

-- Proofs are elaborated one after the other, which bounds the memory a compile reserves.
set_option Elab.async false

/-! ### Tasks that stay in their queues -/

/-- Every queue's tasks that satisfy `p` as before, in their order. -/
def State.KeepsTasks (p : Task → Bool) (s t : State) : Prop := ∀ c : Chan, (t.queue c).tasks.filter p = (s.queue c).tasks.filter p

theorem filter_map_of_fixed {p : Task → Bool} {f : Task → Task} {l : List Task} (hp : ∀ x ∈ l, p (f x) = p x)
    (hfixed : ∀ x ∈ l, p x = true → f x = x) : (l.map f).filter p = l.filter p := by
  induction l with
  | nil => rfl
  | cons x l ih =>
    have ih := ih (fun y hy => hp y (List.mem_cons_of_mem _ hy)) fun y hy => hfixed y (List.mem_cons_of_mem _ hy)
    rw [List.map_cons, List.filter_cons, List.filter_cons, hp x List.mem_cons_self, ih]
    split
    · next h => rw [hfixed x List.mem_cons_self h]
    · rfl

namespace State.KeepsTasks

variable {p : Task → Bool} {s t u : State}

theorem refl (s : State) : s.KeepsTasks p s := fun _ => rfl

theorem trans (h : s.KeepsTasks p t) (h' : t.KeepsTasks p u) : s.KeepsTasks p u := fun c => (h' c).trans (h c)

theorem after (h' : t.KeepsTasks p u) (h : s.KeepsTasks p t) : s.KeepsTasks p u := h.trans h'

theorem of_queues (h : t.queues = s.queues) : s.KeepsTasks p t := fun c => by rw [State.queue, h]; rfl

theorem setQueue (s : State) {c : Chan} {q : Queue} (h : q.tasks.filter p = (s.queue c).tasks.filter p) : s.KeepsTasks p (s.setQueue c q) := by
  intro d
  rw [State.queue_setQueue]
  split
  · next hd => rw [hd]; exact h
  · rfl

theorem insertTask (s : State) (c : Chan) {t : Task} (h : ∀ n, p { t with seq := n } = false) : s.KeepsTasks p (s.insertTask c t) :=
  setQueue s (by simp [List.filter_append, h])

theorem removeTasks (s : State) (c : Chan) {gone : Task → Bool} (h : ∀ x ∈ (s.queue c).tasks, p x = true → gone x = false) :
    s.KeepsTasks p (s.removeTasks c gone) :=
  setQueue s (by
    rw [List.filter_filter]
    refine List.filter_congr fun x hx => ?_
    by_cases hpx : p x = true
    · simp [hpx, h x hx hpx]
    · simp [hpx])

theorem mapTasks (s : State) (c : Chan) {f : Task → Task} (hp : ∀ x, p (f x) = p x) (hfixed : ∀ x, p x = true → f x = x) :
    s.KeepsTasks p (s.mapTasks c f) :=
  setQueue s (filter_map_of_fixed (fun x _ => hp x) fun x _ => hfixed x)

theorem notice (s : State) (b : Notice) : s.KeepsTasks p (s.notice b) := of_queues (by rw [State.notice_frame])

theorem complete (s : State) (tag : Tag) (st : Status) (d : Detail) : s.KeepsTasks p (s.complete tag st d) :=
  of_queues (by rw [State.complete_frame])

theorem completeTag (s : State) (tag : Option Tag) (st : Status) (d : Detail) : s.KeepsTasks p (s.completeTag tag st d) :=
  of_queues (by rw [State.completeTag_frame])

/-- A task that satisfies `p` is in the one queue where it is in the other. -/
theorem mem_iff (h : s.KeepsTasks p t) {c : Chan} {x : Task} (hp : p x = true) : x ∈ (t.queue c).tasks ↔ x ∈ (s.queue c).tasks := by
  have hmem : ∀ u : State, x ∈ (u.queue c).tasks ↔ x ∈ (u.queue c).tasks.filter p := fun u => by simp [List.mem_filter, hp]
  rw [hmem, hmem, h c]

/-- What holds of fewer tasks holds of those kept. -/
theorem mono {q : Task → Bool} (h : s.KeepsTasks p t) (hq : ∀ x, q x = true → p x = true) : s.KeepsTasks q t := by
  intro c
  have hboth : ∀ l : List Task, (l.filter p).filter q = l.filter q := fun l => by
    rw [List.filter_filter]
    refine List.filter_congr fun x _ => ?_
    by_cases hx : q x = true
    · simp [hx, hq x hx]
    · simp [hx]
  rw [← hboth, h c, hboth]

/-- A lookup in a place whose tasks are kept (R117). -/
theorem taskAt_eq (h : s.KeepsTasks p t) {r : Slot} {place : TaskSlot} (hchannel : (t.rank r).channel = (s.rank r).channel)
    (hp : ∀ x : Task, x.rank = r → x.kind.place = place → p x = true) : t.taskAt r place = s.taskAt r place := by
  have hfind : ∀ l : List Task, l.find? (fun x => x.rank == r && x.kind.place == place) =
      (l.filter p).find? (fun x => x.rank == r && x.kind.place == place) := by
    intro l
    rw [List.find?_filter]
    congr 1
    funext x
    cases hx : x.rank == r && x.kind.place == place with
    | false => simp
    | true =>
      obtain ⟨hrank, hplace⟩ : x.rank = r ∧ x.kind.place = place := by simpa using hx
      simp [hp x hrank hplace]
  unfold State.taskAt
  rw [hchannel]
  cases (s.rank r).channel with
  | none => rfl
  | some c =>
    simp only
    rw [hfind (t.queue c).tasks, h c, ← hfind]

end State.KeepsTasks

/-! ### Grants add calibrations -/

/-- Every queue extended at its end by granted calibrations alone. -/
def State.GrantsOnly (s t : State) : Prop :=
  ∀ c : Chan, ExtendedBy (s.queue c).tasks (t.queue c).tasks (fun x => x.kind = .calShort ∨ x.kind = .calLong)

theorem ExtendedBy.refl {α : Type} (l : List α) (P : α → Prop) : ExtendedBy l l P := ⟨[], (List.append_nil l).symm, fun _ h => nomatch h⟩

theorem ExtendedBy.trans {α : Type} {k l m : List α} {P : α → Prop} (h : ExtendedBy k l P) (h' : ExtendedBy l m P) : ExtendedBy k m P := by
  obtain ⟨a, rfl, ha⟩ := h
  obtain ⟨b, rfl, hb⟩ := h'
  exact ⟨a ++ b, List.append_assoc _ _ _, fun x hx => (List.mem_append.mp hx).elim (ha x) (hb x)⟩

theorem ExtendedBy.mem {α : Type} {l m : List α} {P : α → Prop} (h : ExtendedBy l m P) {x : α} (hx : x ∈ m) : x ∈ l ∨ P x := by
  obtain ⟨a, rfl, ha⟩ := h
  exact (List.mem_append.mp hx).imp_right (ha x)

theorem ExtendedBy.subset {α : Type} {l m : List α} {P : α → Prop} (h : ExtendedBy l m P) {x : α} (hx : x ∈ l) : x ∈ m := by
  obtain ⟨a, rfl, -⟩ := h
  exact List.mem_append_left a hx

theorem State.GrantsOnly.refl (s : State) : s.GrantsOnly s := fun _ => .refl _ _

theorem State.GrantsOnly.trans {s t u : State} (h : s.GrantsOnly t) (h' : t.GrantsOnly u) : s.GrantsOnly u := fun c => (h c).trans (h' c)

theorem State.GrantsOnly.of_queues {s t : State} (h : t.queues = s.queues) : s.GrantsOnly t := fun c => by
  have hqueue : t.queue c = s.queue c := by rw [State.queue, h]; rfl
  rw [hqueue]
  exact .refl _ _

theorem State.GrantsOnly.keeps {s t : State} (h : s.GrantsOnly t) {p : Task → Bool}
    (hp : ∀ x : Task, x.kind = .calShort ∨ x.kind = .calLong → p x = false) : s.KeepsTasks p t := by
  intro c
  obtain ⟨l, hl, hcal⟩ := h c
  have hnone : l.filter p = [] := List.filter_eq_nil_iff.mpr fun x hx => by simp [hp x (hcal x hx)]
  rw [hl, List.filter_append, hnone, List.append_nil]

theorem State.grant_grantsOnly (s : State) (g : GroupId) (e : Entry) : s.GrantsOnly (s.grant g e) := by
  have hkind : e.toTask.kind = .calShort ∨ e.toTask.kind = .calLong := by
    show calTaskKind e.kind = .calShort ∨ calTaskKind e.kind = .calLong
    rw [calTaskKind_eq_ite]
    split
    · exact .inl rfl
    · exact .inr rfl
  unfold State.grant
  simp only
  split
  · exact .of_queues rfl
  · next c _ =>
    intro d
    rw [State.insertTask_eq, State.queue_setQueue]
    split
    · next hd =>
      subst hd
      exact ⟨_, rfl, fun x hx => by rw [List.mem_singleton.mp hx]; exact hkind⟩
    · exact .refl _ _

theorem State.scanGroup_grantsOnly (s : State) (g : GroupId) : s.GrantsOnly (s.scanGroup g) := by
  unfold State.scanGroup
  split
  · split
    · exact .refl s
    · exact s.grant_grantsOnly g _
  · exact .refl s
  · exact .refl s

theorem State.scanRank_grantsOnly (s : State) (r : Slot) : s.GrantsOnly (s.scanRank r) := by
  unfold State.scanRank
  split
  · exact .refl s
  · exact s.scanGroup_grantsOnly _

/-! ### The planner's part in an event -/

/-- A notice is written or counted as lost (R179). -/
theorem State.notice_lost (s : State) (b : Notice) : (s.notice b).lost = s.lost ∨ (s.notice b).lost = min 255 (s.lost + 1) := by
  unfold State.notice
  split
  · exact .inr rfl
  · exact .inl rfl

/-- Whether a task is work of another kind than an internal refresh task. -/
def Task.other (x : Task) : Bool := x.kind != .refresh

/-- What the planner does for rank `r`: its own fields of that record, its own tasks, and notices. -/
structure State.Planned (s : State) (r : Slot) (t : State) : Prop where
  frame : t = { s with ranks := t.ranks, queues := t.queues, records := t.records, lost := t.lost }
  rank : t.rank r = { s.rank r with
    balance := (t.rank r).balance, overruns := (t.rank r).overruns, urgent := (t.rank r).urgent, interval := (t.rank r).interval }
  others : ∀ q : Slot, q ≠ r → t.rank q = s.rank q
  tasks : s.KeepsTasks (fun x => x.other || decide (x.rank ≠ r)) t
  records : s.records <+: t.records
  lost : min 255 s.lost ≤ t.lost

namespace State.Planned

variable {r : Slot} {s t u : State}

theorem refl (s : State) : s.Planned r s := ⟨rfl, rfl, fun _ _ => rfl, .refl s, List.prefix_rfl, Nat.min_le_right _ _⟩

theorem trans (h : s.Planned r t) (h' : t.Planned r u) : s.Planned r u :=
  ⟨by rw [h'.frame, h.frame], by rw [h'.rank, h.rank], fun q hq => (h'.others q hq).trans (h.others q hq), h.tasks.trans h'.tasks,
    h.records.trans h'.records, (le_min (Nat.min_le_left _ _) h.lost).trans h'.lost⟩

theorem after (h' : t.Planned r u) (h : s.Planned r t) : s.Planned r u := h.trans h'

theorem setRank (s : State) {k : Rank} (h : k = { s.rank r with
    balance := k.balance, overruns := k.overruns, urgent := k.urgent, interval := k.interval }) : s.Planned r (s.setRank r k) :=
  ⟨rfl, by rw [State.rank_setRank_self]; exact h, fun _ hq => State.rank_setRank_ne s k hq, .of_queues rfl, List.prefix_rfl, Nat.min_le_right _ _⟩

theorem notice (s : State) (b : Notice) : s.Planned r (s.notice b) := by
  refine ⟨by rw [State.notice_frame], by rw [State.rank_of_notice], fun q _ => State.rank_of_notice s b q, .notice s b,
    (State.Steady.notice s b).records, ?_⟩
  obtain hlost | hlost := s.notice_lost b
  · rw [hlost]; exact Nat.min_le_right _ _
  · rw [hlost]; omega

theorem setQueue (s : State) {c : Chan} {q : Queue} (h : q.tasks.filter (fun x => x.other || decide (x.rank ≠ r)) =
    (s.queue c).tasks.filter (fun x => x.other || decide (x.rank ≠ r))) : s.Planned r (s.setQueue c q) :=
  ⟨rfl, rfl, fun _ _ => rfl, .setQueue s h, List.prefix_rfl, Nat.min_le_right _ _⟩

end State.Planned

theorem State.setRefreshClass_planned (s : State) (r : Slot) : s.Planned r (s.setRefreshClass r) := by
  unfold State.setRefreshClass
  split
  · exact .refl s
  · refine .setQueue s (filter_map_of_fixed (fun x _ => ?_) fun x _ hx => if_neg fun h => ?_)
    · by_cases h : x.rank = r ∧ x.kind = .refresh
      · rw [if_pos h]; rfl
      · rw [if_neg h]
    · simp [Task.other, h] at hx

theorem State.reevaluate_planned (s : State) (r : Slot) : s.Planned r (s.reevaluate r) := by
  unfold State.reevaluate
  simp only
  split
  · refine (State.setRefreshClass_planned _ r).after ?_
    split
    · exact (State.Planned.notice _ _).after (.setRank s rfl)
    · exact .setRank s rfl
  · exact .refl s

theorem State.debit_planned (s : State) (r : Slot) : s.Planned r (s.debit r) := by
  unfold State.debit
  simp only
  split
  · exact (State.Planned.notice _ _).after (.setRank s rfl)
  · exact .setRank s rfl

theorem State.createRefresh_planned (s : State) (r : Slot) : s.Planned r (s.createRefresh r) := by
  unfold State.createRefresh
  split
  · exact .refl s
  · refine .setQueue s ?_
    simp [Task.other]

theorem State.ensureRefresh_planned (s : State) (r : Slot) : s.Planned r (s.ensureRefresh r) := by
  unfold State.ensureRefresh
  split
  · split
    · exact s.setRefreshClass_planned r
    · split
      · exact .refl s
      · split
        · exact .refl s
        · exact s.createRefresh_planned r
  · exact .refl s

theorem State.takeInterval_planned (s : State) (r : Slot) : s.Planned r (s.takeInterval r) :=
  (State.ensureRefresh_planned _ r).after ((State.reevaluate_planned _ r).after ((State.Planned.setRank _ rfl).after (s.debit_planned r)))

theorem State.bandToPlanner_planned (s : State) (r : Slot) (old new : Band) : s.Planned r (s.bandToPlanner r old new) := by
  obtain hsame | ⟨it, -, -, -, ⟨-, htaken⟩ | ⟨-, hcut⟩⟩ := s.bandToPlanner_cases r old new
  · rw [hsame]; exact .refl s
  · rw [htaken]; exact s.takeInterval_planned r
  · rw [hcut]; exact .setRank s rfl

/-! ### A band handed on -/

/-- The notices of an expiry do not depend on the band (R23, R25). -/
theorem State.expiryNoticed_setBand (s : State) (r : Slot) (ch : Chan) (b : Band) (k : Rank) :
    ((s.setRank r { s.rank r with band := b }).expiryNoticed r ch).setRank r k = (s.expiryNoticed r ch).setRank r k := by
  have hbalance : (s.setRank r { s.rank r with band := b }).nextBalance r = s.nextBalance r := by
    simp only [State.nextBalance, State.rank_setRank_self, State.setRank_policy]
  have hoverruns : (s.setRank r { s.rank r with band := b }).nextOverruns r = s.nextOverruns r := by
    simp only [State.nextOverruns, State.rank_setRank_self, State.setRank_policy]
  have hurgent : (s.setRank r { s.rank r with band := b }).nextUrgent r = s.nextUrgent r := by
    simp only [State.nextUrgent, hbalance, State.setRank_policy]
  unfold State.expiryNoticed
  simp only [hbalance, hoverruns, hurgent, State.rank_setRank_self, State.setRank_policy]
  split <;> split <;> simp only [State.setRank_notice, State.setRank_setRank]

/-- Whether a band written gives a running interval a shorter length (R27). -/
def State.cutsInterval (s : State) (r : Slot) (b : Band) (it : Interval) : Bool :=
  decide ((s.rank r).band < b ∧ intervalLength s.timing b < intervalLength s.timing (s.rank r).band ∧ intervalLength s.timing b < it.full)

/-- Whether that length has run already (R27). -/
def State.expiresBy (s : State) (r : Slot) (b : Band) : Bool :=
  (s.rank r).interval.any (fun it => s.cutsInterval r b it && decide (it.started + intervalLength s.timing b ≤ s.now))

/-- The record an expiry leaves in a band just written. -/
def State.bandExpiryRank (s : State) (r : Slot) (b : Band) : Rank :=
  { s.rank r with
    band := b, balance := s.nextBalance r, overruns := s.nextOverruns r, urgent := s.nextUrgent r
    interval := some { started := s.now, full := intervalLength s.timing b, length := intervalLength s.timing b } }

/-- The record a band written leaves where the interval does not expire. -/
def State.bandRank (s : State) (r : Slot) (b : Band) : Rank :=
  { s.rank r with
    band := b
    interval := (s.rank r).interval.map (fun it => if s.cutsInterval r b it = true then { it with length := intervalLength s.timing b } else it) }

theorem State.withBand_of_expires {s : State} {r : Slot} {b : Band} (h : s.expiresBy r b = true) (ch : Chan) :
    s.withBand r ch b = ((s.expiryNoticed r ch).setRank r (s.bandExpiryRank r b)).setQueue ch (s.expiryQueue r ch) := by
  have hsame : (s.expiryNoticed r ch).ranks = s.ranks := by rw [State.expiryNoticed_frame]
  unfold State.withBand
  extract_lets k length cut expires past balance overruns urgent u1 u2 cls reclass q
  rw [if_pos (show expires = true from h), State.setRank, hsame]
  rfl

theorem State.withBand_of_running {s : State} {r : Slot} {b : Band} (h : s.expiresBy r b = false) (ch : Chan) :
    s.withBand r ch b = s.setRank r (s.bandRank r b) := by
  unfold State.withBand
  extract_lets k length cut expires past balance overruns urgent u1 u2 cls reclass q
  rw [if_neg (show ¬expires = true from Bool.eq_false_iff.mp h)]
  rfl

/-- What the planner makes of a band written (R27, R65). -/
theorem State.withBand_eq {s : State} {r : Slot} {ch : Chan} (hch : (s.rank r).channel = some ch)
    (hserved : (s.rank r).interval.isSome = true → (s.rank r).state.served = true) (b : Band) :
    (s.setRank r { s.rank r with band := b }).bandToPlanner r (s.rank r).band b = s.withBand r ch b := by
  cases hit : (s.rank r).interval with
  | none =>
    rw [State.withBand_of_running (by simp [State.expiresBy, hit])]
    simp only [State.bandToPlanner, State.rank_setRank_self, hit, State.bandRank, Option.map_none]
  | some it =>
    have hserved' : (s.rank r).state.served = true := hserved (by rw [hit]; rfl)
    simp only [State.bandToPlanner, State.rank_setRank_self, hit, State.setRank_timing, State.setRank_now, State.setRank_setRank]
    by_cases hcut : (s.rank r).band < b ∧ intervalLength s.timing b < intervalLength s.timing (s.rank r).band ∧
        intervalLength s.timing b < it.full
    · rw [if_pos hcut]
      by_cases hdue : it.started + intervalLength s.timing b ≤ s.now
      · rw [if_pos hdue, State.withBand_of_expires (by simp [State.expiresBy, hit, State.cutsInterval, hcut, hdue])]
        have htake := State.takeInterval_eq (s := s.setRank r { s.rank r with band := b }) (r := r) (ch := ch)
          (by rw [State.rank_setRank_self]; exact hserved') (by rw [State.rank_setRank_self]; exact hch)
        rw [State.expiryNoticed_setBand] at htake
        refine Eq.trans ?_ (htake.trans (congrArg₂ (State.setQueue · ch ·) (congrArg _ ?_) ?_))
        · rw [← hit]
        · simp only [State.expiryRank, State.nextBalance, State.nextOverruns, State.nextUrgent, State.rank_setRank_self]
          rfl
        · simp only [State.expiryQueue, State.nextBalance, State.nextUrgent, State.rank_setRank_self]
          rfl
      · rw [if_neg hdue, State.withBand_of_running (by simp [State.expiresBy, hit, State.cutsInterval, hcut, hdue])]
        simp only [State.bandRank, hit, Option.map_some, State.cutsInterval, decide_eq_true hcut, if_true]
    · rw [if_neg hcut, State.withBand_of_running (by simp [State.expiresBy, hit, State.cutsInterval, hcut])]
      simp only [State.bandRank, hit, Option.map_some, State.cutsInterval, decide_eq_false hcut, Bool.false_eq_true, if_false]

/-! ### The power logic's part in a band change -/

/-- The lookup of a rank's power task finds the first of them (R117). -/
theorem State.taskAt_eq_head? {s : State} {r : Slot} {ch : Chan} (hch : (s.rank r).channel = some ch) (p : TaskSlot) :
    s.taskAt r p = ((s.queue ch).tasks.filter (fun x => x.rank = r ∧ x.kind.place = p)).head? := by
  simp only [State.taskAt, hch, List.head?_filter]
  congr 1
  funext x
  rw [Bool.eq_iff_iff]
  simp

/-- A rank with no power task gets an exit (R107). -/
theorem State.bringOut_of_none {s : State} {r : Slot} {ch : Chan} (hch : (s.rank r).channel = some ch) (hmark : (s.engine ch).resetMark = false)
    (h : s.taskAt r .power = none) (cause : ExitCause) : s.bringOut r cause = s.createExit ch r cause := by
  simp only [State.bringOut, hch, h]
  exact if_neg (by rw [State.resetting, hmark]; decide)

/-- A rank with a power task has it raised, where it is a host's exit that waits (R107). -/
theorem State.bringOut_of_some {s : State} {r : Slot} {ch : Chan} {x : Task} (hch : (s.rank r).channel = some ch)
    (hmark : (s.engine ch).resetMark = false) (h : s.taskAt r .power = some x) (cause : ExitCause) : s.bringOut r cause =
      if x.kind = .deepExit ∧ x.executing = false ∧ x.cls = .power then s.raiseExit ch r else s := by
  simp only [State.bringOut, hch, h]
  exact if_neg (by rw [State.resetting, hmark]; decide)

theorem State.bringOut_of_mark {s : State} {r : Slot} {ch : Chan} (hch : (s.rank r).channel = some ch) (hmark : (s.engine ch).resetMark = true)
    (cause : ExitCause) : s.bringOut r cause = s := by
  simp only [State.bringOut, hch]
  exact if_pos hmark

/-- What the power logic does in a channel that is not resetting, told by a notice that is written or counted as lost (R107, R179). -/
theorem State.notice_told (s : State) (b : Notice) : .notice b s.timestamp ∈ (s.notice b).records ∨ (s.notice b).lost = min 255 (s.lost + 1) := by
  unfold State.notice
  split
  · exact .inr rfl
  · exact .inl (List.mem_append_right _ (List.mem_singleton.mpr rfl))

theorem State.notice_timestamp (s : State) (b : Notice) : (s.notice b).timestamp = s.timestamp := by rw [State.notice_frame]

theorem State.createExit_eq (s : State) (ch : Chan) (r : Slot) (cause : ExitCause) : s.createExit ch r cause =
    (s.setQueue ch ((s.queue ch).insert
      { seq := 0, rank := r, kind := .deepExit, cls := .urgent, count := none, tag := none, origin := .thermal
        executing := false })).notice (.thermalExit r (some ch) cause) := rfl

/-- The state a band change comes to the power logic in, from the state before the event (R65). -/
structure State.HandedOn (s : State) (r : Slot) (w : State) : Prop where
  channel : (w.rank r).channel = (s.rank r).channel
  state : (w.rank r).state = (s.rank r).state
  timestamp : w.timestamp = s.timestamp
  engines : w.engines = s.engines
  lost : min 255 s.lost ≤ w.lost
  entries : ∀ tag e, s.outEntry tag = some e → w.outEntry tag = some e
  power : s.KeepsTasks (fun x => x.rank = r ∧ x.kind.place = .power) w
  deep : (s.rank r).state = .deep → (s.rank r).interval = none → w.queues = s.queues

/-- What an event does after the power logic has taken a rank's band: records, losses and the rank's power tasks are kept, and in DEEP
nothing joins a queue. -/
structure State.KeepsPower (u : State) (r : Slot) (t : State) : Prop where
  records : u.records <+: t.records
  lost : u.lost ≤ t.lost
  power : u.KeepsTasks (fun x => x.rank = r ∧ x.kind.place = .power) t
  deep : (u.rank r).state = .deep → t.queues = u.queues

theorem State.completeTag_mem {s : State} {tag : Tag} {e : OutEntry} (h : s.outEntry tag = some e) (st : Status) (d : Detail) :
    e.report st d s.timestamp ∈ (s.complete tag st d).records := by
  simp only [State.complete, h]
  exact List.mem_append_right _ (List.mem_singleton.mpr rfl)

theorem State.removeDeepEnter_of_waiting {s : State} {r : Slot} {ch : Chan} {x : Task} (hch : (s.rank r).channel = some ch)
    (h : s.taskAt r .power = some x) (hkind : x.kind = .deepEnter) (hwaits : x.executing = false) : s.removeDeepEnter r =
      ((s.removeTasks ch (fun u => u.rank == r && u.kind == .deepEnter && !u.executing)).completeTag x.tag .thermal
        (.rankState (s.rank r).state)).scanRank r := by
  simp only [State.removeDeepEnter, hch, h, hkind, hwaits, and_self, if_true]

theorem State.removeDeepEnter_of_other {s : State} {r : Slot} (h : ∀ x, s.taskAt r .power = some x → x.kind = .deepEnter → x.executing = true) :
    s.removeDeepEnter r = s := by
  unfold State.removeDeepEnter
  split
  · next c x hc hx =>
    split
    · next hwaits => exact absurd (h x hx hwaits.1) (by simp [hwaits.2])
    · rfl
  · rfl

/-- A notice written in an event is in the records it leaves, or counted as lost. -/
theorem State.told_of_notice {s v t : State} {b : Notice} (htime : v.timestamp = s.timestamp) (hlost : min 255 s.lost ≤ v.lost)
    (hrecords : (v.notice b).records <+: t.records) (hmore : (v.notice b).lost ≤ t.lost) :
    .notice b s.timestamp ∈ t.records ∨ min 255 (s.lost + 1) ≤ t.lost := by
  obtain h | h := v.notice_told b
  · exact .inl (hrecords.subset (htime ▸ h))
  · exact .inr (by omega)

/-- A band that becomes 3 is taken by the rank's power work (R107). -/
theorem State.takesCriticalBand {s w t : State} {r : Slot} (hw : s.HandedOn r w) (ht : (w.criticalBand r).KeepsPower r t) :
    s.TakesCriticalBand t r := by
  intro c hc power told
  have hch : (w.rank r).channel = some c := hw.channel.trans hc
  have hstate : ((w.criticalBand r).rank r).state = (s.rank r).state := by
    rw [State.criticalBand_frame]
    exact hw.state
  have hpower : (w.queue c).tasks.filter (fun x => x.rank = r ∧ x.kind.place = .power) = power := by
    have h := hw.power c
    simpa only [decide_eq_true_eq] using h
  have hat : w.taskAt r .power = power.head? := by rw [State.taskAt_eq_head? hch, hpower]
  refine ⟨fun x hx hkind hstate' => ?_, fun hdeep hinterval => ⟨fun hmark => ?_, fun hmark => ⟨fun hnone => ?_, fun x hx hkind => ?_⟩⟩⟩
  · have hfound : w.taskAt r .power = some x := by rw [hat, hx]; rfl
    have hmem : x ∈ (w.queue c).tasks.filter (fun x => x.rank = r ∧ x.kind.place = .power) := by rw [hpower, hx]; exact List.mem_singleton.mpr rfl
    obtain ⟨hxw, hxpower⟩ := List.mem_filter.mp hmem
    have hcrit : w.criticalBand r = w.removeDeepEnter r := if_neg (hw.state ▸ hstate')
    rw [hcrit] at ht
    constructor
    · intro hrun
      have hkeep : w.removeDeepEnter r = w := State.removeDeepEnter_of_other fun y hy _ => by
        rw [Option.some.inj (hfound.symm.trans hy)] at hrun
        exact hrun
      rw [hkeep] at ht
      exact (ht.power.mem_iff hxpower).mpr hxw
    · intro hwaits
      have hremove := State.removeDeepEnter_of_waiting hch hfound hkind hwaits
      rw [hremove] at ht
      refine ⟨fun y hy hrank hdeep => ?_, fun e he => ?_⟩
      · have hypower : decide (y.rank = r ∧ y.kind.place = .power) = true := by simp [hrank, hdeep, TaskKind.place]
        have hyu := (ht.power.mem_iff hypower).mp hy
        have hyv := ((State.scanRank_grantsOnly _ r) c).mem hyu
        obtain hyv | hcal := hyv
        · rw [State.completeTag_frame] at hyv
          simp only [State.removeTasks] at hyv
          obtain ⟨hyw, hgone⟩ := List.mem_filter.mp ((State.queue_setQueue_self w c _) ▸ hyv)
          have : y ∈ power := by rw [← hpower]; exact List.mem_filter.mpr ⟨hyw, hypower⟩
          rw [hx, List.mem_singleton] at this
          subst this
          simp [hrank, hdeep, hwaits] at hgone
        · simp [hdeep] at hcal
      · obtain ⟨tag, htag, he⟩ := Option.bind_eq_some_iff.mp he
        have hentry : (w.removeTasks c fun u => u.rank == r && u.kind == .deepEnter && !u.executing).outEntry tag = some e :=
          hw.entries tag e he
        have hreport := State.completeTag_mem hentry .thermal (.rankState (w.rank r).state)
        rw [htag, State.scanRank_frame] at ht
        rw [hw.state] at hreport
        exact ht.records.subset (hw.timestamp ▸ hw.state ▸ hreport)
  all_goals
    have hdeep' : (w.rank r).state = .deep := hw.state.trans hdeep
    have hcrit : w.criticalBand r = w.bringOut r .deep := if_pos hdeep'
    have hqueues := hw.deep hdeep hinterval
    have htqueues := ht.deep (hstate.trans hdeep)
    have hqueue : w.queue c = s.queue c := by rw [State.queue, hqueues]; rfl
    have htqueue : t.queue c = (w.criticalBand r).queue c := by rw [State.queue, htqueues]; rfl
    have hmark' : (w.engine c).resetMark = (s.engine c).resetMark := by rw [State.engine, hw.engines]; rfl
    rw [hmark] at hmark'
    rw [hcrit] at ht htqueue
  · rw [htqueue, State.bringOut_of_mark hch hmark', hqueue]
  · have hempty : w.taskAt r .power = none := by rw [hat, hnone]; rfl
    rw [State.bringOut_of_none hch hmark' hempty, State.createExit_eq] at ht htqueue
    refine ⟨State.told_of_notice (v := w.setQueue c _) hw.timestamp hw.lost ht.records ht.lost, ?_⟩
    rw [htqueue, State.queue_of_notice, State.queue_setQueue_self, hqueue]
  · have hfound : w.taskAt r .power = some x := by rw [hat, hx]; rfl
    rw [State.bringOut_of_some hch hmark' hfound] at ht htqueue
    refine ⟨fun hwaits hcls => ?_, fun hother => ?_⟩
    · rw [if_pos ⟨hkind, hwaits, hcls⟩] at ht htqueue
      refine ⟨State.told_of_notice (v := w.mapTasks c _) hw.timestamp hw.lost ht.records ht.lost, ?_⟩
      rw [htqueue, State.raiseExit, State.queue_of_notice, State.mapTasks, State.queue_setQueue_self, hqueue]
      refine congrArg (fun l => { s.queue c with tasks := l }) (List.map_congr_left fun y hy => ?_)
      have hone : y.rank = r ∧ y.kind = .deepExit ↔ y = x := by
        constructor
        · rintro ⟨hrank, hdeep⟩
          have : y ∈ power := List.mem_filter.mpr ⟨hy, by simp [hrank, hdeep, TaskKind.place]⟩
          rwa [hx, List.mem_singleton] at this
        · rintro rfl
          have : y ∈ power := by rw [hx]; exact List.mem_singleton.mpr rfl
          exact ⟨by simpa using (of_decide_eq_true (List.mem_filter.mp this).2).1, hkind⟩
      exact if_congr hone rfl rfl
    · rw [htqueue, if_neg (by rintro ⟨-, hwaits, hcls⟩; obtain h | h := hother <;> simp_all), hqueue]

/-! ### A command that waits in the table -/

theorem State.Quiet.records {free : Prop} {s t : State} (h : s.Quiet free t) : s.records <+: t.records := by
  induction h with
  | refl => exact List.prefix_rfl
  | tail _ hw ih =>
    cases hw with
    | rank r k => exact ih
    | group g x => exact ih
    | queue c q => exact ih
    | notice b => exact ih.trans (State.Steady.notice _ b).records
    | complete tag st d => exact ih.trans (State.Steady.complete _ tag st d).records

/-- Its table entry stays as long as no work carries its tag. -/
def State.Retains (tag : Tag) (s t : State) : Prop :=
  s.Fresh tag → t.Fresh tag ∧ t.outEntry tag = s.outEntry tag ∧ t.timestamp = s.timestamp

theorem State.Fresh.queue {s : State} {tag : Tag} (h : s.Fresh tag) (c : Chan) : ∀ x ∈ (s.queue c).tasks, x.tag ≠ some tag := by
  cases c
  · exact h.1
  · exact h.2.1

theorem State.fresh_iff {s : State} {tag : Tag} : s.Fresh tag ↔ (∀ c : Chan, ∀ x ∈ (s.queue c).tasks, x.tag ≠ some tag) ∧
    ∀ g : GroupId, (∀ e ∈ (s.group g).waiting, e.tag ≠ some tag) ∧ ∀ e ∈ (s.group g).heldEntry, e.tag ≠ some tag :=
  ⟨fun h => ⟨h.queue, h.2.2⟩, fun h => ⟨h.1 .a, h.1 .b, h.2⟩⟩

theorem find?_eraseP_tag {l : List OutEntry} {tag tag' : Tag} (h : tag' ≠ tag) :
    (l.eraseP (fun e => e.tag == tag')).find? (fun e => e.tag == tag) = l.find? (fun e => e.tag == tag) := by
  induction l with
  | nil => rfl
  | cons e l ih =>
    rw [List.eraseP_cons]
    by_cases he : e.tag = tag'
    · simp [he, h]
    · rw [show (e.tag == tag') = false by simpa using he, cond_false, List.find?_cons, List.find?_cons, ih]

namespace State.Retains

variable {tag : Tag} {s t u : State}

theorem refl (s : State) : State.Retains tag s s := fun hs => ⟨hs, rfl, rfl⟩

theorem trans (h : State.Retains tag s t) (h' : State.Retains tag t u) : State.Retains tag s u := by
  intro hs
  obtain ⟨ht, hentry, htime⟩ := h hs
  obtain ⟨hu, hentry', htime'⟩ := h' ht
  exact ⟨hu, hentry'.trans hentry, htime'.trans htime⟩

theorem after (h' : State.Retains tag t u) (h : State.Retains tag s t) : State.Retains tag s u := h.trans h'

theorem of_eq (hqueues : t.queues = s.queues) (hgroups : t.groups = s.groups) (hout : t.outstanding = s.outstanding)
    (htime : t.timestamp = s.timestamp) : State.Retains tag s t := by
  have hqueue : ∀ c, t.queue c = s.queue c := fun c => by rw [State.queue, hqueues]; rfl
  have hgroup : ∀ g, t.group g = s.group g := fun g => by rw [State.group, hgroups]; rfl
  refine fun h => ⟨?_, by rw [State.outEntry, hout]; rfl, htime⟩
  rw [State.fresh_iff] at h ⊢
  simpa only [hqueue, hgroup] using h

theorem setRank (s : State) (r : Slot) (k : Rank) : State.Retains tag s (s.setRank r k) := of_eq rfl rfl rfl rfl

theorem notice (s : State) (b : Notice) : State.Retains tag s (s.notice b) := by
  rw [State.notice_frame]
  exact of_eq rfl rfl rfl rfl

theorem setQueue (s : State) (c : Chan) (q : Queue) (h : s.Fresh tag → ∀ x ∈ q.tasks, x.tag ≠ some tag) :
    State.Retains tag s (s.setQueue c q) := by
  refine fun hs => ⟨State.fresh_iff.mpr ⟨fun d x hx => ?_, hs.2.2⟩, rfl, rfl⟩
  rw [State.queue_setQueue] at hx
  split at hx
  · exact h hs x hx
  · exact hs.queue d x hx

theorem setGroup (s : State) (g : GroupId) (x : CalGroup)
    (h : s.Fresh tag → (∀ e ∈ x.waiting, e.tag ≠ some tag) ∧ ∀ e ∈ x.heldEntry, e.tag ≠ some tag) :
    State.Retains tag s (s.setGroup g x) := by
  refine fun hs => ⟨State.fresh_iff.mpr ⟨hs.queue, fun g' => ?_⟩, rfl, rfl⟩
  rw [State.group_setGroup]
  split
  · exact h hs
  · exact hs.2.2 g'

theorem insertTask (s : State) (c : Chan) (x : Task) (h : s.Fresh tag → x.tag ≠ some tag) : State.Retains tag s (s.insertTask c x) :=
  setQueue s c _ fun hs y hy => (List.mem_append.mp hy).elim (hs.queue c y) fun hy => by rw [List.mem_singleton.mp hy]; exact h hs

theorem removeTasks (s : State) (c : Chan) (gone : Task → Bool) : State.Retains tag s (s.removeTasks c gone) :=
  setQueue s c _ fun hs y hy => hs.queue c y (List.mem_of_mem_filter hy)

theorem mapTasks (s : State) (c : Chan) (f : Task → Task) (h : ∀ x, (f x).tag = x.tag) : State.Retains tag s (s.mapTasks c f) :=
  setQueue s c _ fun hs y hy => by
    obtain ⟨x, hx, rfl⟩ := List.mem_map.mp hy
    rw [h]
    exact hs.queue c x hx

theorem complete (s : State) {tag' : Tag} (h : s.Fresh tag → tag' ≠ tag) (st : Status) (d : Detail) :
    State.Retains tag s (s.complete tag' st d) := by
  refine fun hs => ⟨?_, ?_, by rw [State.complete_frame]⟩
  · rw [State.complete_frame]
    exact hs
  · unfold State.complete
    split
    · rfl
    · exact find?_eraseP_tag (h hs)

theorem completeTag (s : State) {tag' : Option Tag} (h : s.Fresh tag → tag' ≠ some tag) (st : Status) (d : Detail) :
    State.Retains tag s (s.completeTag tag' st d) := by
  cases tag' with
  | none => exact .refl s
  | some x => exact complete s (fun hs hx => h hs (congrArg some hx)) st d

theorem foldl {α : Type} (f : State → α → State) (l : List α) (s : State) (h : ∀ (s : State), ∀ a ∈ l, State.Retains tag s (f s a)) :
    State.Retains tag s (l.foldl f s) := by
  induction l generalizing s with
  | nil => exact refl s
  | cons a l ih => exact (h s a List.mem_cons_self).trans (ih _ fun s b hb => h s b (List.mem_cons_of_mem _ hb))

/-- A command still in the table has its record last when it completes (R175). -/
theorem getLast (h : State.Retains tag s t) (hs : s.Fresh tag) {e : OutEntry} (he : s.outEntry tag = some e) (st : Status) (d : Detail) :
    (t.complete tag st d).records.getLast? = some (e.report st d s.timestamp) := by
  obtain ⟨-, hentry, htime⟩ := h hs
  simp only [State.complete, hentry.trans he, List.getLast?_append, List.getLast?_singleton, Option.some_or, htime]

end State.Retains

section Operations

variable (tag : Tag)

theorem State.setRefreshClass_retains (s : State) (r : Slot) : State.Retains tag s (s.setRefreshClass r) := by
  unfold State.setRefreshClass
  split
  · exact .refl s
  · exact .mapTasks s _ _ fun x => by split <;> rfl

theorem State.reevaluate_retains (s : State) (r : Slot) : State.Retains tag s (s.reevaluate r) := by
  unfold State.reevaluate
  simp only
  split
  · refine (State.setRefreshClass_retains tag _ r).after ?_
    split
    · exact (State.Retains.notice _ _).after (.setRank s r _)
    · exact .setRank s r _
  · exact .refl s

theorem State.debit_retains (s : State) (r : Slot) : State.Retains tag s (s.debit r) := by
  unfold State.debit
  simp only
  split
  · exact (State.Retains.notice _ _).after (.setRank s r _)
  · exact .setRank s r _

theorem State.ensureRefresh_retains (s : State) (r : Slot) : State.Retains tag s (s.ensureRefresh r) := by
  unfold State.ensureRefresh State.createRefresh
  split
  · split
    · exact s.setRefreshClass_retains tag r
    · split
      · exact .refl s
      · split
        · exact .refl s
        · next c _ _ =>
          exact .insertTask s c _ fun _ h => nomatch h
  · exact .refl s

theorem State.takeInterval_retains (s : State) (r : Slot) : State.Retains tag s (s.takeInterval r) :=
  (State.ensureRefresh_retains tag _ r).after
    ((State.reevaluate_retains tag _ r).after ((State.Retains.setRank _ r _).after (s.debit_retains tag r)))

theorem State.bandToPlanner_retains (s : State) (r : Slot) (old new : Band) : State.Retains tag s (s.bandToPlanner r old new) := by
  obtain hsame | ⟨it, -, -, -, ⟨-, htaken⟩ | ⟨-, hcut⟩⟩ := s.bandToPlanner_cases r old new
  · rw [hsame]; exact .refl s
  · rw [htaken]; exact s.takeInterval_retains tag r
  · rw [hcut]; exact .setRank s r _

theorem State.grant_retains (s : State) (g : GroupId) {e : Entry} (he : e ∈ (s.group g).waiting) : State.Retains tag s (s.grant g e) := by
  intro hs
  have htag := (hs.2.2 g).1 e he
  have hgroup : State.Retains tag s (s.setGroup g { s.group g with
      state := .held, holder := some e.rank, heldEntry := some e, waiting := (s.group g).waiting.eraseP s.eligible
      tokenTimer := some (s.now + s.timing.tokenHold) }) :=
    .setGroup s g _ fun hs => ⟨fun x hx => (hs.2.2 g).1 x (List.mem_of_mem_eraseP hx), by simpa using htag⟩
  unfold State.grant
  simp only
  split
  · exact hgroup hs
  · exact (hgroup.trans (.insertTask _ _ e.toTask fun _ => htag)) hs

theorem State.scanGroup_retains (s : State) (g : GroupId) : State.Retains tag s (s.scanGroup g) := by
  unfold State.scanGroup
  split
  · split
    · exact .refl s
    · next e he => exact s.grant_retains tag g (List.mem_of_find?_eq_some he)
  · exact .refl s
  · exact .refl s

theorem State.scanRank_retains (s : State) (r : Slot) : State.Retains tag s (s.scanRank r) := by
  unfold State.scanRank
  split
  · exact .refl s
  · exact s.scanGroup_retains tag _

theorem State.bringOut_retains (s : State) (r : Slot) (cause : ExitCause) : State.Retains tag s (s.bringOut r cause) := by
  unfold State.bringOut
  split
  · exact .refl s
  · split
    · exact .refl s
    · split
      · exact (State.Retains.notice _ _).after (.insertTask s _ _ fun _ h => nomatch h)
      · split
        · exact (State.Retains.notice _ _).after (.mapTasks s _ _ fun x => by split <;> rfl)
        · exact .refl s

theorem State.removeDeepEnter_retains (s : State) (r : Slot) : State.Retains tag s (s.removeDeepEnter r) := by
  unfold State.removeDeepEnter
  split
  · next c x hc hx =>
    split
    · intro hs
      have htag := hs.queue c x (State.mem_of_taskAt hc hx).1
      exact ((State.scanRank_retains tag _ r).after ((State.Retains.removeTasks s c _).trans (.completeTag _ (fun _ => htag) _ _))) hs
    · exact .refl s
  · exact .refl s

theorem State.criticalBand_retains (s : State) (r : Slot) : State.Retains tag s (s.criticalBand r) := by
  unfold State.criticalBand
  split
  · exact s.bringOut_retains tag r _
  · exact s.removeDeepEnter_retains tag r

theorem State.handBand_retains (s : State) (r : Slot) (old new : Band) : State.Retains tag s (s.handBand r old new) := by
  unfold State.handBand
  split
  · exact .refl s
  · simp only
    split
    · exact (State.criticalBand_retains tag _ r).after (s.bandToPlanner_retains tag r old new)
    · exact s.bandToPlanner_retains tag r old new

theorem State.changeBand_retains (s : State) (r : Slot) (b : Band) : State.Retains tag s (s.changeBand r b) :=
  (State.handBand_retains tag _ r _ b).after (.setRank s r _)

end Operations

/-! ### SET_BAND -/

/-- Bringing a rank out writes exits alone (R107). -/
theorem State.bringOut_keeps (s : State) (r : Slot) (cause : ExitCause) {p : Task → Bool}
    (hp : ∀ x : Task, x.rank = r → x.kind = .deepExit → p x = false) :
    s.KeepsTasks p (s.bringOut r cause) := by
  unfold State.bringOut
  split
  · exact .refl s
  · split
    · exact .refl s
    · split
      · exact (State.KeepsTasks.notice _ _).after (.insertTask s _ fun _ => hp _ rfl rfl)
      · split
        · refine (State.KeepsTasks.notice _ _).after (.mapTasks s _ (fun x => ?_) fun x hx => if_neg fun h => ?_)
          · split
            · next h => exact (hp { x with cls := .urgent } h.1 h.2).trans (hp x h.1 h.2).symm
            · rfl
          · rw [hp x h.1 h.2] at hx
            exact Bool.false_ne_true hx
        · exact .refl s

/-- The power logic leaves refresh work alone (R107). -/
theorem State.criticalBand_keeps (s : State) (r : Slot) {p : Task → Bool} (hp : ∀ x, p x = true → x.kind.place = .refresh ∨ x.kind.place = .pool) :
    s.KeepsTasks p (s.criticalBand r) := by
  have hnot : ∀ x : Task, x.kind.place = .power ∨ x.kind.place = .calibration → p x = false := by
    intro x hx
    by_contra h
    obtain h' | h' := hp x (by simpa using h) <;> simp [h'] at hx
  have hdeepExit : ∀ x : Task, x.kind = .deepExit → p x = false := fun x hx => hnot x (.inl (by rw [hx]; rfl))
  have hremove : s.KeepsTasks p (s.removeDeepEnter r) := by
    unfold State.removeDeepEnter
    split
    · next c x _ _ =>
      split
      · refine ((State.scanRank_grantsOnly _ r).keeps fun x hx => hnot x (.inr (TaskKind.place_eq_calibration.mpr hx))).after
          ((State.KeepsTasks.completeTag _ _ _ _).after (.removeTasks s c fun x _ hx => ?_))
        by_contra h
        have hkind : x.kind = .deepEnter := by
          simp only [Bool.not_eq_false, Bool.and_eq_true, beq_iff_eq] at h
          exact h.1.2
        rw [hnot x (.inl (by rw [hkind]; rfl))] at hx
        cases hx
      · exact .refl s
    · exact .refl s
  unfold State.criticalBand
  split
  · exact s.bringOut_keeps r .deep fun x _ => hdeepExit x
  · exact hremove

/-- What a band that becomes 3 takes out of the queues of a rank not in DEEP: its waiting DEEP_ENTER (R107). -/
theorem State.criticalBand_queue {s : State} {r : Slot} {ch : Chan} (hch : (s.rank r).channel = some ch) (hdeep : (s.rank r).state ≠ .deep)
    (hone : s.OneInPlace ch r .power) (d : Chan) :
    ExtendedBy ((s.queue d).tasks.filter (fun x => !(decide (d = ch ∧ x.rank = r ∧ x.kind = .deepEnter) && !x.executing)))
      ((s.criticalBand r).queue d).tasks (fun x => x.kind = .calShort ∨ x.kind = .calLong) := by
  have hfind := State.taskAt_eq_some_iff hch hone
  rw [State.criticalBand, if_neg hdeep]
  by_cases hwaits : ∃ x, s.taskAt r .power = some x ∧ x.kind = .deepEnter ∧ x.executing = false
  · obtain ⟨x, hx, hkind, hrun⟩ := hwaits
    rw [State.removeDeepEnter_of_waiting hch hx hkind hrun]
    have hgone : (s.queue d).tasks.filter (fun x => !(decide (d = ch ∧ x.rank = r ∧ x.kind = .deepEnter) && !x.executing)) =
        (((s.removeTasks ch (fun u => u.rank == r && u.kind == .deepEnter && !u.executing)).completeTag x.tag .thermal
          (.rankState (s.rank r).state)).queue d).tasks := by
      rw [State.completeTag_frame]
      show _ = ((s.removeTasks ch _).queue d).tasks
      rw [State.removeTasks, State.queue_setQueue]
      split
      · next hd =>
        subst hd
        refine List.filter_congr fun y _ => ?_
        rw [Bool.eq_iff_iff]
        simp
      · next hd => simp [hd]
    rw [hgone]
    exact State.scanRank_grantsOnly _ r d
  · push Not at hwaits
    rw [State.removeDeepEnter_of_other fun x hx hkind => by simpa using hwaits x hx hkind]
    have hall : (s.queue d).tasks.filter (fun x => !(decide (d = ch ∧ x.rank = r ∧ x.kind = .deepEnter) && !x.executing)) =
        (s.queue d).tasks := by
      refine List.filter_eq_self.mpr fun x hx => ?_
      by_cases h : d = ch ∧ x.rank = r ∧ x.kind = .deepEnter
      · obtain ⟨rfl, hrank, hkind⟩ := h
        have hrun := hwaits x ((hfind x).mpr ⟨hx, hrank, by rw [hkind]; rfl⟩) hkind
        simp [Bool.not_eq_false] at hrun
        simp [hrun]
      · simp [h]
    rw [hall]
    exact .refl _ _

/-- The power logic's part where a band becomes 3 (R65, R107). -/
def State.powerTakes (s : State) (r : Slot) (critical : Prop) [Decidable critical] : State := if critical then s.criticalBand r else s

section PowerTakes

variable (s : State) (r : Slot) (critical : Prop) [Decidable critical]

theorem State.powerTakes_frame : s.powerTakes r critical = { s with
    queues := (s.powerTakes r critical).queues, groups := (s.powerTakes r critical).groups
    outstanding := (s.powerTakes r critical).outstanding, records := (s.powerTakes r critical).records
    lost := (s.powerTakes r critical).lost } := by
  unfold State.powerTakes
  split
  · rw [State.criticalBand_frame]
  · rfl

theorem State.powerTakes_records : s.records <+: (s.powerTakes r critical).records := by
  unfold State.powerTakes
  split
  · exact (s.criticalBand_quiet (free := False) r).records
  · exact List.prefix_rfl

theorem State.powerTakes_refreshTasks (d : Chan) : (s.powerTakes r critical).refreshTasks d = s.refreshTasks d := by
  unfold State.powerTakes
  split
  · exact s.criticalBand_keeps r (p := fun x => x.kind = .refresh) (fun x hx => .inl (by rw [of_decide_eq_true hx]; rfl)) d
  · rfl

theorem State.powerTakes_retains (tag : Tag) : State.Retains tag s (s.powerTakes r critical) := by
  unfold State.powerTakes
  split
  · exact s.criticalBand_retains tag r
  · exact .refl s

end PowerTakes

/-- A band written and handed on (R64, R65, R107). -/
theorem State.changeBand_eq {s : State} {r : Slot} {ch : Chan} (hch : (s.rank r).channel = some ch)
    (hserved : (s.rank r).interval.isSome = true → (s.rank r).state.served = true) (b : Band) :
    s.changeBand r b = (s.withBand r ch b).powerTakes r (b = 3 ∧ (s.rank r).band ≠ 3) := by
  have hplanner := State.withBand_eq hch hserved b
  show (s.setRank r { s.rank r with band := b }).handBand r (s.rank r).band b = _
  unfold State.handBand State.powerTakes
  by_cases hsame : (s.rank r).band = b
  · rw [if_pos hsame, if_neg fun h => h.2 (hsame.trans h.1), ← hplanner, hsame]
    unfold State.bandToPlanner
    split
    · rfl
    · simp
  · rw [if_neg hsame]
    simp only [hplanner]
    by_cases hb : b = 3
    · rw [if_pos hb, if_pos ⟨hb, fun h => hsame (h.trans hb.symm)⟩]
    · rw [if_neg hb, if_neg fun h => hb h.1]

theorem State.withBand_planned {s : State} {r : Slot} {ch : Chan} (hch : (s.rank r).channel = some ch)
    (hserved : (s.rank r).interval.isSome = true → (s.rank r).state.served = true) (b : Band) :
    (s.setRank r { s.rank r with band := b }).Planned r (s.withBand r ch b) := by
  rw [← State.withBand_eq hch hserved b]
  exact State.bandToPlanner_planned _ r _ b

theorem State.withBand_of_stopped {s : State} {r : Slot} (h : (s.rank r).interval = none) (ch : Chan) (b : Band) :
    (s.withBand r ch b).queues = s.queues := by
  rw [State.withBand_of_running (by simp [State.expiresBy, h])]
  rfl

theorem State.withBand_retains (tag : Tag) {s : State} {r : Slot} {ch : Chan} (hch : (s.rank r).channel = some ch)
    (hserved : (s.rank r).interval.isSome = true → (s.rank r).state.served = true) (b : Band) :
    State.Retains tag s (s.withBand r ch b) := by
  rw [← State.withBand_eq hch hserved b]
  exact (State.bandToPlanner_retains tag _ r _ b).after (.setRank s r _)

/-- A band handed on reaches the power logic from any state with the same work and reports (R65). -/
theorem State.HandedOn.withBand {s v : State} {r : Slot} {ch : Chan} (h : s.HandedOn r v) (hch : (v.rank r).channel = some ch)
    (hserved : (v.rank r).interval.isSome = true → (v.rank r).state.served = true)
    (hinterval : (s.rank r).interval = none → (v.rank r).interval = none) (b : Band) : s.HandedOn r (v.withBand r ch b) := by
  obtain ⟨hframe, hrank, -, htasks, -, hlost⟩ := State.withBand_planned hch hserved b
  have hkeeps : v.KeepsTasks (fun x => x.rank = r ∧ x.kind.place = .power) (v.withBand r ch b) :=
    State.KeepsTasks.mono (by exact htasks) fun x hx => by
      have hplace : x.kind.place = .power := (of_decide_eq_true hx).2
      have hother : x.other = true := by
        rw [Task.other, bne_iff_ne]
        intro hkind
        rw [hkind] at hplace
        cases hplace
      simp [hother]
  refine ⟨?_, ?_, ?_, ?_, (le_min (Nat.min_le_left _ _) h.lost).trans (by exact hlost), ?_, h.power.trans hkeeps, fun hdeep hnone => ?_⟩
  · rw [hrank, State.rank_setRank_self]; exact h.channel
  · rw [hrank, State.rank_setRank_self]; exact h.state
  · rw [hframe]; exact h.timestamp
  · rw [hframe]; exact h.engines
  · intro tag e he
    rw [hframe]
    exact h.entries tag e he
  · rw [State.withBand_of_stopped (hinterval hnone)]
    exact h.deep hdeep hnone

theorem State.HandedOn.taken (s : State) (r : Slot) (tag : Tag) (c : HostCommand) : s.HandedOn r (s.taken tag c) := by
  refine ⟨rfl, rfl, rfl, rfl, Nat.min_le_right _ _, fun tag' e he => ?_, .of_queues rfl, fun _ _ => rfl⟩
  show (s.outstanding ++ [outEntryOf tag c]).find? (fun x => x.tag == tag') = some e
  have he : s.outstanding.find? (fun x => x.tag == tag') = some e := he
  rw [List.find?_append, he]
  rfl

theorem State.KeepsPower.completed (u : State) (r : Slot) (tag : Tag) (st : Status) (d : Detail) :
    u.KeepsPower r (u.complete tag st d).settle := by
  refine ⟨(State.settle_steady _).after (State.Steady.complete u tag st d) |>.records, ?_, ?_, fun _ => ?_⟩
  · rw [State.settle_frame, State.complete_frame]
  · rw [State.settle_frame, State.complete_frame]
    exact .of_queues rfl
  · rw [State.settle_frame, State.complete_frame]

/-- A command just accepted is in the table (R171). -/
theorem State.outEntry_taken {s : State} {tag : Tag} (h : ∀ e ∈ s.outstanding, e.tag ≠ tag) (c : HostCommand) :
    (s.taken tag c).outEntry tag = some (outEntryOf tag c) := by
  have hnone : s.outstanding.find? (fun e => e.tag == tag) = none := List.find?_eq_none.mpr fun e he => by simpa using h e he
  show (s.outstanding ++ [outEntryOf tag c]).find? (fun e => e.tag == tag) = _
  rw [List.find?_append, hnone]
  simp [outEntryOf]

theorem takeCommand_setBand {u : State} {tag : Tag} {slot band : BitVec 8} {r : Slot} {b : Band} (hslot : slotOf slot = some r)
    (hband : bandOf band = some b) (hcheck : stateCheck .setBand (u.rank r).state = none) : takeCommand tag (.setBand slot band) u =
      if (u.rank r).sensor.isSome then u.complete tag .rankState .none else (u.changeBand r b).complete tag .done .none := by
  have hpasses : ∀ p ∈ bandChecks slot band, p.2 = true := by simp [bandChecks, hslot, hband]
  show runSetBand tag slot band u = _
  unfold runSetBand
  rw [State.rankCommand_of_passed hpasses hslot hcheck, hband]
  rfl

/-- Settles O12: the band is written, the planner and the power logic take the change, and the command completes last. -/
theorem setBand : Obligations.SetBand := by
  intro s tag slot band r b hadmits hslot hband hcheck c k
  have htake : takeCommand tag c (s.taken tag c) = if (s.rank r).sensor.isSome then (s.taken tag c).complete tag .rankState .none else
      ((s.taken tag c).changeBand r b).complete tag .done .none :=
    takeCommand_setBand (u := s.taken tag c) hslot hband hcheck
  refine ⟨fun hsensor => ?_, fun hsensor hsame => ?_, fun ch hfresh hsensor hch hserved => ?_⟩
  · rw [if_pos hsensor] at htake
    exact exec_answered (c := c) hadmits htake
  · have hnone : (s.rank r).sensor = none := hsensor
    have hchange : (s.taken tag c).changeBand r b = s.taken tag c := by
      have hrank : { (s.taken tag c).rank r with band := b } = (s.taken tag c).rank r := by rw [← hsame]; rfl
      unfold State.changeBand State.handBand
      rw [if_pos (show ((s.taken tag c).rank r).band = b from hsame), hrank, State.setRank_rank_same]
    rw [hnone, Option.isSome_none, if_neg Bool.false_ne_true, hchange] at htake
    exact exec_answered (c := c) hadmits htake
  · have hnone : (s.rank r).sensor = none := hsensor
    intro v
    have hexec : exec (.setBand tag slot band) s = .next ((v.powerTakes r (b = 3 ∧ k.band ≠ 3)).complete tag .done .none).settle := by
      rw [hnone, Option.isSome_none, if_neg Bool.false_ne_true, State.changeBand_eq (s := s.taken tag c) hch hserved] at htake
      exact exec_admitted (c := c) hadmits htake
    have hplanned : ((s.taken tag c).setRank r { (s.taken tag c).rank r with band := b }).Planned r v :=
      State.withBand_planned (s := s.taken tag c) hch hserved b
    have hhanded : s.HandedOn r v := (State.HandedOn.taken s r tag c).withBand (v := s.taken tag c) hch hserved id b
    have hretains : State.Retains tag (s.taken tag c) v := State.withBand_retains tag (s := s.taken tag c) hch hserved b
    have hown : (s.taken tag c).outEntry tag = some (outEntryOf tag c) := by
      obtain ⟨-, -, hunused, -⟩ := hadmits
      exact State.outEntry_taken hunused c
    have hframe := v.powerTakes_frame r (b = 3 ∧ k.band ≠ 3)
    refine ⟨fun hnot => ?_, _, hexec, ?_, ?_, ?_, ?_, fun d => ?_, fun hb hband => ?_, fun hdeep hone d => ?_, ?_⟩
    · rw [hexec, State.powerTakes, if_neg fun h => hnot.elim (fun h' => h' h.1) h.2]
    · rw [State.settle_frame, State.complete_frame, hframe]
    · rw [State.settle_frame, State.complete_frame, hframe, hplanned.frame]
      rfl
    · rw [State.settle_frame, State.complete_frame, hframe, hplanned.frame]
      rfl
    · exact (v.powerTakes_records r _).trans (((State.settle_steady _).after (State.Steady.complete _ tag _ _)).records)
    · rw [State.settle_frame, State.complete_frame]
      exact v.powerTakes_refreshTasks r _ d
    · refine State.takesCriticalBand hhanded ?_
      rw [State.powerTakes, if_pos ⟨hb, hband⟩]
      exact .completed _ r tag _ _
    · rw [State.settle_frame, State.complete_frame]
      show ExtendedBy _ ((v.powerTakes r (b = 3 ∧ k.band ≠ 3)).queue d).tasks _
      rw [State.powerTakes]
      by_cases hcritical : b = 3 ∧ k.band ≠ 3
      · have hvone : v.OneInPlace ch r .power := by
          have hmem : ∀ x : Task, x.rank = r → x.kind.place = .power → x ∈ (v.queue ch).tasks → x ∈ (s.queue ch).tasks := fun x hrank hplace hx =>
            (hhanded.power.mem_iff (by simp [hrank, hplace])).mp hx
          exact fun x hx y hy hxr hyr hxp hyp => hone x (hmem x hxr hxp hx) y (hmem y hyr hyp hy) hxr hyr hxp hyp
        rw [if_pos hcritical]
        simpa only [hcritical, true_and, ne_eq, not_false_eq_true] using State.criticalBand_queue (s := v) (hhanded.channel.trans hch)
          (by rw [hhanded.state]; exact hdeep) hvone d
      · rw [if_neg hcritical]
        have hall : (v.queue d).tasks.filter (fun x =>
            !(decide (b = 3 ∧ k.band ≠ 3 ∧ d = ch ∧ x.rank = r ∧ x.kind = .deepEnter) && !x.executing)) = (v.queue d).tasks := by
          refine List.filter_eq_self.mpr fun x _ => ?_
          rw [decide_eq_false fun h => hcritical ⟨h.1, h.2.1⟩]
          rfl
        rw [hall]
        exact .refl _ _
    · rw [State.settle_frame]
      exact (hretains.trans (v.powerTakes_retains r _ tag)).getLast hfresh hown .done .none

/-! ### SET_REFRESH_POLICY -/

/-- Equal reports: the queue, the table, the count of losses and the counter. -/
structure State.SameReports (s t : State) : Prop where
  records : t.records = s.records
  lost : t.lost = s.lost
  outstanding : t.outstanding = s.outstanding
  timestamp : t.timestamp = s.timestamp

theorem State.SameReports.refl (s : State) : s.SameReports s := ⟨rfl, rfl, rfl, rfl⟩

theorem State.SameReports.trans {s t u : State} (h : s.SameReports t) (h' : t.SameReports u) : s.SameReports u :=
  ⟨h'.records.trans h.records, h'.lost.trans h.lost, h'.outstanding.trans h.outstanding, h'.timestamp.trans h.timestamp⟩

theorem State.SameReports.notice {s t : State} (h : s.SameReports t) (b : Notice) : (s.notice b).SameReports (t.notice b) := by
  obtain ⟨hrecords, hlost, hout, htime⟩ := h
  have hmargin : t.margin = s.margin := by rw [State.margin, hrecords, hout]; rfl
  unfold State.notice
  rw [hmargin]
  split
  · exact ⟨hrecords, by rw [hlost], hout, htime⟩
  · exact ⟨by rw [hrecords, htime], hlost, hout, htime⟩

/-- Notices in a row write the report queue alone. -/
theorem State.foldl_notice_frame {α : Type} (b : α → Notice) (l : List α) (s : State) : l.foldl (fun u a => u.notice (b a)) s =
    { s with
      records := (l.foldl (fun u a => u.notice (b a)) s).records, lost := (l.foldl (fun u a => u.notice (b a)) s).lost } := by
  induction l generalizing s with
  | nil => rfl
  | cons a l ih => rw [List.foldl_cons, ih, State.notice_frame]

theorem State.setRefreshClass_sameReports (s : State) (r : Slot) : s.SameReports (s.setRefreshClass r) := by
  rw [State.setRefreshClass_frame]
  exact ⟨rfl, rfl, rfl, rfl⟩

/-- Whether a rank's urgent flag rises under a policy (R23, R44). -/
def Rank.rises (k : Rank) (p : Policy) : Bool := k.state.served && !k.urgent && decide (k.balance ≤ -(p.urgentAt : Int))

/-- The report of a flag that rises (R23). -/
theorem State.reevaluate_sameReports (s : State) (r : Slot) : (if (s.rank r).rises s.policy = true then
    s.notice (.rankUrgent r (s.rank r).channel (s.rank r).balance) else s).SameReports (s.reevaluate r) := by
  unfold State.reevaluate State.urgentFor Rank.rises
  simp only
  by_cases hserved : (s.rank r).state.served = true
  · rw [if_pos hserved, hserved, Bool.true_and, Bool.and_comm]
    refine .trans ?_ (State.setRefreshClass_sameReports _ r)
    split
    · exact State.SameReports.notice (s := s) (t := s.setRank r _) ⟨rfl, rfl, rfl, rfl⟩ _
    · exact ⟨rfl, rfl, rfl, rfl⟩
  · rw [if_neg hserved, (Bool.not_eq_true _).mp hserved, Bool.false_and, Bool.false_and, if_neg Bool.false_ne_true]
    exact .refl s

/-- The record a new policy leaves (R44). -/
def Rank.underPolicy (k : Rank) (p : Policy) : Rank :=
  if k.state.served = true then { k with urgent := decide (k.balance ≤ -(p.urgentAt : Int)) } else k

theorem State.reevaluate_rank (s : State) (r q : Slot) :
    (s.reevaluate r).rank q = if q = r then (s.rank r).underPolicy s.policy else s.rank q := by
  have hclass : ∀ u : State, (u.setRefreshClass r).rank q = u.rank q := fun u => by rw [State.setRefreshClass_frame]; rfl
  unfold State.reevaluate State.urgentFor Rank.underPolicy
  simp only
  split
  · rw [hclass]
    split <;> simp only [State.rank_of_notice, State.rank_setRank]
  · split
    · next h => rw [h]
    · rfl

theorem State.reevaluate_policy (s : State) (r : Slot) : (s.reevaluate r).policy = s.policy := by rw [State.reevaluate_frame]

/-- The flags of the ranks in a list re-evaluated. -/
theorem State.foldl_reevaluate_rank (l : List Slot) (hl : l.Nodup) (s : State) (q : Slot) :
    (l.foldl State.reevaluate s).rank q = if q ∈ l then (s.rank q).underPolicy s.policy else s.rank q := by
  induction l generalizing s with
  | nil => rfl
  | cons r l ih =>
    obtain ⟨hr, hl⟩ := List.nodup_cons.mp hl
    rw [List.foldl_cons, ih hl, State.reevaluate_rank, State.reevaluate_policy]
    by_cases hq : q = r
    · subst hq
      rw [if_neg hr, if_pos rfl, if_pos List.mem_cons_self]
    · simp [hq]

theorem State.foldl_reevaluate_groups (l : List Slot) (s : State) : (l.foldl State.reevaluate s).groups = s.groups := by
  induction l generalizing s with
  | nil => rfl
  | cons r l ih => rw [List.foldl_cons, ih, State.reevaluate_frame]

/-- The reports of those re-evaluations, in the list's order (R44). -/
theorem State.foldl_reevaluate_sameReports (l : List Slot) (hl : l.Nodup) (f : Slot → Rank) (p : Policy) (u s : State) (hsame : u.SameReports s)
    (hpolicy : s.policy = p) (hf : ∀ r ∈ l, s.rank r = f r) : ((l.filter (fun r => (f r).rises p)).foldl
      (fun u r => u.notice (.rankUrgent r (f r).channel (f r).balance)) u).SameReports (l.foldl State.reevaluate s) := by
  induction l generalizing u s with
  | nil => exact hsame
  | cons r l ih =>
    obtain ⟨hr, hl⟩ := List.nodup_cons.mp hl
    have hreport := s.reevaluate_sameReports r
    rw [hf r List.mem_cons_self, hpolicy] at hreport
    have hrest : ∀ q ∈ l, (s.reevaluate r).rank q = f q := fun q hq => by
      rw [State.reevaluate_rank, if_neg fun (h : q = r) => hr (h ▸ hq)]
      exact hf q (List.mem_cons_of_mem _ hq)
    rw [List.foldl_cons, List.filter_cons]
    split
    · next hrises =>
      rw [if_pos hrises] at hreport
      rw [List.foldl_cons]
      exact ih hl _ _ ((hsame.notice _).trans hreport) ((s.reevaluate_policy r).trans hpolicy) hrest
    · next hrises =>
      rw [if_neg hrises] at hreport
      exact ih hl _ _ (hsame.trans hreport) ((s.reevaluate_policy r).trans hpolicy) hrest

/-- The ranks and the reports a new policy leaves (R44). -/
theorem State.foldl_reevaluate_policy (s : State) (p : Policy) :
    (∀ r, (allSlots.foldl State.reevaluate { s with policy := p }).rank r = (s.rank r).underPolicy p) ∧
    (allSlots.foldl State.reevaluate { s with policy := p }).groups = s.groups ∧
    (allSlots.foldl State.reevaluate { s with policy := p }).policy = p ∧
    (allSlots.foldl State.reevaluate { s with policy := p }).engines = s.engines ∧
    ((allSlots.filter (fun r => (s.rank r).rises p)).foldl (fun u r => u.notice (.rankUrgent r (s.rank r).channel (s.rank r).balance)) s).SameReports
      (allSlots.foldl State.reevaluate { s with policy := p }) := by
  have hnodup : allSlots.Nodup := by decide
  have hquiet : State.Quiet False { s with policy := p } (allSlots.foldl State.reevaluate { s with policy := p }) :=
    .foldl _ _ _ State.reevaluate_quiet
  refine ⟨fun r => ?_, State.foldl_reevaluate_groups allSlots _, hquiet.policy_eq, hquiet.engines_eq,
    State.foldl_reevaluate_sameReports allSlots hnodup s.rank p s { s with policy := p } ⟨rfl, rfl, rfl, rfl⟩ rfl fun _ _ => rfl⟩
  rw [State.foldl_reevaluate_rank allSlots hnodup, if_pos (mem_allSlots r)]
  rfl

theorem Rank.outside_iff {k : Rank} {p : Policy} :
    k.outside p = true ↔ k.balance < -(p.postponeLimit : Int) ∨ (p.advanceLimit : Int) < k.balance := by simp [Rank.outside]

theorem takeCommand_setRefreshPolicy {u : State} {tag : Tag} {f : PolicyFields} (h : ∀ p ∈ policyChecks f, p.2 = true)
    (hurgent : 1 ≤ f.urgentAt.toNat ∧ f.urgentAt.toNat ≤ f.postponeLimit.toNat) : takeCommand tag (.setRefreshPolicy f) u =
      if u.timing.windowBudget < maxTask u.timing f.postponeLimit.toNat then u.complete tag .badParameter (.position 32)
      else match u.outsideSlot (policyOf f) with
        | some r => u.complete tag .outOfRange (.slot r)
        | none => (allSlots.foldl State.reevaluate { u with policy := policyOf f }).complete tag .done .none := by
  have hpasses : ∀ p ∈ urgentAtChecks f, p.2 = true := by simp [urgentAtChecks, within, hurgent]
  show runSetRefreshPolicy tag f u = _
  unfold runSetRefreshPolicy
  simp only [firstBad_of_all h, firstBad_of_all hpasses]
  rfl

theorem takeCommand_setRefreshPolicy_badUrgentAt {u : State} {tag : Tag} {f : PolicyFields} (h : ∀ p ∈ policyChecks f, p.2 = true)
    (hurgent : f.urgentAt.toNat = 0 ∨ f.postponeLimit.toNat < f.urgentAt.toNat) :
    takeCommand tag (.setRefreshPolicy f) u = u.complete tag .badParameter (.position 48) := by
  have hbad : within 1 f.postponeLimit.toNat f.urgentAt.toNat = false := by
    rw [within, Bool.and_eq_false_iff, decide_eq_false_iff_not, decide_eq_false_iff_not]
    omega
  have hfirst : firstBad (urgentAtChecks f) = some 48 := by
    rw [firstBad, urgentAtChecks, hbad]
    rfl
  show runSetRefreshPolicy tag f u = _
  unfold runSetRefreshPolicy
  simp only [firstBad_of_all h, hfirst]
  rfl

/-- Settles O14: the checks one by one, and where all pass the flags re-evaluated in slot order. -/
theorem setRefreshPolicy : Obligations.SetRefreshPolicy := by
  intro s tag f hadmits hchecks
  refine ⟨fun hurgent => exec_answered (c := .setRefreshPolicy f) hadmits (takeCommand_setRefreshPolicy_badUrgentAt hchecks hurgent),
    fun hlow hhigh => ?_⟩
  have htake := takeCommand_setRefreshPolicy (u := s.taken tag (.setRefreshPolicy f)) (tag := tag) hchecks ⟨hlow, hhigh⟩
  refine ⟨fun hbudget => ?_, fun hbudget => ⟨fun r hr hbefore => ?_, fun hall => ?_⟩⟩
  · rw [if_pos (by exact hbudget)] at htake
    exact exec_answered (c := .setRefreshPolicy f) hadmits htake
  · have hout : (s.taken tag (.setRefreshPolicy f)).outsideSlot (policyOf f) = some r := by
      refine find?_allSlots (fun q hq => ?_) ?_
      · obtain ⟨hlow, hhigh⟩ := hbefore q hq
        rw [← Bool.not_eq_true, Rank.outside_iff, not_or, not_lt, not_lt]
        exact ⟨hlow, hhigh⟩
      · rw [Rank.outside_iff]
        exact hr
    rw [if_neg (by exact Nat.not_lt.mpr hbudget), hout] at htake
    exact exec_answered (c := .setRefreshPolicy f) hadmits htake
  · have hin : (s.taken tag (.setRefreshPolicy f)).outsideSlot (policyOf f) = none := by
      refine List.find?_eq_none.mpr fun r _ => ?_
      obtain ⟨hlow, hhigh⟩ := hall r
      rw [Rank.outside_iff, not_or, not_lt, not_lt]
      exact ⟨hlow, hhigh⟩
    rw [if_neg (by exact Nat.not_lt.mpr hbudget), hin] at htake
    have hvalues : policyOf f =
        { postponeLimit := f.postponeLimit.toNat, advanceLimit := f.advanceLimit.toNat, urgentAt := f.urgentAt.toNat
          gatherThreshold := f.gatherThreshold.toNat, advanceEnable := f.advanceEnable == 1 } := rfl
    have hrises : ∀ r, (s.rank r).rises (policyOf f) =
        ((s.rank r).state.served && !(s.rank r).urgent && decide ((s.rank r).balance ≤ -(f.urgentAt.toNat : Int))) := fun _ => rfl
    have hunder : ∀ r, (s.rank r).underPolicy (policyOf f) = if (s.rank r).state.served = true then
        { s.rank r with urgent := decide ((s.rank r).balance ≤ -(f.urgentAt.toNat : Int)) } else s.rank r := fun _ => rfl
    clear hin
    generalize policyOf f = p at htake hvalues hrises hunder
    have hfold := (s.taken tag (.setRefreshPolicy f)).foldl_reevaluate_policy p
    simp only [State.rank_of_taken, hrises, hunder] at hfold
    generalize allSlots.foldl State.reevaluate { s.taken tag (.setRefreshPolicy f) with policy := p } = u at htake hfold
    obtain ⟨hranks, hgroups, hpolicy, hengines, hrecords, -, hout, htime⟩ := hfold
    rw [State.foldl_notice_frame] at hout htime
    refine ⟨_, exec_completed (c := .setRefreshPolicy f) hadmits htake hout, ?_, fun r => ?_, ?_, ?_, ?_, ?_⟩
    · rw [State.settle_frame]
      exact hpolicy.trans hvalues
    · rw [State.settle_frame]
      exact hranks r
    · rw [State.settle_frame]
      exact hengines
    · rw [State.settle_frame]
      exact hgroups
    · rw [State.settle_frame]
    · rw [State.settle_frame]
      show u.records ++ [u.completionOf tag (.setRefreshPolicy f) .done .none] = _
      rw [hrecords, State.completionOf, htime]
      rfl

/-! ### Bands of several slots in one event -/

/-- A rank's internal refresh tasks, their sequence numbers left aside (R29). -/
def State.debtOf (s : State) (ch : Chan) (r : Slot) : List Task :=
  ((s.refreshTasks ch).filter (fun x => x.rank = r)).map (fun x => { x with seq := 0 })

/-- The tasks of that debt. -/
def Task.isDebtOf (x : Task) (r : Slot) : Bool := decide (x.rank = r) && decide (x.kind = .refresh)

theorem State.debtOf_eq (s : State) (ch : Chan) (r : Slot) :
    s.debtOf ch r = ((s.queue ch).tasks.filter (fun x => x.isDebtOf r)).map (fun x => { x with seq := 0 }) := by
  rw [State.debtOf, State.refreshTasks, List.filter_filter]
  rfl

/-- Equal for what the planner makes of a band of rank `r`: its record, its debt, the channel's engine, the clock and the parameters. -/
structure State.SameAccount (r : Slot) (ch : Chan) (s t : State) : Prop where
  rank : t.rank r = s.rank r
  debt : t.debtOf ch r = s.debtOf ch r
  engine : t.engine ch = s.engine ch
  now : t.now = s.now
  timing : t.timing = s.timing
  policy : t.policy = s.policy

theorem State.SameAccount.refl (r : Slot) (ch : Chan) (s : State) : State.SameAccount r ch s s := ⟨rfl, rfl, rfl, rfl, rfl, rfl⟩

theorem State.SameAccount.trans {r : Slot} {ch : Chan} {s t u : State} (h : State.SameAccount r ch s t) (h' : State.SameAccount r ch t u) :
    State.SameAccount r ch s u :=
  ⟨h'.rank.trans h.rank, h'.debt.trans h.debt, h'.engine.trans h.engine, h'.now.trans h.now, h'.timing.trans h.timing, h'.policy.trans h.policy⟩

/-- The debt after an expiry: its tasks reclassed, and a new one where there was none and the channel is not resetting (R26, R30). -/
def debtAfter (debt : List Task) (r : Slot) (balance : Int) (urgent resetting : Bool) : List Task :=
  debt.map (fun x => { x with cls := if urgent = true then TaskClass.urgent else .routine }) ++
    if balance < 0 ∧ debt = [] ∧ resetting = false then
      [{ seq := 0, rank := r, kind := .refresh, cls := if urgent = true then TaskClass.urgent else .routine, count := none
         tag := none, origin := .planner, executing := false }]
    else []

theorem Queue.reclassed_debt (q : Queue) (r : Slot) (urgent : Bool) :
    ((q.reclassed r urgent).tasks.filter (fun x => x.isDebtOf r)).map (fun x : Task => { x with seq := 0 }) =
      ((q.tasks.filter (fun x => x.isDebtOf r)).map (fun x : Task => { x with seq := 0 })).map
        (fun x => { x with cls := if urgent = true then TaskClass.urgent else .routine }) := by
  simp only [Queue.reclassed, List.filter_map, List.map_map]
  have hsame : ((fun x : Task => x.isDebtOf r) ∘ fun x : Task =>
      if x.rank = r ∧ x.kind = .refresh then { x with cls := if urgent = true then TaskClass.urgent else .routine } else x) =
        fun x => x.isDebtOf r := by
    funext x
    simp only [Function.comp]
    split <;> rfl
  rw [hsame]
  refine List.map_congr_left fun x hx => ?_
  have hdebt : x.rank = r ∧ x.kind = .refresh := by
    have := (List.mem_filter.mp hx).2
    simpa [Task.isDebtOf] using this
  simp only [Function.comp, if_pos hdebt]

theorem State.debtOf_expiry (s : State) (ch : Chan) (r : Slot) (v : State) :
    (v.setQueue ch (s.expiryQueue r ch)).debtOf ch r =
      debtAfter (s.debtOf ch r) r (s.nextBalance r) (s.nextUrgent r) (s.engine ch).resetMark := by
  have hnone : (∀ x ∈ (s.queue ch).tasks, x.rank = r → x.kind ≠ TaskKind.refresh) ↔ s.debtOf ch r = [] := by
    rw [State.debtOf_eq, List.map_eq_nil_iff, List.filter_eq_nil_iff]
    simp [Task.isDebtOf]
  rw [State.debtOf_eq, State.queue_setQueue_self, State.expiryQueue, debtAfter]
  simp only [hnone]
  have hclass := Queue.reclassed_debt (s.queue ch) r (s.nextUrgent r)
  rw [← State.debtOf_eq] at hclass
  split
  · simp only [Queue.insert, List.filter_append, List.map_append, hclass]
    simp [Task.isDebtOf]
  · rw [hclass, List.append_nil]

/-- The planner's part in a band written, seen from the rank (R27). -/
theorem State.SameAccount.withBand {r : Slot} {ch : Chan} {s t : State} (h : State.SameAccount r ch s t) (b : Band) :
    State.SameAccount r ch (s.withBand r ch b) (t.withBand r ch b) := by
  obtain ⟨hrank, hdebt, hengine, hnow, htiming, hpolicy⟩ := h
  have hcuts : t.cutsInterval r b = s.cutsInterval r b := by
    funext it
    simp only [State.cutsInterval, hrank, htiming]
  have hexpires : t.expiresBy r b = s.expiresBy r b := by simp only [State.expiresBy, hcuts, hrank, htiming, hnow]
  have hbalance : t.nextBalance r = s.nextBalance r := by simp only [State.nextBalance, hrank, hpolicy]
  have hurgent : t.nextUrgent r = s.nextUrgent r := by simp only [State.nextUrgent, hbalance, hpolicy]
  have hoverruns : t.nextOverruns r = s.nextOverruns r := by simp only [State.nextOverruns, hrank, hpolicy]
  cases hcase : s.expiresBy r b with
  | true =>
    rw [State.withBand_of_expires hcase, State.withBand_of_expires (hexpires.trans hcase), State.expiryNoticed_frame s,
      State.expiryNoticed_frame t]
    refine ⟨?_, ?_, hengine, hnow, htiming, hpolicy⟩
    · simp only [State.rank_of_setQueue, State.rank_setRank_self, State.bandExpiryRank, hrank, hbalance, hoverruns, hurgent, hnow, htiming]
    · rw [State.debtOf_expiry, State.debtOf_expiry, hdebt, hbalance, hurgent, hengine]
  | false =>
    rw [State.withBand_of_running hcase, State.withBand_of_running (hexpires.trans hcase)]
    refine ⟨?_, hdebt, hengine, hnow, htiming, hpolicy⟩
    simp only [State.rank_setRank_self, State.bandRank, hrank, hcuts, htiming]

/-- The band a rank has changes nothing when it is written again. -/
theorem State.withBand_same (s : State) (r : Slot) (ch : Chan) : s.withBand r ch (s.rank r).band = s := by
  have hcuts : ∀ it, s.cutsInterval r (s.rank r).band it = false := fun it => by simp [State.cutsInterval]
  have hexpires : s.expiresBy r (s.rank r).band = false := by
    unfold State.expiresBy
    simp only [hcuts, Bool.false_and]
    cases (s.rank r).interval <;> rfl
  rw [State.withBand_of_running hexpires]
  simp only [State.bandRank, hcuts, Bool.false_eq_true, if_false, Option.map_id']
  exact State.setRank_rank_same s r

theorem State.KeepsTasks.sameDebt {s t : State} {r : Slot} (h : s.KeepsTasks (fun x => x.isDebtOf r) t) (ch : Chan) :
    t.debtOf ch r = s.debtOf ch r := by
  rw [State.debtOf_eq, State.debtOf_eq, h ch]

/-- A band handed on leaves every other rank's account (R65). -/
theorem State.handBand_sameAccount (s : State) {q r : Slot} (hq : q ≠ r) (ch : Chan) (old new : Band) :
    State.SameAccount r ch s (s.handBand q old new) := by
  have hquiet := s.handBand_quiet (free := False) q old new
  have hplanned := s.bandToPlanner_planned q old new
  have hplanner : s.KeepsTasks (fun x => x.isDebtOf r) (s.bandToPlanner q old new) := State.KeepsTasks.mono (by exact hplanned.tasks) fun x hx => by
    have hx : x.rank = r ∧ x.kind = .refresh := by simpa [Task.isDebtOf] using hx
    simp [hx.1, hq.symm]
  have hpower : ∀ u : State, u.KeepsTasks (fun x => x.isDebtOf r) (u.criticalBand q) := fun u => u.criticalBand_keeps q fun x hx => by
    have hx : x.rank = r ∧ x.kind = .refresh := by simpa [Task.isDebtOf] using hx
    exact .inl (by rw [hx.2]; rfl)
  refine ⟨?_, ?_, hquiet.engine_eq ch, hquiet.now_eq, hquiet.timing_eq, hquiet.policy_eq⟩
  · unfold State.handBand
    split
    · rfl
    · simp only
      split
      · rw [State.criticalBand_frame]
        exact hplanned.others r hq.symm
      · exact hplanned.others r hq.symm
  · unfold State.handBand
    split
    · rfl
    · simp only
      split
      · exact (hplanner.trans (hpower _)).sameDebt ch
      · exact hplanner.sameDebt ch

theorem State.SameAccount.setRank (s : State) {q r : Slot} (hq : q ≠ r) (ch : Chan) (k : Rank) : State.SameAccount r ch s (s.setRank q k) :=
  ⟨State.rank_setRank_ne s k hq.symm, rfl, rfl, rfl, rfl, rfl⟩

theorem State.changeBand_sameAccount (s : State) {q r : Slot} (hq : q ≠ r) (ch : Chan) (b : Band) :
    State.SameAccount r ch s (s.changeBand q b) :=
  (State.SameAccount.setRank s hq ch _).trans (State.handBand_sameAccount _ hq ch _ b)

theorem State.powerTakes_sameAccount (s : State) (r q : Slot) (ch : Chan) (critical : Prop) [Decidable critical] :
    State.SameAccount r ch s (s.powerTakes q critical) := by
  refine ⟨?_, ?_, ?_, ?_, ?_, ?_⟩
  · rw [State.powerTakes_frame]; rfl
  · rw [State.debtOf, State.powerTakes_refreshTasks]; rfl
  all_goals rw [State.powerTakes_frame]
  rfl

/-- A record in which the planner's fields alone differ (R25 to R27). -/
def Rank.PlannedTo (k l : Rank) : Prop :=
  l = { k with balance := l.balance, overruns := l.overruns, urgent := l.urgent, interval := l.interval }

/-- The rank's own record after its band is handed on (R65). -/
theorem State.handBand_rank (s : State) (r : Slot) (old new : Band) : (s.rank r).PlannedTo ((s.handBand r old new).rank r) := by
  have hplanned := (s.bandToPlanner_planned r old new).rank
  have hpower : ∀ u : State, (u.criticalBand r).rank r = u.rank r := fun u => by rw [State.criticalBand_frame]; rfl
  unfold State.handBand
  split
  · rfl
  · simp only
    split
    · rw [hpower]
      exact hplanned
    · exact hplanned

theorem foldl_slots {P : State → State → Prop} (hrefl : ∀ s, P s s) (htrans : ∀ {s t u}, P s t → P t u → P s u) {f : State → Slot → State} {r : Slot}
    (hf : ∀ s q, q ≠ r → P s (f s q)) (l : List Slot) (hl : r ∉ l) (s : State) : P s (l.foldl f s) := by
  induction l generalizing s with
  | nil => exact hrefl s
  | cons q l ih =>
    obtain ⟨hq, hl⟩ := not_or.mp (List.mem_cons.not.mp hl)
    exact htrans (hf s q fun h => hq h.symm) (ih hl _)

/-- A fold over the slots, cut at one of them. -/
theorem foldl_allSlots_cut (f : State → Slot → State) (r : Slot) (s : State) : ∃ before after : List Slot, r ∉ before ∧ r ∉ after ∧
    allSlots.foldl f s = after.foldl f (f (before.foldl f s) r) := by
  have hnodup : allSlots.Nodup := by decide
  obtain ⟨before, after, hsplit⟩ := List.append_of_mem (mem_allSlots r)
  rw [hsplit, List.nodup_append, List.nodup_cons] at hnodup
  refine ⟨before, after, fun h => hnodup.2.2 r h r List.mem_cons_self rfl, hnodup.2.1.1, ?_⟩
  rw [hsplit, List.foldl_append, List.foldl_cons]

/-! ### SET_THERMAL -/

theorem State.takeFallback_retains (tag : Tag) (s : State) (r : Slot) : State.Retains tag s (s.takeFallback r) := by
  unfold State.takeFallback
  simp only
  split
  · exact s.changeBand_retains tag r _
  · exact .refl s

theorem State.takeFallback_sameAccount (s : State) {q r : Slot} (hq : q ≠ r) (ch : Chan) : State.SameAccount r ch s (s.takeFallback q) := by
  unfold State.takeFallback
  simp only
  split
  · exact s.changeBand_sameAccount hq ch _
  · exact .refl r ch s

/-- Whether a rank takes a new FallbackBand (R67). -/
abbrev Rank.onFallbackBand (k : Rank) : Prop := k.sensorStatus = .unread ∨ k.sensorStatus = .failed ∨ k.bandSource = .fallback

/-- A new FallbackBand taken by the slots in order, seen from one of them (R67). -/
theorem State.foldl_takeFallback (s : State) (r : Slot) (ch : Chan) :
    let t := allSlots.foldl State.takeFallback s
    let b := if (s.rank r).onFallbackBand then s.thermal.fallbackBand else (s.rank r).band
    Rank.PlannedTo { s.rank r with band := b } (t.rank r) ∧
    ((s.rank r).channel = some ch → ((s.rank r).interval.isSome = true → (s.rank r).state.served = true) →
      State.SameAccount r ch (s.withBand r ch b) t) := by
  obtain ⟨before, after, hbefore, hafter, hcut⟩ := foldl_allSlots_cut State.takeFallback r s
  have haccount : ∀ (l : List Slot) (hl : r ∉ l) (u : State), State.SameAccount r ch u (l.foldl State.takeFallback u) :=
    foldl_slots (State.SameAccount.refl r ch) State.SameAccount.trans fun u q hq => u.takeFallback_sameAccount hq ch
  have hthermal : ∀ (l : List Slot) (u : State), (l.foldl State.takeFallback u).thermal = u.thermal := fun l u =>
    (State.Quiet.foldl (free := False) _ l u State.takeFallback_quiet).thermal_eq
  intro t b
  have hfirst := haccount before hbefore s
  have hlast := haccount after hafter ((before.foldl State.takeFallback s).takeFallback r)
  rw [← hcut] at hlast
  have hthermal := hthermal before s
  generalize before.foldl State.takeFallback s = u at hfirst hlast hthermal
  have htake : u.takeFallback r = if (s.rank r).onFallbackBand then u.changeBand r s.thermal.fallbackBand else u := by
    unfold State.takeFallback
    simp only [hfirst.rank, hthermal]
  refine ⟨?_, fun hch hserved => ?_⟩
  · show Rank.PlannedTo _ ((allSlots.foldl State.takeFallback s).rank r)
    rw [hlast.rank, htake]
    split
    · next h =>
      have hrank := State.handBand_rank (u.setRank r { u.rank r with band := s.thermal.fallbackBand }) r (u.rank r).band s.thermal.fallbackBand
      rw [State.rank_setRank_self, hfirst.rank] at hrank
      simp only [b, if_pos h]
      rw [State.changeBand, hfirst.rank]
      exact hrank
    · next h =>
      simp only [b, if_neg h]
      rw [hfirst.rank]
      rfl
  · refine State.SameAccount.trans ?_ hlast
    rw [htake]
    split
    · next h =>
      rw [State.changeBand_eq (ch := ch) (by rw [hfirst.rank]; exact hch) (by rw [hfirst.rank]; exact hserved)]
      simp only [b, if_pos h]
      exact (hfirst.withBand _).trans (State.powerTakes_sameAccount _ r r ch _)
    · next h =>
      simp only [b, if_neg h, State.withBand_same]
      exact hfirst

/-- The same fold after the settings are replaced (R67). -/
theorem State.foldl_takeFallback_thermal (s : State) (th : Thermal) (r : Slot) (ch : Chan) :
    Rank.PlannedTo { s.rank r with band := if (s.rank r).onFallbackBand then th.fallbackBand else (s.rank r).band }
      ((allSlots.foldl State.takeFallback { s with thermal := th }).rank r) ∧
    ((s.rank r).channel = some ch → ((s.rank r).interval.isSome = true → (s.rank r).state.served = true) →
      State.SameAccount r ch (s.withBand r ch (if (s.rank r).onFallbackBand then th.fallbackBand else (s.rank r).band))
        (allSlots.foldl State.takeFallback { s with thermal := th })) := by
  obtain ⟨hplanned, haccount⟩ := State.foldl_takeFallback { s with thermal := th } r ch
  have hsame : State.SameAccount r ch s { s with thermal := th } := ⟨rfl, rfl, rfl, rfl, rfl, rfl⟩
  exact ⟨hplanned, fun hch hserved => (hsame.withBand _).trans (haccount hch hserved)⟩

theorem takeCommand_setThermal {u : State} {tag : Tag} {f : ThermalFields} (h : ∀ p ∈ thermalChecks f, p.2 = true) :
    takeCommand tag (.setThermal f) u =
      ((allSlots.foldl State.takeFallback { u with thermal := thermalOf f }).resumePolling).complete tag .done .none := by
  show runSetThermal tag f u = _
  unfold runSetThermal
  simp only [firstBad_of_all h]

theorem State.resumePolling_eq (s : State) : s.resumePolling = s.setMonitor (if s.monitor.polling = true then s.monitor
    else { s.monitor with polling := true, pollTimer := some (s.now + s.thermal.pollPeriod) }) := by
  unfold State.resumePolling
  split
  · rfl
  · rfl

theorem thermalOf_eq {f : ThermalFields} {b : Band} (h : ∀ p ∈ thermalChecks f, p.2 = true) (hb : bandOf f.fallbackBand = some b) : thermalOf f =
    { rise1 := f.rise1.toInt, rise2 := f.rise2.toInt, rise3 := f.rise3.toInt, hyst := f.hyst.toNat, pollPeriod := f.pollPeriod.toNat
      fallbackBand := b, calDrift := f.calDrift.toNat, busSpeed := if f.busSpeed = 0 then .khz100 else .khz400 } := by
  have hspeed : (busSpeedOf f.busSpeed).isSome = true := h (position 4 0, (busSpeedOf f.busSpeed).isSome) (by simp [thermalChecks])
  have hspeed' : (busSpeedOf f.busSpeed).getD .khz100 = if f.busSpeed = 0 then .khz100 else .khz400 := by
    unfold busSpeedOf at hspeed ⊢
    split_ifs at hspeed ⊢
    · rfl
    · rfl
    · cases hspeed
  rw [thermalOf, hb, hspeed']
  rfl

theorem State.Retains.thermal (tag : Tag) (s : State) (th : Thermal) : State.Retains tag s { s with thermal := th } := .of_eq rfl rfl rfl rfl

/-- What a command leaves that completes at the end of its event, its own record last (R172, R175). -/
theorem exec_completed_last {s v : State} {tag : Tag} {c : HostCommand} {status : Status} {detail : Detail} (hadmits : s.Admits tag)
    (hfresh : s.Fresh tag) (h : takeCommand tag c (s.taken tag c) = v.complete tag status detail)
    (hretains : State.Retains tag (s.taken tag c) v) :
    ∃ t, exec (c.instr tag) s = .next t ∧ t.ranks = v.ranks ∧ t.groups = v.groups ∧ t.queues = v.queues ∧ t.engines = v.engines ∧
      t.monitor = v.monitor ∧ t.thermal = v.thermal ∧ t.lost = v.lost ∧
      t.records = v.records ++ [s.completionOf tag c status detail] := by
  obtain ⟨-, -, hunused, -⟩ := id hadmits
  obtain ⟨-, hentry, htime⟩ := hretains hfresh
  have hcomplete : (v.complete tag status detail).records = v.records ++ [s.completionOf tag c status detail] := by
    simp only [State.complete, hentry.trans (State.outEntry_taken hunused c), htime]
    rfl
  refine ⟨_, exec_admitted hadmits h, ?_, ?_, ?_, ?_, ?_, ?_, ?_, ?_⟩
  case refine_8 => rw [State.settle_frame]; exact hcomplete
  all_goals rw [State.settle_frame, State.complete_frame]

/-- Settles O15: the slots take the new FallbackBand in order, each as if it were alone, and polling resumes. -/
theorem setThermal : Obligations.SetThermal := by
  intro s tag f fb hadmits hfresh hchecks hfb
  have htake := takeCommand_setThermal (u := s.taken tag (.setThermal f)) (tag := tag) hchecks
  have hthermal := thermalOf_eq hchecks hfb
  have hfallback : (thermalOf f).fallbackBand = fb := by rw [hthermal]
  have hperiod : (thermalOf f).pollPeriod = f.pollPeriod.toNat := rfl
  generalize thermalOf f = th at htake hthermal hfallback hperiod
  have hfold := (s.taken tag (.setThermal f)).foldl_takeFallback_thermal th
  have hquiet : State.Quiet False { s.taken tag (.setThermal f) with thermal := th }
      (allSlots.foldl State.takeFallback { s.taken tag (.setThermal f) with thermal := th }) :=
    .foldl _ _ _ State.takeFallback_quiet
  have hretains := (State.Retains.thermal tag (s.taken tag (.setThermal f)) th).trans
    (State.Retains.foldl State.takeFallback allSlots _ fun u r _ => u.takeFallback_retains tag r)
  generalize allSlots.foldl State.takeFallback { s.taken tag (.setThermal f) with thermal := th } = u at htake hfold hquiet hretains
  rw [State.resumePolling_eq, hquiet.monitor_eq, hquiet.now_eq, hquiet.thermal_eq] at htake
  have hthermal' : u.thermal = th := hquiet.thermal_eq
  simp only [State.rank_of_taken, hfallback] at hfold
  clear hquiet
  obtain ⟨t, hexec, hranks, -, hqueues, -, hmonitor, hthermalt, -, hrecords⟩ := exec_completed_last (c := .setThermal f) hadmits hfresh htake
    (hretains.trans (.of_eq rfl rfl rfl rfl))
  have hrank : ∀ r, t.rank r = u.rank r := fun r => by rw [State.rank, hranks]; rfl
  refine ⟨t, hexec, hthermalt.trans (hthermal'.trans hthermal), hmonitor.trans ?_, fun r => ?_, ?_⟩
  · rw [← hperiod]
    rfl
  · obtain ⟨hplanned, -⟩ := hfold r .a
    have hband : (u.rank r).band = if (s.rank r).onFallbackBand then fb else (s.rank r).band := by rw [hplanned]
    rw [hrank r]
    refine ⟨hband, by rw [hplanned], by rw [hplanned], by rw [hplanned], fun ch hch hserved => ?_⟩
    obtain ⟨-, haccount⟩ := hfold r ch
    obtain ⟨hsame, hdebt, -⟩ := haccount hch hserved
    rw [hband]
    refine ⟨hsame, Eq.trans ?_ hdebt⟩
    show t.debtOf ch r = u.debtOf ch r
    rw [State.debtOf, State.refreshTasks, State.queue, hqueues]
    rfl
  · rw [hrecords, List.getLast?_append, List.getLast?_singleton]
    rfl
end Sys2Proof.Machine
end

section
/-! SUPPORT and the proofs of O43, O44: the ends of read attempts and of bus recovery, with the bands and the requests they hand on (R50 to R62, R65, R90). -/

namespace Sys2Proof.Machine

-- Proofs are elaborated one after the other, which bounds the memory a compile reserves.
set_option Elab.async false

/-! ### A band handed on from a sensor's event -/

theorem State.HandedOn.refl (s : State) (r : Slot) : s.HandedOn r s :=
  ⟨rfl, rfl, rfl, rfl, Nat.min_le_right _ _, fun _ _ h => h, .refl s, fun _ _ => rfl⟩

theorem State.HandedOn.setRank {s v : State} {r : Slot} (h : s.HandedOn r v) {k : Rank} (hchannel : k.channel = (v.rank r).channel)
    (hstate : k.state = (v.rank r).state) : s.HandedOn r (v.setRank r k) := by
  obtain ⟨hc, hs, htime, hengines, hlost, hentries, hpower, hdeep⟩ := h
  refine ⟨?_, ?_, htime, hengines, hlost, hentries, hpower, hdeep⟩
  · rw [State.rank_setRank_self, hchannel, hc]
  · rw [State.rank_setRank_self, hstate, hs]

theorem State.HandedOn.notice {s v : State} {r : Slot} (h : s.HandedOn r v) (b : Notice) : s.HandedOn r (v.notice b) := by
  obtain ⟨hc, hs, htime, hengines, hlost, hentries, hpower, hdeep⟩ := h
  have hmore : min 255 v.lost ≤ (v.notice b).lost := by
    obtain h | h := v.notice_lost b <;> omega
  refine ⟨?_, ?_, ?_, ?_, by omega, fun tag e he => ?_, hpower.trans (.notice v b), fun hd hi => ?_⟩
  · rw [State.rank_of_notice, hc]
  · rw [State.rank_of_notice, hs]
  · rw [State.notice_timestamp, htime]
  · rw [State.notice_frame]; exact hengines
  · rw [State.notice_frame]; exact hentries tag e he
  · rw [State.notice_frame]; exact hdeep hd hi

theorem Task.other_of_power {x : Task} (h : x.kind.place = .power) : x.other = true := by
  rw [Task.other, bne_iff_ne]
  intro hkind
  rw [hkind] at h
  cases h

/-- A stopped interval timer keeps the planner out of a band change (R27). -/
theorem State.bandToPlanner_of_stopped {s : State} {r : Slot} (h : (s.rank r).interval = none) (old new : Band) :
    s.bandToPlanner r old new = s := by
  simp only [State.bandToPlanner, h]

theorem State.HandedOn.bandToPlanner {s v : State} {r : Slot} (h : s.HandedOn r v)
    (hinterval : (s.rank r).interval = none → (v.rank r).interval = none) (old new : Band) : s.HandedOn r (v.bandToPlanner r old new) := by
  have hstopped : (v.rank r).interval = none → v.bandToPlanner r old new = v := fun h => State.bandToPlanner_of_stopped h old new
  obtain ⟨hc, hs, htime, hengines, hlost, hentries, hpower, hdeep⟩ := h
  obtain ⟨hframe, hrank, -, htasks, -, hmore⟩ := v.bandToPlanner_planned r old new
  refine ⟨by rw [hrank, hc], by rw [hrank, hs], by rw [hframe]; exact htime, by rw [hframe]; exact hengines,
    (le_min (Nat.min_le_left _ _) hlost).trans hmore, fun tag e he => by rw [hframe]; exact hentries tag e he,
    hpower.trans (htasks.mono fun x hx => ?_), fun hd hi => ?_⟩
  · simp [Task.other_of_power (of_decide_eq_true hx).2]
  · rw [hstopped (hinterval hi)]
    exact hdeep hd hi

theorem State.KeepsPower.refl (u : State) (r : Slot) : u.KeepsPower r u := ⟨List.prefix_rfl, le_rfl, .refl u, fun _ => rfl⟩

theorem State.KeepsPower.settle {u t : State} {r : Slot} (h : u.KeepsPower r t) : u.KeepsPower r t.settle := by
  obtain ⟨hrecords, hlost, hpower, hdeep⟩ := h
  rw [State.settle_frame]
  exact ⟨hrecords, hlost, hpower, hdeep⟩

/-- A band that changes to 3 reaches the power logic (R65). -/
theorem State.changeBand_critical {s : State} {r : Slot} (h : (s.rank r).band ≠ 3) :
    s.changeBand r 3 = ((s.setRank r { s.rank r with band := 3 }).bandToPlanner r (s.rank r).band 3).criticalBand r := by
  simp only [State.changeBand, State.handBand, if_neg h, if_true]

/-- A band that changes in a sensor's event is taken by the rank's power work where it becomes 3 (R65, R107). -/
theorem State.HandedOn.takesCriticalBand {s u t : State} {r : Slot} (h : s.HandedOn r u)
    (hinterval : (s.rank r).interval = none → (u.rank r).interval = none) (hband : (u.rank r).band ≠ 3)
    (ht : (u.changeBand r 3).KeepsPower r t) : s.TakesCriticalBand t r := by
  rw [State.changeBand_critical hband] at ht
  have hset : s.HandedOn r (u.setRank r { u.rank r with band := 3 }) := h.setRank rfl rfl
  refine State.takesCriticalBand (hset.bandToPlanner (fun hi => ?_) _ _) ht
  rw [State.rank_setRank_self]
  exact hinterval hi

/-- What a band handed on leaves of the ranks, the records and the queues (R65). -/
theorem State.handsOn_of_changeBand {u t : State} {r : Slot} {ch : Chan} {b : Band} {further : Prop} (hch : (u.rank r).channel = some ch)
    (hserved : (u.rank r).interval.isSome = true → (u.rank r).state.served = true) (hcritical : b = 3 ∧ (u.rank r).band ≠ 3 → further)
    (hranks : t.ranks = (u.changeBand r b).ranks) (hrecords : (u.changeBand r b).records <+: t.records)
    (htasks : ∀ d, t.refreshTasks d = (u.changeBand r b).refreshTasks d) (hcalm : ¬further → t = (u.changeBand r b).settle) :
    (u.withBand r ch b).HandsOn t further := by
  rw [State.changeBand_eq hch hserved] at hranks hrecords htasks hcalm
  refine ⟨?_, (State.powerTakes_records _ _ _).trans hrecords, fun d => (htasks d).trans (State.powerTakes_refreshTasks _ _ _ d), fun h => ?_⟩
  · rw [hranks, State.powerTakes_frame]
  · rw [hcalm h, State.powerTakes, if_neg fun h' => h (hcritical h')]

/-- The rank's own record after its band is written and handed on (R65). -/
theorem State.changeBand_rank (s : State) (r : Slot) (b : Band) : Rank.PlannedTo { s.rank r with band := b } ((s.changeBand r b).rank r) := by
  have h := State.handBand_rank (s.setRank r { s.rank r with band := b }) r (s.rank r).band b
  rwa [State.rank_setRank_self] at h

theorem State.changeBand_others (s : State) {r q : Slot} (hq : q ≠ r) (b : Band) : (s.changeBand r b).rank q = s.rank q :=
  (State.changeBand_sameAccount s hq.symm .a b).rank

theorem State.changeBand_records (s : State) (r : Slot) (b : Band) : s.records <+: (s.changeBand r b).records :=
  (s.changeBand_quiet (free := False) r b).records

/-! ### A failed read -/

/-- A sensor that has failed, with its notice, before its band is handed on (R55). -/
def State.failureTold (s : State) (r : Slot) (o : ReadOutcome) : State :=
  (s.setRank r { s.rank r with sensorStatus := .failed, lastTemp := none, sensorFailures := 3, bandSource := .fallback }).notice
    (.sensorFailed r (s.rank r).channel o)

theorem State.failureTold_rank (s : State) (r q : Slot) (o : ReadOutcome) : (s.failureTold r o).rank q = if q = r then
    { s.rank r with sensorStatus := .failed, lastTemp := none, sensorFailures := 3, bandSource := .fallback } else s.rank q := by
  rw [State.failureTold, State.rank_of_notice, State.rank_setRank]

theorem State.HandedOn.failureTold {s v : State} {r : Slot} (h : s.HandedOn r v) (o : ReadOutcome) : s.HandedOn r (v.failureTold r o) := by
  have hset : s.HandedOn r (v.setRank r { v.rank r with
      sensorStatus := .failed, lastTemp := none, sensorFailures := 3, bandSource := .fallback }) := h.setRank rfl rfl
  exact hset.notice _

theorem State.failedRead_third {s : State} {r : Slot} (hstatus : (s.rank r).sensorStatus = .unread ∨ (s.rank r).sensorStatus = .good)
    (h : 2 ≤ (s.rank r).sensorFailures) (o : ReadOutcome) : s.failedRead r o = (s.failureTold r o).changeBand r s.thermal.fallbackBand := by
  have hmany : ¬min Config.sensorFailureLimit ((s.rank r).sensorFailures + 1) < Config.sensorFailureLimit := by
    unfold Config.sensorFailureLimit
    omega
  have hlast : (s.setRank r ((s.rank r).onFallback s.thermal.fallbackBand)).notice (.sensorFailed r (s.rank r).channel o) =
      (s.failureTold r o).setRank r { (s.failureTold r o).rank r with band := s.thermal.fallbackBand } := by
    rw [State.failureTold_rank, if_pos rfl, State.failureTold, ← State.setRank_notice, State.setRank_setRank]
    rfl
  have hband : ((s.failureTold r o).rank r).band = (s.rank r).band := by rw [State.failureTold_rank, if_pos rfl]
  unfold State.failedRead
  obtain hs | hs := hstatus <;> simp only [hs, if_neg hmany, hlast, State.changeBand, hband]

theorem State.failedRead_early {s : State} {r : Slot} (hstatus : (s.rank r).sensorStatus = .unread ∨ (s.rank r).sensorStatus = .good)
    (h : (s.rank r).sensorFailures < 2) (o : ReadOutcome) :
    s.failedRead r o = s.setRank r { s.rank r with sensorFailures := (s.rank r).sensorFailures + 1 } := by
  have hcount : min Config.sensorFailureLimit ((s.rank r).sensorFailures + 1) = (s.rank r).sensorFailures + 1 := by
    unfold Config.sensorFailureLimit
    omega
  have hfew : (s.rank r).sensorFailures + 1 < Config.sensorFailureLimit := by
    unfold Config.sensorFailureLimit
    omega
  unfold State.failedRead
  obtain hs | hs := hstatus <;> simp only [hs, hcount, if_pos hfew]

theorem State.failedRead_again {s : State} {r : Slot} (hstatus : (s.rank r).sensorStatus = .failed) (o : ReadOutcome) :
    s.failedRead r o = s.setRank r { s.rank r with sensorFailures := min 3 ((s.rank r).sensorFailures + 1) } := by
  unfold State.failedRead
  simp only [hstatus]
  rfl

/-- The polling state a read leaves behind (R48, R54). -/
def Monitor.ended (m : Monitor) : Monitor := { m with bus := .idle, readSlot := none, discard := false, stopping := false, pulses := 0 }

theorem State.takeOutcome_of_discard {s : State} {r : Slot} (hread : s.monitor.readSlot = some r) (h : s.monitor.discard = true)
    (o : ReadOutcome) : s.takeOutcome o = s.setMonitor s.monitor.ended := by
  simp only [State.takeOutcome, hread, h, if_true]
  rfl

theorem State.takeOutcome_of_failure {s : State} {r : Slot} (hread : s.monitor.readSlot = some r) (h : s.monitor.discard = false)
    {o : ReadOutcome} (ho : ∀ t, o ≠ .good t) : s.takeOutcome o = (s.setMonitor s.monitor.ended).failedRead r o := by
  unfold State.takeOutcome
  simp only [hread, h, Bool.false_eq_true, if_false]
  cases o with
  | good t => exact absurd rfl (ho t)
  | noAck | invalid | outOfRange | busFault => rfl

theorem State.takeOutcome_of_good {s : State} {r : Slot} (hread : s.monitor.readSlot = some r) (h : s.monitor.discard = false) (t : Temp) :
    s.takeOutcome (.good t) = (s.setMonitor s.monitor.ended).goodSample r t := by
  simp only [State.takeOutcome, hread, h, Bool.false_eq_true, if_false]
  rfl

/-- A record whose balance is kept leaves the conditions taken. -/
theorem State.Settled.setRank {s : State} (h : s.Settled) (r : Slot) {k : Rank} (hk : k.balance = (s.rank r).balance) : (s.setRank r k).Settled := by
  refine h.congr rfl rfl rfl rfl rfl fun c x _ => ?_
  rw [State.rank_setRank]
  split
  · next hx => rw [hx, hk]
  · rfl

/-- What a read that fails leaves (R53, R55). -/
theorem State.failsRead {s : State} {r : Slot} (hsettled : s.Settled) (hread : s.monitor.readSlot = some r) {o : ReadOutcome}
    (ho : ∀ t, o ≠ .good t) (due : Nat) :
    s.FailsRead r o (max s.now due) s.monitor.ended (.next ((s.reach due).takeOutcome o).settle) := by
  have hkeep : ((s.reach due).setMonitor s.monitor.ended).Settled := (hsettled.reach due).setMonitor _
  refine ⟨fun hdiscard => ?_, fun hdiscard => ?_⟩
  · rw [State.takeOutcome_of_discard (s := s.reach due) hread hdiscard, State.reach_monitor, State.settle_of_settled _ hkeep]
    rfl
  · have htake : (s.reach due).takeOutcome o = ((s.reach due).setMonitor s.monitor.ended).failedRead r o :=
      State.takeOutcome_of_failure (s := s.reach due) hread hdiscard ho
    rw [htake]
    have hout : ∀ q, ((s.reach due).setMonitor s.monitor.ended).rank q = s.rank q := fun _ => rfl
    have hbase : ∀ k : Rank, ({ s with now := max s.now due, monitor := s.monitor.ended, ranks := s.ranks.set r k } : State) =
      ((s.reach due).setMonitor s.monitor.ended).setRank r k := fun _ => rfl
    have hhanded : s.HandedOn r ((s.reach due).setMonitor s.monitor.ended) :=
      ⟨rfl, rfl, rfl, rfl, Nat.min_le_right _ _, fun _ _ h => h, .refl s, fun _ _ => rfl⟩
    have hrecords : ((s.reach due).setMonitor s.monitor.ended).SameReports s := ⟨rfl, rfl, rfl, rfl⟩
    have hthermal : ((s.reach due).setMonitor s.monitor.ended).thermal = s.thermal := rfl
    have hmonitor : ((s.reach due).setMonitor s.monitor.ended).monitor = s.monitor.ended := rfl
    simp only [hbase]
    generalize (s.reach due).setMonitor s.monitor.ended = v at hkeep hout hbase hhanded hrecords hthermal hmonitor
    simp only [← hout]
    refine ⟨fun hstatus hfew => ?_, fun hstatus => ?_, fun hstatus hmany => ?_⟩
    · rw [State.failedRead_early hstatus hfew]
      exact congrArg _ (State.settle_of_settled _ (hkeep.setRank r rfl))
    · rw [State.failedRead_again hstatus]
      exact congrArg _ (State.settle_of_settled _ (hkeep.setRank r rfl))
    · have hown : (v.failureTold r o).rank r =
          { v.rank r with sensorStatus := .failed, lastTemp := none, sensorFailures := 3, bandSource := .fallback } := by
        rw [State.failureTold_rank, if_pos rfl]
      have hquiet := (v.failureTold r o).changeBand_quiet (free := False) r s.thermal.fallbackBand
      have htoldmonitor : (v.failureTold r o).monitor = v.monitor := by rw [State.failureTold, State.notice_frame]; rfl
      have hplanned := (v.failureTold r o).changeBand_rank r s.thermal.fallbackBand
      rw [hown] at hplanned
      have hsettle : ∀ u : State, ∀ q, u.settle.rank q = u.rank q := fun u q => by rw [State.settle_frame]; rfl
      rw [State.failedRead_third hstatus hmany, hthermal]
      refine ⟨_, rfl, ?_, fun q hq => ?_, ?_, ?_, ?_, ?_, ?_, ?_, ?_, fun hband hfallback => ?_, fun ch hch hserved => ?_⟩
      · rw [State.settle_frame]
        exact hquiet.monitor_eq.trans (htoldmonitor.trans hmonitor)
      · rw [hsettle, State.changeBand_others _ hq, State.failureTold_rank, if_neg hq]
      · rw [hsettle, hplanned]
      · rw [hsettle, hplanned]
      · rw [hsettle, hplanned]
      · rw [hsettle, hplanned]
      · rw [hsettle, hplanned]
      · rw [hsettle, hplanned]
      · have htold : (s.notice (.sensorFailed r (v.rank r).channel o)).records = (v.failureTold r o).records :=
          (((hrecords.trans (u := s) ⟨rfl, rfl, rfl, rfl⟩).notice _).records).trans (by
            rw [State.failureTold, State.setRank_notice]; rfl)
        rw [htold, State.settle_frame]
        exact State.changeBand_records _ r _
      · rw [hfallback]
        refine State.HandedOn.takesCriticalBand (hhanded.failureTold o) (fun hi => ?_) ?_
          (.settle (.refl _ r))
        · rw [hown, hout]
          exact hi
        · rw [hown]
          exact hband
      · have htold : (v.setRank r { v.rank r with
            sensorStatus := .failed, lastTemp := none, sensorFailures := 3, bandSource := .fallback }).notice (.sensorFailed r (some ch) o) =
              v.failureTold r o := by
          rw [State.failureTold, hch]
        rw [htold]
        refine State.handsOn_of_changeBand (by rw [hown]; exact hch) (by rw [hown]; exact hserved) (fun h => ?_) ?_ ?_ (fun d => ?_) fun _ => rfl
        · exact ⟨by rw [hown] at h; exact h.2, h.1⟩
        · rw [State.settle_frame]
        · rw [State.settle_frame]
        · rw [State.settle_frame]
          rfl

/-! ### The drift check -/

/-- Whether a good sample asks for a calibration (R90). -/
abbrev Rank.driftsAt (k : Rank) (th : Thermal) (t : Temp) : Prop :=
  th.calDrift ≠ 0 ∧ (k.state = .online ∨ k.state = .nap) ∧ k.calStatus = .valid ∧ ∃ t0 ∈ k.calTemp, th.calDrift ≤ (t - t0).natAbs

theorem State.driftCheck_of_not {s : State} {r : Slot} {t : Temp} (h : ¬(s.rank r).driftsAt s.thermal t) : s.driftCheck r t = s := by
  unfold State.driftCheck
  simp only
  split
  · rfl
  · next t0 ht0 =>
    refine if_neg fun ⟨hon, hstate, hvalid, hfar⟩ => h ⟨hon, hstate, hvalid, t0, ht0, hfar⟩

/-- A drift makes a SHORT request in the rank's group (R75, R90). -/
theorem State.driftCheck_of_drift {s : State} {r : Slot} {t : Temp} (h : (s.rank r).driftsAt s.thermal t) {g : GroupId}
    (hg : (s.rank r).group = some g) : s.driftCheck r t = s.requestIn g r .short .drift none := by
  obtain ⟨hon, hstate, hvalid, t0, ht0, hfar⟩ := h
  have hserved : (s.rank r).state.served = true := by obtain h | h := hstate <;> (rw [h]; rfl)
  rw [← State.internalRequest_eq hserved hg]
  unfold State.driftCheck
  simp only [Option.mem_def.mp ht0]
  exact if_pos ⟨hon, hstate, hvalid, hfar⟩

theorem State.driftCheck_frame (s : State) (r : Slot) (t : Temp) :
    s.driftCheck r t = { s with groups := (s.driftCheck r t).groups, queues := (s.driftCheck r t).queues } := by
  unfold State.driftCheck
  simp only
  split
  · rfl
  · split
    · exact State.internalRequest_frame s r .short .drift
    · rfl

theorem calTaskKind_place (k : CalKind) : (calTaskKind k).place = .calibration := by cases k <;> rfl

/-- A request changes calibration tasks alone (R77, R83). -/
theorem State.requestIn_keepsTasks (s : State) (g : GroupId) (r : Slot) (kind : CalKind) (origin : CalOrigin) (tag : Option Tag)
    {p : Task → Bool} (hp : ∀ x : Task, x.kind.place = .calibration → p x = false) :
    s.KeepsTasks p (s.requestIn g r kind origin tag) := by
  have hscan : ∀ u : State, u.KeepsTasks p (u.scanGroup g) := fun u =>
    (u.scanGroup_grantsOnly g).keeps fun x hx => hp x (TaskKind.place_eq_calibration.mpr hx)
  unfold State.requestIn
  simp only
  split
  · split
    · unfold State.mergeHeld
      split
      · exact .refl s
      · simp only
        split
        · exact .of_queues rfl
        · next c _ =>
          refine State.KeepsTasks.trans (t := s.setGroup g _) (.of_queues rfl) (.mapTasks _ c (fun x => ?_) fun x hx => if_neg fun h => ?_)
          · split
            · next h =>
              rw [hp x h.2, hp]
              exact calTaskKind_place _
            · rfl
          · rw [hp x h.2] at hx
            cases hx
    · exact .refl s
    · exact .refl s
  · split
    · split
      · exact (State.KeepsTasks.of_queues (t := s.mergeWaiting g r _ origin tag) rfl).trans (hscan _)
      · exact .of_queues rfl
    · exact (State.KeepsTasks.of_queues (t := s.joinTail g _) rfl).trans (hscan _)

theorem State.driftCheck_keepsTasks (s : State) (r : Slot) (t : Temp) {p : Task → Bool}
    (hp : ∀ x : Task, x.kind.place = .calibration → p x = false) : s.KeepsTasks p (s.driftCheck r t) := by
  unfold State.driftCheck State.internalRequest State.request
  simp only
  split
  · exact .refl s
  · split
    · split
      · split
        · exact .refl s
        · exact s.requestIn_keepsTasks _ r _ _ _ hp
      · exact .refl s
    · exact .refl s

theorem State.KeepsPower.driftCheck (u : State) (r : Slot) (t : Temp) : u.KeepsPower r (u.driftCheck r t) := by
  refine ⟨?_, ?_, u.driftCheck_keepsTasks r t fun x hx => by simp [hx], fun hdeep => ?_⟩
  · rw [State.driftCheck_frame]
  · rw [State.driftCheck_frame]
  · rw [State.driftCheck_of_not fun h => ?_]
    obtain ⟨-, hstate, -⟩ := h
    rw [hdeep] at hstate
    simp at hstate

/-- The rank of a request has part in its group afterwards (R75 to R78). -/
theorem State.standing_of_scanGroup {s : State} {g : GroupId} {x : Entry} (h : x ∈ (s.group g).waiting) :
    ((s.scanGroup g).group g).holder = some x.rank ∨ ∃ y ∈ ((s.scanGroup g).group g).waiting, y.rank = x.rank := by
  unfold State.scanGroup
  split
  · split
    · exact .inr ⟨x, h, rfl⟩
    · next e he =>
      have hgroup : (s.grant g e).group g = { s.group g with
          state := .held, holder := some e.rank, heldEntry := some e, waiting := (s.group g).waiting.eraseP s.eligible
          tokenTimer := some (s.now + s.timing.tokenHold) } := by
        unfold State.grant
        simp only
        split
        · exact State.group_setGroup_self ..
        · exact State.group_setGroup_self ..
      rw [hgroup]
      by_cases hrank : e.rank = x.rank
      · exact .inl (congrArg some hrank)
      · refine .inr ⟨x, ?_, rfl⟩
        obtain ⟨helig, before, after, hsplit, hbefore⟩ := List.find?_eq_some_iff_append.mp he
        have hx : x ∈ before ++ after := by
          rw [hsplit, List.mem_append, List.mem_cons] at h
          obtain h | rfl | h := h
          · exact List.mem_append_left _ h
          · exact absurd rfl hrank
          · exact List.mem_append_right _ h
        show x ∈ (s.group g).waiting.eraseP s.eligible
        rw [hsplit, List.eraseP_append_right _ fun y hy => by simpa using hbefore y hy, List.eraseP_cons_of_pos helig]
        exact hx
  · exact .inr ⟨x, h, rfl⟩
  · exact .inr ⟨x, h, rfl⟩

theorem State.standing_of_requestIn (s : State) (g : GroupId) (r : Slot) {origin : CalOrigin} (horigin : origin ≠ .host) :
    ((s.requestIn g r .short origin none).group g).holder = some r ∨ ∃ y ∈ ((s.requestIn g r .short origin none).group g).waiting, y.rank = r := by
  by_cases hholder : (s.group g).holder = some r
  · refine .inl ?_
    unfold State.requestIn
    simp only [hholder, if_true]
    split
    · unfold State.mergeHeld
      split
      · exact hholder
      · simp only
        split <;> simpa [State.mapTasks] using hholder
    · exact hholder
    · exact hholder
  · by_cases hwaiting : ∃ e ∈ (s.group g).waiting, e.rank = r
    · refine .inr ?_
      rw [State.requestIn_of_waiting_internal hholder hwaiting _ horigin, State.group_setGroup_self]
      obtain ⟨e, he, hrank⟩ := hwaiting
      refine ⟨_, List.mem_map_of_mem he, ?_⟩
      split <;> exact hrank
    · push Not at hwaiting
      rw [State.requestIn_of_noStanding ⟨hholder, hwaiting⟩]
      have hjoined := State.standing_of_scanGroup (s := s.joinTail g
        { rank := r, kind := (s.rank r).requestKind .short origin, origin := origin, tag := none, revocations := 0 }) (g := g)
        (x := { rank := r, kind := (s.rank r).requestKind .short origin, origin := origin, tag := none, revocations := 0 })
        (by simp [State.joinTail])
      exact hjoined

theorem State.mergeHeld_short_groups (s : State) (g : GroupId) (r : Slot) {origin : CalOrigin} (horigin : origin ≠ .host) :
    (s.mergeHeld g r .short origin none).groups = s.groups := by
  unfold State.mergeHeld
  split
  · rfl
  · next e he =>
    have hsame : s.setGroup g { s.group g with heldEntry := some (e.merge .short origin none) } = s := by
      rw [Entry.merge_of_internal horigin, if_neg (by decide), ← he, State.setGroup_group_same]
    simp only [hsame]
    split <;> rfl

/-- A SHORT internal request of a rank that has part in its group already leaves the groups (R76 to R78). -/
theorem State.requestIn_of_standing {s : State} {g : GroupId} {r : Slot} {origin : CalOrigin} (horigin : origin ≠ .host)
    (hshort : (s.rank r).requestKind .short origin = .short) (h : ¬s.NoStanding g r) : (s.requestIn g r .short origin none).groups = s.groups := by
  by_cases hholder : (s.group g).holder = some r
  · cases hstate : (s.group g).state with
    | free | calibrating => simp only [State.requestIn, hholder, hstate, if_true]
    | held =>
      rw [State.requestIn_of_held hholder hstate, hshort]
      exact s.mergeHeld_short_groups g r horigin
  · have hwaiting : ∃ e ∈ (s.group g).waiting, e.rank = r := by
      by_contra hnone
      push Not at hnone
      exact h ⟨hholder, hnone⟩
    rw [State.requestIn_of_waiting_internal hholder hwaiting _ horigin, hshort]
    simp only [reduceCtorEq, and_false, if_false, List.map_id']
    exact congrArg State.groups (State.setGroup_group_same s g)

/-! ### A good sample -/

/-- A rank's eligibility depends on its state and channel, its power task, its negotiator and its engine's mark (R80). -/
theorem State.eligible_congr {s t : State} (hstate : ∀ q, (t.rank q).state = (s.rank q).state) (hchannel : ∀ q, (t.rank q).channel = (s.rank q).channel)
    (hpower : ∀ q, t.taskAt q .power = s.taskAt q .power) (hnego : t.negotiators = s.negotiators) (hengines : t.engines = s.engines) :
    t.eligible = s.eligible := by
  have hnego' : ∀ c, t.nego c = s.nego c := fun c => by rw [State.nego, hnego]; rfl
  have hresetting : ∀ c, t.resetting c = s.resetting c := fun c => by simp only [State.resetting, State.engine, hengines]
  funext e
  simp only [State.eligible, State.deepEnterQueued, hstate, hchannel, hpower, hnego', hresetting]

/-- What a scan makes of the groups depends on the groups, the eligible entries, the clock and the hold time alone (R81, R83). -/
theorem State.scanGroup_groups_congr {s t : State} (g : GroupId) (hgroups : t.groups = s.groups) (heligible : t.eligible = s.eligible)
    (hnow : t.now = s.now) (htiming : t.timing = s.timing) : (t.scanGroup g).groups = (s.scanGroup g).groups := by
  have hgroup : t.group g = s.group g := by rw [State.group, hgroups]; rfl
  have hgrant : ∀ e, (t.grant g e).groups = (s.grant g e).groups := by
    intro e
    have hboth : ∀ u : State, (u.grant g e).groups = u.groups.set g { u.group g with
        state := .held, holder := some e.rank, heldEntry := some e, waiting := (u.group g).waiting.eraseP u.eligible
        tokenTimer := some (u.now + u.timing.tokenHold) } := by
      intro u
      unfold State.grant
      simp only
      split <;> rfl
    rw [hboth, hboth, hgroups, hgroup, heligible, hnow, htiming]
  unfold State.scanGroup
  rw [hgroup, heligible]
  cases (s.group g).state with
  | held | calibrating => exact hgroups
  | free =>
    simp only
    cases (s.group g).waiting.find? s.eligible with
    | none => exact hgroups
    | some e => exact hgrant e

/-- A rank that holds the token after a scan, and had one entry in the list alone, has that entry's calibration queued (R83). -/
theorem State.queued_of_granted {s : State} {g : GroupId} {x : Entry} {ch : Chan} (hholder : (s.group g).holder ≠ some x.rank)
    (honly : ∀ e ∈ (s.group g).waiting, e.rank = x.rank → e = x) (hch : (s.rank x.rank).channel = some ch)
    (h : ((s.scanGroup g).group g).holder = some x.rank) : ∃ n, { x.toTask with seq := n } ∈ ((s.scanGroup g).queue ch).tasks := by
  cases hstate : (s.group g).state with
  | held | calibrating =>
    rw [State.scanGroup_of_taken s g (by rw [hstate]; decide)] at h
    exact absurd h hholder
  | free =>
    cases hfind : (s.group g).waiting.find? s.eligible with
    | none =>
      rw [State.scanGroup_of_none s g hfind] at h
      exact absurd h hholder
    | some e =>
      rw [State.scanGroup_of_some s g e hstate hfind] at h ⊢
      have hrank : e.rank = x.rank := by
        unfold State.grant at h
        simp only at h
        split at h <;> simpa [State.insertTask] using h
      obtain rfl := honly e (List.mem_of_find?_eq_some hfind) hrank
      refine ⟨(s.queue ch).seq, ?_⟩
      simp only [State.grant, hch, State.insertTask, State.queue_setQueue_self]
      exact List.mem_append_right _ (List.mem_singleton.mpr rfl)

theorem State.taskAt_setRank (s : State) (r : Slot) {k : Rank} (hk : k.channel = (s.rank r).channel) (q : Slot) (p : TaskSlot) :
    (s.setRank r k).taskAt q p = s.taskAt q p := by
  have hchannel : ((s.setRank r k).rank q).channel = (s.rank q).channel := by
    rw [State.rank_setRank]
    split
    · next h => rw [hk, h]
    · rfl
  simp only [State.taskAt, hchannel, State.queue_of_setRank]

theorem State.Planned.taskAt_power {s t : State} {r : Slot} (h : s.Planned r t) (q : Slot) : t.taskAt q .power = s.taskAt q .power := by
  refine h.tasks.taskAt_eq ?_ fun x _ hx => by simp [Task.other_of_power hx]
  by_cases hq : q = r
  · rw [hq, h.rank]
  · rw [h.others q hq]

/-- A band that leaves the power logic nothing to take (R65, R107). -/
abbrev State.CalmBand (s : State) (r : Slot) (b : Band) : Prop :=
  b ≠ 3 ∨ (s.rank r).band = 3 ∨ ∀ x, s.taskAt r .power = some x → x.kind ≠ .deepEnter

/-- Written in a rank not in DEEP, such a band is the planner's part alone. -/
theorem State.changeBand_planned {s : State} {r : Slot} {b : Band} (h : s.CalmBand r b) (hdeep : (s.rank r).state ≠ .deep) :
    (s.setRank r { s.rank r with band := b }).Planned r (s.changeBand r b) := by
  have hplanned := (s.setRank r { s.rank r with band := b }).bandToPlanner_planned r (s.rank r).band b
  unfold State.changeBand State.handBand
  split
  · exact .refl _
  · next hold =>
    simp only
    split
    · next hb =>
      obtain h | h | h := h
      · exact absurd hb h
      · exact absurd (h.trans hb.symm) hold
      · generalize (s.setRank r { s.rank r with band := b }).bandToPlanner r (s.rank r).band b = w at hplanned
        have hrank := hplanned.rank
        rw [State.rank_setRank_self] at hrank
        have hpower : w.taskAt r .power = s.taskAt r .power := (hplanned.taskAt_power r).trans (State.taskAt_setRank s r (k := { s.rank r with band := b }) rfl r .power)
        rw [State.criticalBand, if_neg (by rw [hrank]; exact hdeep), State.removeDeepEnter_of_other fun x hx hkind => ?_]
        · exact hplanned
        · exact absurd hkind (h x (hpower ▸ hx))
    · exact hplanned

theorem State.changeBand_groups {s : State} {r : Slot} {b : Band} (h : s.CalmBand r b) : (s.changeBand r b).groups = s.groups := by
  by_cases hdeep : (s.rank r).state = .deep
  · unfold State.changeBand State.handBand
    split
    · rfl
    · simp only
      split
      · rw [State.criticalBand, if_pos]
        · rw [State.bringOut_frame, State.bandToPlanner_frame]
          rfl
        · have hrank := ((s.setRank r { s.rank r with band := b }).bandToPlanner_planned r (s.rank r).band b).rank
          rw [hrank, State.rank_setRank_self]
          exact hdeep
      · rw [State.bandToPlanner_frame]
        rfl
  · rw [(State.changeBand_planned h hdeep).frame]
    rfl

/-- A good sample recorded with its notices, before its band is handed on (R56, R59). -/
def State.sampleTold (s : State) (r : Slot) (t : Temp) (b : Band) : State :=
  let k := s.rank r
  let good := s.setRank r { k with sensorStatus := .good, lastTemp := some t, sensorFailures := 0, bandSource := .sensor }
  let good1 := if k.sensorStatus = .failed then good.notice (.sensorRestored r k.channel t) else good
  if b ≠ k.band then good1.notice (.bandChange r k.channel b) else good1

theorem State.sampleTold_frame (s : State) (r : Slot) (t : Temp) (b : Band) : s.sampleTold r t b = { s.setRank r { s.rank r with
    sensorStatus := .good, lastTemp := some t, sensorFailures := 0, bandSource := .sensor } with
      records := (s.sampleTold r t b).records, lost := (s.sampleTold r t b).lost } := by
  have hnotice : ∀ {w u : State} (n : Notice), u = { w with records := u.records, lost := u.lost } →
      u.notice n = { w with records := (u.notice n).records, lost := (u.notice n).lost } := fun n h => by
    rw [State.notice_frame, h]
  unfold State.sampleTold
  simp only
  split <;> split
  · exact hnotice _ (hnotice _ rfl)
  · exact hnotice _ rfl
  · exact hnotice _ rfl
  · rfl

theorem State.sampleTold_rank (s : State) (r q : Slot) (t : Temp) (b : Band) : (s.sampleTold r t b).rank q = if q = r then
    { s.rank r with sensorStatus := .good, lastTemp := some t, sensorFailures := 0, bandSource := .sensor } else s.rank q := by
  rw [State.sampleTold_frame]
  exact State.rank_setRank s r q _

theorem State.HandedOn.sampleTold {s v : State} {r : Slot} (h : s.HandedOn r v) (t : Temp) (b : Band) : s.HandedOn r (v.sampleTold r t b) := by
  have hset : s.HandedOn r (v.setRank r { v.rank r with
      sensorStatus := .good, lastTemp := some t, sensorFailures := 0, bandSource := .sensor }) := h.setRank rfl rfl
  unfold State.sampleTold
  simp only
  split <;> split
  · exact (hset.notice _).notice _
  · exact hset.notice _
  · exact (hset.notice _)
  · exact hset

theorem State.goodSample_eq (s : State) (r : Slot) (t : Temp) :
    s.goodSample r t = ((s.sampleTold r t (s.bandOfSample r t)).changeBand r (s.bandOfSample r t)).driftCheck r t := by
  have hband : ∀ b, ((s.sampleTold r t b).rank r).band = (s.rank r).band := fun b => by rw [State.sampleTold_rank, if_pos rfl]
  have hrank : ∀ b, ({ (s.sampleTold r t b).rank r with band := b } : Rank) = (s.rank r).withSample t b := fun b => by
    rw [State.sampleTold_rank, if_pos rfl]
    rfl
  rw [State.changeBand, hband, hrank]
  unfold State.goodSample
  extract_lets k b s1 s2 s3
  have hb : s.bandOfSample r t = b := rfl
  have hs3 : s3 = (s.sampleTold r t b).setRank r ((s.rank r).withSample t b) := by
    simp only [s3, s2, s1, State.sampleTold]
    split <;> split <;> simp only [State.setRank_notice, State.setRank_setRank] <;> rfl
  rw [hb, ← hs3]

/-- A band written leaves what decides the other entries' eligibility (R80). -/
theorem State.changeBand_eligible {s : State} {r : Slot} {b : Band} (h : s.CalmBand r b) (hdeep : (s.rank r).state ≠ .deep) :
    (s.changeBand r b).eligible = s.eligible := by
  have hplanned := State.changeBand_planned h hdeep
  refine State.eligible_congr (fun q => ?_) (fun q => ?_) (fun q => ?_) (by rw [hplanned.frame]; rfl) (by rw [hplanned.frame]; rfl)
  · by_cases hq : q = r
    · rw [hq, (s.changeBand_rank r b)]
    · rw [State.changeBand_others s hq]
  · by_cases hq : q = r
    · rw [hq, (s.changeBand_rank r b)]
    · rw [State.changeBand_others s hq]
  · exact (hplanned.taskAt_power q).trans (State.taskAt_setRank s r (k := { s.rank r with band := b }) rfl q .power)

theorem State.sampleTold_eligible (s : State) (r : Slot) (t : Temp) (b : Band) : (s.sampleTold r t b).eligible = s.eligible := by
  have hqueues : (s.sampleTold r t b).queues = s.queues := by rw [State.sampleTold_frame]; rfl
  have hchannel : ∀ q, ((s.sampleTold r t b).rank q).channel = (s.rank q).channel := fun q => by
    rw [State.sampleTold_rank]
    split
    · next h => rw [h]
    · rfl
  refine State.eligible_congr (fun q => ?_) hchannel (fun q => ?_) (by rw [State.sampleTold_frame]; rfl) (by rw [State.sampleTold_frame]; rfl)
  · rw [State.sampleTold_rank]
    split
    · next h => rw [h]
    · rfl
  · simp only [State.taskAt, hchannel, State.queue, hqueues]

/-- What a rank that drifts asks of its group, after its band is handed on (R75 to R78, R90). -/
theorem State.drift_groups {s v : State} {r : Slot} {t : Temp} {b : Band} {g : GroupId} {ch : Chan} (hgroups : v.groups = s.groups)
    (heligible : v.eligible = s.eligible) (hnow : v.now = s.now) (htiming : v.timing = s.timing) (hstate : (v.rank r).state ≠ .deep)
    (hg : (v.rank r).group = some g) (hch : (v.rank r).channel = some ch) (hcalm : v.CalmBand r b)
    (hdrifts : (v.rank r).driftsAt v.thermal t) :
    (¬s.NoStanding g r → ((v.changeBand r b).driftCheck r t).groups = s.groups) ∧
    (s.NoStanding g r →
      ((v.changeBand r b).driftCheck r t).groups = ((s.joinTail g
        { rank := r, kind := .short, origin := .drift, tag := none, revocations := 0 }).scanGroup g).groups ∧
      ((((v.changeBand r b).driftCheck r t).group g).holder = some r → ∃ x ∈ (((v.changeBand r b).driftCheck r t).queue ch).tasks,
        x.rank = r ∧ x.kind = .calShort ∧ x.cls = .cal ∧ x.origin = .drift ∧ x.tag = none ∧ x.executing = false)) := by
  have hchanged : (v.changeBand r b).groups = s.groups := (State.changeBand_groups hcalm).trans hgroups
  have hrank := v.changeBand_rank r b
  have heligible' : (v.changeBand r b).eligible = s.eligible := (State.changeBand_eligible hcalm hstate).trans heligible
  have hquiet := v.changeBand_quiet (free := False) r b
  have hnow' : (v.changeBand r b).now = s.now := hquiet.now_eq.trans hnow
  have htiming' : (v.changeBand r b).timing = s.timing := hquiet.timing_eq.trans htiming
  have hthermal : (v.changeBand r b).thermal = v.thermal := hquiet.thermal_eq
  generalize v.changeBand r b = w at hchanged hrank heligible' hnow' htiming' hthermal
  have hgroup : w.group g = s.group g := by rw [State.group, hchanged]; rfl
  have hshort : (w.rank r).requestKind .short .drift = .short := by
    obtain ⟨-, -, hvalid, -⟩ := hdrifts
    rw [Rank.requestKind, if_neg]
    rw [hrank]
    simp [hvalid]
  have hcheck : w.driftCheck r t = w.requestIn g r .short .drift none := by
    refine State.driftCheck_of_drift ?_ (by rw [hrank]; exact hg)
    rw [hrank, hthermal]
    exact hdrifts
  rw [hcheck]
  refine ⟨fun hstanding => (State.requestIn_of_standing (by decide) hshort ?_).trans hchanged, fun hstanding => ?_⟩
  · rw [State.NoStanding, hgroup]
    exact hstanding
  · have hstanding' : w.NoStanding g r := by
      rw [State.NoStanding, hgroup]
      exact hstanding
    rw [State.requestIn_of_noStanding hstanding', hshort]
    have hjoined : ∀ e, (w.joinTail g e).groups = (s.joinTail g e).groups := fun e => by
      simp only [State.joinTail, State.setGroup, hchanged, hgroup]
    have helig : ∀ (u : State) (e : Entry), (u.joinTail g e).eligible = u.eligible := fun u e =>
      State.eligible_congr (fun _ => rfl) (fun _ => rfl) (fun _ => rfl) rfl rfl
    refine ⟨State.scanGroup_groups_congr g (hjoined _) (by rw [helig, helig]; exact heligible') hnow' htiming', fun hholder => ?_⟩
    obtain ⟨hnone, hlist⟩ := hstanding'
    have honly : ∀ e ∈ ((w.joinTail g { rank := r, kind := .short, origin := .drift, tag := none, revocations := 0 }).group g).waiting,
        e.rank = r → e = { rank := r, kind := .short, origin := .drift, tag := none, revocations := 0 } := fun e he hr => by
      rw [State.joinTail, State.group_setGroup_self, List.mem_append, List.mem_singleton] at he
      exact he.resolve_left fun he => hlist e he hr
    obtain ⟨n, hn⟩ := State.queued_of_granted (s := w.joinTail g { rank := r, kind := .short, origin := .drift, tag := none, revocations := 0 })
      (x := { rank := r, kind := .short, origin := .drift, tag := none, revocations := 0 }) (ch := ch)
      (by simpa [State.joinTail] using hnone) honly (by show (w.rank r).channel = _; rw [hrank]; exact hch) hholder
    exact ⟨_, hn, rfl, rfl, rfl, rfl, rfl, rfl⟩

/-- The work of a rank among its channel's tasks decides whether a band leaves the power logic nothing to take. -/
theorem State.calmBand_of {s : State} {r : Slot} {ch : Chan} {b : Band} (hch : (s.rank r).channel = some ch)
    (h : b ≠ 3 ∨ (s.rank r).band = 3 ∨ ∀ x ∈ (s.queue ch).tasks, x.rank = r → x.kind ≠ .deepEnter) : s.CalmBand r b := by
  obtain h | h | h := h
  · exact .inl h
  · exact .inr (.inl h)
  · refine .inr (.inr fun x hx => ?_)
    obtain ⟨hmem, hrank, -⟩ := State.mem_of_taskAt hch hx
    exact h x hmem hrank

/-- What a good sample that is not discarded leaves (R56 to R59, R65, R90), from a state that differs in the clock and the polling state;
its request is seen from a state `u₀` with the same groups and the same eligible entries. -/
theorem State.goodSample_taken {s v u₀ : State} {r : Slot} {t : Temp} {b : Band} (hranks : v.ranks = s.ranks) (hhanded : s.HandedOn r v)
    (hthermal : v.thermal = s.thermal) (hgroups : v.groups = s.groups) (hb : v.bandOfSample r t = b) (heligible₀ : v.eligible = u₀.eligible)
    (hgroups₀ : u₀.groups = s.groups) (hnow₀ : v.now = u₀.now) (htiming₀ : v.timing = u₀.timing) :
    let k := s.rank r
    let drifts : Prop := k.driftsAt s.thermal t
    let w := (v.goodSample r t).settle
    w.monitor = v.monitor ∧ (∀ q : Slot, q ≠ r → w.rank q = s.rank q) ∧
    (w.rank r).sensorStatus = .good ∧ (w.rank r).lastTemp = some t ∧ (w.rank r).sensorFailures = 0 ∧
    (w.rank r).bandSource = .sensor ∧ (w.rank r).state = k.state ∧ (w.rank r).band = b ∧
    (v.sampleTold r t b).records <+: w.records ∧
    (∀ ch : Chan, k.channel = some ch → (k.interval.isSome = true → k.state.served = true) →
      ((v.sampleTold r t b).withBand r ch b).HandsOn w ((k.band ≠ 3 ∧ b = 3) ∨ drifts)) ∧
    (k.band ≠ 3 → b = 3 → s.TakesCriticalBand w r) ∧
    (∀ (g : GroupId) (ch : Chan), k.group = some g → k.channel = some ch →
      (drifts → (w.group g).holder = some r ∨ ∃ x ∈ (w.group g).waiting, x.rank = r) ∧
      (b ≠ 3 ∨ k.band = 3 ∨ (∀ x ∈ (v.queue ch).tasks, x.rank = r → x.kind ≠ .deepEnter) →
        (¬drifts → w.groups = s.groups) ∧
        (drifts → ¬s.NoStanding g r → w.groups = s.groups) ∧
        (drifts → s.NoStanding g r →
          w.groups = ((u₀.joinTail g { rank := r, kind := .short, origin := .drift, tag := none, revocations := 0 }).scanGroup g).groups ∧
          ((w.group g).holder = some r → ∃ x ∈ (w.queue ch).tasks, x.rank = r ∧ x.kind = .calShort ∧ x.cls = .cal ∧
            x.origin = .drift ∧ x.tag = none ∧ x.executing = false)))) := by
  intro k drifts w
  have hrank : ∀ q, v.rank q = s.rank q := fun q => by rw [State.rank, hranks]; rfl
  have hk : v.rank r = k := hrank r
  have htold : (v.sampleTold r t b).HandedOn r (v.sampleTold r t b) := .refl _ r
  have hhandedTold := hhanded.sampleTold t b
  have hframe := v.sampleTold_frame r t b
  have helig := (v.sampleTold_eligible r t b).trans heligible₀
  have hown := v.sampleTold_rank r r t b
  have hothers := fun q => v.sampleTold_rank r q t b
  rw [if_pos rfl, hk] at hown
  have hw : w = (((v.sampleTold r t b).changeBand r b).driftCheck r t).settle := by
    rw [← hb, ← State.goodSample_eq]
  have hmonitor : (v.sampleTold r t b).monitor = v.monitor := by rw [hframe]; rfl
  have hgroupsu : (v.sampleTold r t b).groups = v.groups := by rw [hframe]; rfl
  have hqueueu : ∀ c, (v.sampleTold r t b).queue c = v.queue c := fun c => by rw [hframe]; rfl
  have hnowu : (v.sampleTold r t b).now = v.now := by rw [hframe]; rfl
  have htimingu : (v.sampleTold r t b).timing = v.timing := by rw [hframe]; rfl
  have hthermalu : (v.sampleTold r t b).thermal = s.thermal := by rw [hframe]; exact hthermal
  clear_value w
  subst hw
  clear hframe htold
  generalize v.sampleTold r t b = u at *
  have hquiet := u.changeBand_quiet (free := False) r b
  have hplanned := u.changeBand_rank r b
  have hrankOf : ∀ q, ((((u.changeBand r b).driftCheck r t).settle)).rank q = (u.changeBand r b).rank q := fun q => by
    rw [State.settle_frame, State.driftCheck_frame]
    rfl
  have hgroupsOf : (((u.changeBand r b).driftCheck r t).settle).groups = ((u.changeBand r b).driftCheck r t).groups := by
    rw [State.settle_frame]
  have hgroupOf : ∀ g, (((u.changeBand r b).driftCheck r t).settle).group g = ((u.changeBand r b).driftCheck r t).group g := fun g => by
    rw [State.settle_frame]; rfl
  have hqueueOf : ∀ c, (((u.changeBand r b).driftCheck r t).settle).queue c = ((u.changeBand r b).driftCheck r t).queue c := fun c => by
    rw [State.settle_frame]; rfl
  have hdrifts : ((u.changeBand r b).rank r).driftsAt (u.changeBand r b).thermal t ↔ drifts := by
    rw [hplanned, hquiet.thermal_eq, hthermalu, hown]
  have hcalm : ¬drifts → (u.changeBand r b).driftCheck r t = u.changeBand r b := fun h =>
    State.driftCheck_of_not fun h' => h (hdrifts.mp h')
  rw [hown] at hplanned
  refine ⟨?_, fun q hq => ?_, ?_, ?_, ?_, ?_, ?_, ?_, ?_, fun ch hch hserved => ?_, fun hband hcritical => ?_, fun g ch hg hch => ⟨?_, fun hwork => ?_⟩⟩
  · rw [State.settle_frame, State.driftCheck_frame]
    exact hquiet.monitor_eq.trans hmonitor
  · rw [hrankOf, State.changeBand_others _ hq, hothers, if_neg hq, hrank]
  · rw [hrankOf, hplanned]
  · rw [hrankOf, hplanned]
  · rw [hrankOf, hplanned]
  · rw [hrankOf, hplanned]
  · rw [hrankOf, hplanned]
  · rw [hrankOf, hplanned]
  · rw [State.settle_frame, State.driftCheck_frame]
    exact u.changeBand_records r b
  · refine State.handsOn_of_changeBand (by rw [hown]; exact hch) (by rw [hown]; exact hserved) (fun h => .inl ?_) ?_ ?_ (fun d => ?_) fun h => ?_
    · exact ⟨by rw [hown] at h; exact h.2, h.1⟩
    · rw [State.settle_frame, State.driftCheck_frame]
    · rw [State.settle_frame, State.driftCheck_frame]
    · rw [State.settle_frame]
      exact (u.changeBand r b).driftCheck_keepsTasks r t (fun x hx => decide_eq_false fun hkind => by rw [hkind] at hx; cases hx) d
    · rw [hcalm fun h' => h (.inr h')]
  · subst hcritical
    exact hhandedTold.takesCriticalBand (fun hi => by rw [hown]; exact hi) (by rw [hown]; exact hband) (State.KeepsPower.driftCheck _ r t).settle
  · intro h
    rw [hgroupOf, State.driftCheck_of_drift (hdrifts.mpr h) (by rw [hplanned]; exact hg)]
    exact State.standing_of_requestIn _ g r (by decide)
  · have hcalmBand : u.CalmBand r b :=
      State.calmBand_of (ch := ch) (by rw [hown]; exact hch) (by rw [hown, hqueueu]; exact hwork)
    rw [hgroupsOf, hgroupOf, hqueueOf]
    have hall : drifts → _ := fun h => State.drift_groups (s := u₀) (v := u) (t := t) (g := g) (ch := ch)
      (hgroupsu.trans (hgroups.trans hgroups₀.symm)) helig (hnowu.trans hnow₀) (htimingu.trans htiming₀) (by
        obtain ⟨-, hstate, -⟩ := h
        rw [hown]
        intro hd
        rw [show k.state = .deep from hd] at hstate
        simp at hstate) (by rw [hown]; exact hg) (by rw [hown]; exact hch) hcalmBand
      (by rw [hown, hthermalu]; exact h)
    have hstanding : u₀.NoStanding g r ↔ s.NoStanding g r := by
      rw [State.NoStanding, State.NoStanding, State.group, State.group, hgroups₀]
    refine ⟨fun h => ?_, fun h hst => ?_, fun h hst => ?_⟩
    · rw [hcalm h, State.changeBand_groups hcalmBand, hgroupsu, hgroups]
    · rw [(hall h).1 (fun h' => hst (hstanding.mp h')), hgroups₀]
    · exact (hall h).2 (hstanding.mpr hst)

/-! ### The end of an attempt -/

/-- The end of an attempt in its stage, from its time on (R50). -/
theorem exec_attemptEnd {s : State} (hreset : s.inReset = false) (hbus : s.monitor.bus = .read ∨ s.monitor.bus = .retry) (e : AttemptEnding) :
    exec (.attemptEnd e) s =
      .next ((s.reach (s.monitor.phaseStart + attemptTime s.monitor.speed (classify e) + e.stretch)).endAttempt e).settle := by
  have heffect : s.attemptEnds e = (s.reach (s.monitor.phaseStart + attemptTime s.monitor.speed (classify e) + e.stretch)).endAttempt e := by
    unfold State.attemptEnds
    obtain h | h := hbus <;> rw [h]
  have hexec : exec (.attemptEnd e) s = .next (s.attemptEnds e).settle := exec_next (i := .attemptEnd e) hreset rfl
  rw [hexec, heffect]

/-- A first attempt's failure leads to a retry, a second ends the read (R54). -/
theorem State.endAttempt_of_failure {s : State} {e : AttemptEnding} {o : ReadOutcome} (h : classify e = o) (hfault : o ≠ .busFault)
    (hgood : ∀ t, o ≠ .good t) : s.endAttempt e = if s.monitor.bus = .read then s.startRetry else s.takeOutcome o := by
  subst h
  unfold State.endAttempt
  cases hc : classify e with
  | busFault => exact absurd hc hfault
  | good t => exact absurd hc (hgood t)
  | noAck | invalid | outOfRange => rfl

theorem BusSpeed.bitPeriod_cases (sp : BusSpeed) : sp.bitPeriod = match sp with | .khz100 => 1000 | .khz400 => 250 := by
  cases sp <;> rfl

/-- The outcome of an attempt without a bus fault (R50). -/
theorem classify_of_noFault {e : AttemptEnding} (h : e.fault = false) : classify e =
    if e.ack = false then .noAck else if e.word.getLsbD 15 = false then .invalid
    else if (e.word.extractLsb' 0 12).toInt < -160 ∨ 511 < (e.word.extractLsb' 0 12).toInt then .outOfRange
    else .good (e.word.extractLsb' 0 12).toInt := by
  unfold classify
  rw [h]
  cases e.ack <;> cases e.word.getLsbD 15 <;> rfl

/-- Settles O43: each ending by its classification, the good sample by what its parts take. -/
theorem attemptEnd : Obligations.AttemptEnd := by
  intro s e r hreset hsettled hread hbus k t bit bad outcome now ended band drifts good good1 good2
  have hexec := exec_attemptEnd hreset hbus e
  have hbit : s.monitor.speed.bitPeriod = bit := BusSpeed.bitPeriod_cases _
  refine ⟨fun hfault => ?_, fun hfault => ?_⟩
  · have hclass := classify_of_noFault hfault
    have htime : ∀ o, classify e = o → max s.now (s.monitor.phaseStart + attemptTime s.monitor.speed o + e.stretch) = now := by
      intro o ho
      rw [← ho, hclass]
      cases hack : e.ack with
      | false => simp only [if_true, attemptTime, Config.noAckBits, hbit, now, hack, Bool.false_eq_true, if_false]
      | true =>
        simp only [Bool.true_eq_false, if_false, now, hack, if_true]
        split_ifs <;> simp only [attemptTime, Config.attemptBits, hbit]
    have hbad : bad → classify e = outcome ∧ outcome ≠ .busFault ∧ ∀ x, outcome ≠ .good x := by
      intro h
      have : classify e = outcome := by
        rw [hclass]
        simp only [outcome]
        split_ifs with hack hvalid hrange
        · rfl
        · rfl
        · rfl
        · obtain h | h | h | h := h
          · exact absurd h hack
          · exact absurd h hvalid
          · exact absurd (.inl h) hrange
          · exact absurd (.inr h) hrange
      refine ⟨this, ?_, fun x => ?_⟩
      · simp only [outcome]; split_ifs <;> decide
      · simp only [outcome]; split_ifs <;> exact fun h => nomatch h
    have hgood : ¬bad → classify e = .good t := by
      intro h
      rw [hclass, if_neg fun h' => h (.inl h'), if_neg fun h' => h (.inr (.inl h')), if_neg fun h' => h (.inr (.inr h'))]
    have hkeep : ∀ (u : Nat) (m : Monitor), ((s.reach u).setMonitor m).Settled := fun u m => (hsettled.reach u).setMonitor m
    refine ⟨fun h hfirst => ?_, fun h hsecond => ?_, fun h hdiscard => ?_, fun h hdiscard => ?_⟩
    · obtain ⟨hc, hnofault, hnogood⟩ := hbad h
      rw [hexec, hc, State.endAttempt_of_failure hc hnofault hnogood, State.reach_monitor, if_pos hfirst, State.startRetry,
        State.settle_of_settled _ (hkeep _ _), ← htime outcome hc, ← hbit]
      rfl
    · obtain ⟨hc, hnofault, hnogood⟩ := hbad h
      have hfails := State.failsRead (r := r) hsettled hread hnogood (s.monitor.phaseStart + attemptTime s.monitor.speed outcome + e.stretch)
      rw [hexec, hc, State.endAttempt_of_failure hc hnofault hnogood, State.reach_monitor, if_neg (by rw [hsecond]; decide)]
      rw [htime outcome hc] at hfails
      exact hfails
    · have hc := hgood h
      have hend : ∀ u : State, u.endAttempt e = u.takeOutcome (.good t) := fun u => by simp only [State.endAttempt, hc]
      rw [hexec, hc, hend, State.takeOutcome_of_discard (s := s.reach _) hread hdiscard, State.settle_of_settled _ (hkeep _ _), ← htime _ hc]
      rfl
    · have hc := hgood h
      have hend : ∀ u : State, u.endAttempt e = u.takeOutcome (.good t) := fun u => by simp only [State.endAttempt, hc]
      rw [hexec, hc, hend, State.takeOutcome_of_good (s := s.reach _) hread hdiscard]
      have hbase : ((s.reach (s.monitor.phaseStart + attemptTime s.monitor.speed (.good t) + e.stretch)).setMonitor
          (s.reach (s.monitor.phaseStart + attemptTime s.monitor.speed (.good t) + e.stretch)).monitor.ended) =
          { s with now := now, monitor := ended } := by
        rw [← htime _ hc]
        rfl
      rw [hbase]
      have htaken := State.goodSample_taken (s := s) (v := { s with now := now, monitor := ended }) (u₀ := { s with now := now }) (r := r) (t := t) (b := band) rfl
        ⟨rfl, rfl, rfl, rfl, Nat.min_le_right _ _, fun _ _ h => h, .of_queues rfl, fun _ _ => rfl⟩ rfl rfl rfl
        (State.eligible_congr (fun _ => rfl) (fun _ => rfl) (fun _ => rfl) rfl rfl) rfl rfl rfl
      exact ⟨_, rfl, htaken⟩
  · intro start
    have hc : classify e = .busFault := by simp [classify, hfault]
    have hend : ∀ u : State, u.endAttempt e = u.startRecovery e.sda := fun u => by simp only [State.endAttempt, hc]
    rw [hexec, hc, hend, State.startRecovery_eq, State.settle_of_settled _ ((hsettled.reach _).setMonitor _)]
    rfl

/-! ### Bus recovery -/

theorem State.Quiet.lost {free : Prop} {s t : State} (h : s.Quiet free t) : min 255 s.lost ≤ t.lost := by
  induction h with
  | refl => exact Nat.min_le_right _ _
  | @tail u w _ hw ih =>
    cases hw with
    | rank | group | queue => exact ih
    | notice b => obtain h | h := u.notice_lost b <;> omega
    | complete tag st d => rw [State.complete_frame]; exact ih

/-- A notice written last in an event is the last record or counted as lost (R177, R179). -/
theorem State.notice_getLast? (s : State) (b : Notice) :
    (s.notice b).records.getLast? = some (.notice b s.timestamp) ∨ (s.notice b).lost = min 255 (s.lost + 1) := by
  unfold State.notice
  split
  · exact .inr rfl
  · exact .inl (by simp)

/-- A sensor's record put on fallback, before its band is handed on (R62). -/
def Rank.fallenBack (k : Rank) : Rank := { k with sensorStatus := .failed, lastTemp := none, sensorFailures := 3, bandSource := .fallback }

theorem State.fallbackSlot_of_sensor {s : State} {r : Slot} (h : (s.rank r).sensor.isSome = true) :
    s.fallbackSlot r = (s.setRank r (s.rank r).fallenBack).changeBand r s.thermal.fallbackBand := by
  have hset : ∀ b, (s.setRank r (s.rank r).fallenBack).setRank r { (s.setRank r (s.rank r).fallenBack).rank r with band := b } =
      s.setRank r ((s.rank r).onFallback b) := fun b => by
    rw [State.rank_setRank_self, State.setRank_setRank]
    rfl
  rw [State.changeBand, hset, State.rank_setRank_self]
  simp only [State.fallbackSlot, h, if_true]
  rfl

theorem State.fallbackSlot_of_none {s : State} {r : Slot} (h : (s.rank r).sensor = none) : s.fallbackSlot r = s := by
  simp only [State.fallbackSlot, h, Option.isSome_none, Bool.false_eq_true, if_false]

theorem State.fallbackSlot_sameAccount (s : State) {q r : Slot} (hq : q ≠ r) (ch : Chan) : State.SameAccount r ch s (s.fallbackSlot q) := by
  cases h : (s.rank q).sensor with
  | none => rw [State.fallbackSlot_of_none h]; exact .refl r ch s
  | some a =>
    rw [State.fallbackSlot_of_sensor (by rw [h]; rfl)]
    exact (State.SameAccount.setRank s hq ch _).trans (State.changeBand_sameAccount _ hq ch _)

/-- The slots put on fallback in order, seen from one of them (R62). -/
theorem State.foldl_fallbackSlot (s : State) (r : Slot) :
    ((s.rank r).sensor = none → (allSlots.foldl State.fallbackSlot s).rank r = s.rank r) ∧
    ((s.rank r).sensor.isSome = true →
      Rank.PlannedTo { (s.rank r).fallenBack with band := s.thermal.fallbackBand } ((allSlots.foldl State.fallbackSlot s).rank r) ∧
      ∀ ch, (s.rank r).channel = some ch → ((s.rank r).interval.isSome = true → (s.rank r).state.served = true) →
        State.SameAccount r ch ((s.setRank r (s.rank r).fallenBack).withBand r ch s.thermal.fallbackBand)
          (allSlots.foldl State.fallbackSlot s)) := by
  obtain ⟨before, after, hbefore, hafter, hcut⟩ := foldl_allSlots_cut State.fallbackSlot r s
  have haccount : ∀ (ch : Chan) (l : List Slot) (hl : r ∉ l) (u : State), State.SameAccount r ch u (l.foldl State.fallbackSlot u) := fun ch =>
    foldl_slots (State.SameAccount.refl r ch) State.SameAccount.trans fun u q hq => u.fallbackSlot_sameAccount hq ch
  have hthermal : (before.foldl State.fallbackSlot s).thermal = s.thermal :=
    (State.Quiet.foldl (free := True) _ before s State.fallbackSlot_quiet).thermal_eq
  have hfirst := fun ch => haccount ch before hbefore s
  have hlast := fun ch => haccount ch after hafter ((before.foldl State.fallbackSlot s).fallbackSlot r)
  rw [hcut]
  generalize before.foldl State.fallbackSlot s = u at hfirst hlast hthermal
  have hrank := (hfirst .a).rank
  refine ⟨fun h => ?_, fun h => ?_⟩
  · rw [(hlast .a).rank, State.fallbackSlot_of_none (by rw [hrank]; exact h), hrank]
  · have htake : u.fallbackSlot r = (u.setRank r (s.rank r).fallenBack).changeBand r s.thermal.fallbackBand := by
      rw [State.fallbackSlot_of_sensor (by rw [hrank]; exact h), hrank, hthermal]
    rw [htake] at hlast ⊢
    refine ⟨?_, fun ch hch hserved => ?_⟩
    · have hplanned := (u.setRank r (s.rank r).fallenBack).changeBand_rank r s.thermal.fallbackBand
      rw [State.rank_setRank_self] at hplanned
      rw [(hlast .a).rank]
      exact hplanned
    · refine State.SameAccount.trans ?_ (hlast ch)
      rw [State.changeBand_eq (ch := ch) (by rw [State.rank_setRank_self]; exact hch) (by rw [State.rank_setRank_self]; exact hserved)]
      obtain ⟨-, hdebt, hengine, hnow, htiming, hpolicy⟩ := hfirst ch
      have hset : State.SameAccount r ch (s.setRank r (s.rank r).fallenBack) (u.setRank r (s.rank r).fallenBack) :=
        ⟨by rw [State.rank_setRank_self, State.rank_setRank_self], hdebt, hengine, hnow, htiming, hpolicy⟩
      exact (hset.withBand _).trans (State.powerTakes_sameAccount _ r r ch _)

theorem State.SameAccount.settle_notice (r : Slot) (ch : Chan) (s : State) (b : Notice) : State.SameAccount r ch s (s.notice b).settle := by
  rw [State.settle_frame, State.notice_frame]
  exact ⟨rfl, rfl, rfl, rfl, rfl, rfl⟩

/-- What a failed recovery leaves (R62), from a state `u` that differs from the one before the event in the clock and the polling state. -/
theorem State.recoveryFails_taken {s u v : State} (hv : v = u.recoveryFails.settle) (hranks : u.ranks = s.ranks) (hqueues : u.queues = s.queues) (hengines : u.engines = s.engines)
    (htiming : u.timing = s.timing) (hpolicy : u.policy = s.policy) (hthermal : u.thermal = s.thermal) (hlost : u.lost = s.lost)
    (htime : u.timestamp = s.timestamp) :
    v.now = u.now ∧ v.monitor = { u.monitor.ended with polling := false, pollTimer := none } ∧
    (∀ q : Slot, ((s.rank q).sensor = none → v.rank q = s.rank q) ∧ ((s.rank q).sensor.isSome = true →
      Rank.PlannedTo { (s.rank q).fallenBack with band := s.thermal.fallbackBand } (v.rank q) ∧
      ∀ ch, (s.rank q).channel = some ch → ((s.rank q).interval.isSome = true → (s.rank q).state.served = true) →
        State.SameAccount q ch (({ s with now := u.now, ranks := s.ranks.set q (s.rank q).fallenBack } : State).withBand q ch
          s.thermal.fallbackBand) v)) ∧
    (v.records.getLast? = some (.notice (.sensorBusFault (allSlots.filter (fun q => (s.rank q).sensor.isSome)).length) s.timestamp) ∨
      min 255 (s.lost + 1) ≤ v.lost) := by
  have hrank : ∀ q, u.pollingStopped.rank q = s.rank q := fun q => by rw [State.rank, show u.pollingStopped.ranks = s.ranks from hranks]; rfl
  have hcount : allSlots.countP (fun r => (u.rank r).sensor.isSome) = (allSlots.filter (fun q => (s.rank q).sensor.isSome)).length := by
    rw [List.countP_eq_length_filter]
    simp only [State.rank, hranks]
  have hquiet : State.Quiet True u.pollingStopped (allSlots.foldl State.fallbackSlot u.pollingStopped) := .foldl _ _ _ State.fallbackSlot_quiet
  have hfold := u.pollingStopped.foldl_fallbackSlot
  rw [State.recoveryFails_eq, hcount] at hv
  simp only [hrank, show u.pollingStopped.thermal = s.thermal from hthermal] at hfold
  have hmonitor := hquiet.monitor_eq
  have hnow := hquiet.now_eq
  have htimestamp : (allSlots.foldl State.fallbackSlot u.pollingStopped).timestamp = s.timestamp := by
    rw [hquiet.frame]
    exact htime
  have hmore := hquiet.lost
  rw [show u.pollingStopped.lost = s.lost from hlost] at hmore
  clear hquiet
  generalize allSlots.foldl State.fallbackSlot u.pollingStopped = w at hv hfold hmonitor hnow htimestamp hmore
  subst hv
  have haccount := fun (q : Slot) (ch : Chan) => State.SameAccount.settle_notice q ch w
    (.sensorBusFault (allSlots.filter (fun q => (s.rank q).sensor.isSome)).length)
  refine ⟨?_, ?_, fun q => ⟨fun hnone => ?_, fun hsome => ⟨?_, fun ch hch hserved => ?_⟩⟩, ?_⟩
  · rw [(haccount 0 .a).now, hnow]
    rfl
  · rw [State.settle_frame, State.notice_frame]
    exact hmonitor
  · rw [(haccount q .a).rank]
    exact (hfold q).1 hnone
  · rw [(haccount q .a).rank]
    exact ((hfold q).2 hsome).1
  · refine (State.SameAccount.trans ?_ (((hfold q).2 hsome).2 ch hch hserved)).trans (haccount q ch)
    have hqueue : u.pollingStopped.queue ch = s.queue ch := by rw [State.queue, show u.pollingStopped.queues = s.queues from hqueues]; rfl
    have hengine : u.pollingStopped.engine ch = s.engine ch := by rw [State.engine, show u.pollingStopped.engines = s.engines from hengines]; rfl
    have hbase : State.SameAccount q ch { s with now := u.now, ranks := s.ranks.set q (s.rank q).fallenBack }
        (u.pollingStopped.setRank q (s.rank q).fallenBack) := by
      refine ⟨?_, ?_, hengine, rfl, htiming, hpolicy⟩
      · rw [State.rank_setRank_self]
        exact (State.rank_setRank_self s q _).symm
      · rw [State.debtOf_eq, State.debtOf_eq, State.queue_of_setRank, hqueue]
        rfl
    exact hbase.withBand _
  · rw [State.settle_frame]
    obtain h | h := w.notice_getLast? (.sensorBusFault (allSlots.filter (fun q => (s.rank q).sensor.isSome)).length)
    · exact .inl (htimestamp ▸ h)
    · refine .inr (le_trans ?_ h.ge)
      omega

/-- Settles O44: the clock's timeout and the pulse's end by the stage recovery is in. -/
theorem busRecovery : Obligations.BusRecovery := by
  intro s n sda r hreset hsettled hread bit late pulse ended failed
  have hbit : s.monitor.speed.bitPeriod = bit := BusSpeed.bitPeriod_cases _
  have hpulse : max s.now (s.monitor.phaseStart + s.monitor.speed.bitPeriod + n) = pulse := by rw [hbit]
  have hstretch : exec (.clockStretchTimeout n sda) s = .next (s.clockTimeout n sda).settle := exec_next (i := .clockStretchTimeout n sda) hreset rfl
  have hends : exec (.recoveryPulse n sda) s = .next (s.pulseEnds n sda).settle := exec_next (i := .recoveryPulse n sda) hreset rfl
  have hfailed : ∀ (u v : State) (start : Nat), u.ranks = s.ranks → u.queues = s.queues → u.engines = s.engines → u.timing = s.timing →
      u.policy = s.policy → u.thermal = s.thermal → u.lost = s.lost → u.timestamp = s.timestamp → u.monitor.ended = ended start →
      v = u.recoveryFails.settle → v.now = u.now ∧ failed v start := by
    intro u v start hranks hqueues hengines htiming hpolicy hthermal hlost htime hmonitor hv
    obtain ⟨hnow, hm, hslots, hlast⟩ := State.recoveryFails_taken hv hranks hqueues hengines htiming hpolicy hthermal hlost htime
    refine ⟨hnow, hm.trans (by rw [hmonitor]), fun q => ⟨(hslots q).1, fun hsensor => ?_⟩, hlast⟩
    obtain ⟨hplanned, haccount⟩ := (hslots q).2 hsensor
    refine ⟨by rw [hplanned]; rfl, by rw [hplanned]; rfl, by rw [hplanned]; rfl, by rw [hplanned]; rfl, by rw [hplanned], by rw [hplanned]; rfl,
      fun ch hch hserved => ?_⟩
    obtain ⟨hrank, hdebt, -⟩ := haccount ch hch hserved
    rw [← hnow] at hrank hdebt
    exact ⟨hrank, hdebt⟩
  refine ⟨fun hbus => ?_, fun hbus => ⟨?_, fun hstopping => ?_, fun hstopping => ⟨fun hlow hninth => ?_, fun hnext => ?_⟩⟩⟩
  · have htimeout : s.clockTimeout n sda = (s.reach (s.monitor.phaseStart + n + Config.clockStretchLimit)).startRecovery sda := by
      unfold State.clockTimeout
      obtain h | h := hbus <;> rw [h]
    rw [hstretch, htimeout, State.startRecovery_eq, State.settle_of_settled _ ((hsettled.reach _).setMonitor _)]
    rfl
  · have htimeout : s.clockTimeout n sda = (s.reach (s.monitor.phaseStart + n + Config.clockStretchLimit)).recoveryFails := by
      simp only [State.clockTimeout, hbus]
    refine ⟨_, hstretch, ?_⟩
    exact hfailed (s.reach (s.monitor.phaseStart + n + Config.clockStretchLimit)) _ _ rfl rfl rfl rfl rfl rfl rfl rfl rfl (by rw [htimeout])
  · have hpulseEnds : s.pulseEnds n sda = (s.reach (s.monitor.phaseStart + s.monitor.speed.bitPeriod + n)).takeOutcome .busFault := by
      simp only [State.pulseEnds, hbus, hstopping, if_true]
      rfl
    have hfails := State.failsRead (r := r) (o := .busFault) hsettled hread (fun t h => nomatch h) (s.monitor.phaseStart + s.monitor.speed.bitPeriod + n)
    rw [hends, hpulseEnds]
    rw [hpulse] at hfails
    exact hfails
  all_goals
    have hpulseEnds : s.pulseEnds n sda = (s.reach (s.monitor.phaseStart + s.monitor.speed.bitPeriod + n)).endPulse sda := by
      simp only [State.pulseEnds, hbus, hstopping, Bool.false_eq_true, if_false]
  · have hlast : (s.reach (s.monitor.phaseStart + s.monitor.speed.bitPeriod + n)).endPulse sda =
        ((s.reach (s.monitor.phaseStart + s.monitor.speed.bitPeriod + n)).setMonitor
          { s.monitor with pulses := s.monitor.pulses + 1, phaseStart := pulse }).recoveryFails := by
      rw [hlow, State.endPulse_low, State.reach_monitor, if_neg (by omega), State.reach_now, hpulse]
    have hboth := hfailed ((s.reach (s.monitor.phaseStart + s.monitor.speed.bitPeriod + n)).setMonitor
          { s.monitor with pulses := s.monitor.pulses + 1, phaseStart := pulse }) _ pulse rfl rfl rfl rfl rfl rfl rfl rfl rfl rfl
    refine ⟨_, hends, ?_⟩
    rw [hpulseEnds, hlast]
    exact ⟨hboth.1.trans hpulse, hboth.2⟩
  · have hmore : (s.reach (s.monitor.phaseStart + s.monitor.speed.bitPeriod + n)).endPulse sda =
        (s.reach (s.monitor.phaseStart + s.monitor.speed.bitPeriod + n)).setMonitor
          { s.monitor with pulses := s.monitor.pulses + 1, stopping := sda, phaseStart := pulse } := by
      cases sda with
      | true => rw [State.endPulse_high, State.reach_monitor, State.reach_now, hpulse]
      | false =>
        rw [State.endPulse_low, State.reach_monitor, if_pos (by simp at hnext; omega), State.reach_now, hpulse]
        rw [← hstopping]
    rw [hends, hpulseEnds, hmore, State.settle_of_settled _ ((hsettled.reach _).setMonitor _), ← hpulse]
    rfl

end Sys2Proof.Machine
end

section
/-! SUPPORT and the proofs of O11, O16: work taken out of the queues, with its ABORTED completions in queue order (R12 to R14, R109, R124, R125). -/

namespace Sys2Proof.Machine

-- Proofs are elaborated one after the other, which bounds the memory a compile reserves.
set_option Elab.async false

/-! ### ABORTED completions -/

theorem State.completeTag_aborted (s : State) (tag : Option Tag) : s.completeTag tag .aborted .none = s.abortTags tag.toList := by
  cases tag <;> rfl

theorem State.abortTags_append (s : State) (a b : List Tag) : s.abortTags (a ++ b) = (s.abortTags a).abortTags b := List.foldl_append

/-- Tasks removed together complete ABORTED in queue order (R115). -/
theorem State.abortTasks_eq (s : State) (ts : List Task) : s.abortTasks ts = s.abortTags ((queueOrder ts).filterMap Task.tag) := by
  unfold State.abortTasks
  generalize queueOrder ts = l
  induction l generalizing s with
  | nil => rfl
  | cons t l ih =>
    rw [List.foldl_cons, ih, State.completeTag_aborted, List.filterMap_cons]
    cases t.tag <;> rfl

theorem State.SameReports.complete {s t : State} (h : s.SameReports t) (tag : Tag) (st : Status) (d : Detail) :
    (s.complete tag st d).SameReports (t.complete tag st d) := by
  obtain ⟨hrecords, hlost, hout, htime⟩ := h
  have hentry : t.outEntry tag = s.outEntry tag := by rw [State.outEntry, hout]; rfl
  unfold State.complete
  rw [hentry]
  split
  · exact ⟨hrecords, hlost, hout, htime⟩
  · exact ⟨by rw [hrecords, htime], hlost, by rw [hout], htime⟩

theorem State.SameReports.abortTags {s t : State} (h : s.SameReports t) (tags : List Tag) : (s.abortTags tags).SameReports (t.abortTags tags) := by
  unfold State.abortTags
  induction tags generalizing s t with
  | nil => exact h
  | cons tag tags ih => exact ih (h.complete tag _ _)

theorem State.abortTags_frame (s : State) (tags : List Tag) :
    s.abortTags tags = s.withReports (s.abortTags tags).outstanding (s.abortTags tags).records := by
  unfold State.abortTags
  induction tags generalizing s with
  | nil => rfl
  | cons tag tags ih =>
    rw [List.foldl_cons, ih, State.complete_frame]
    rfl

/-- The completions of some tags depend on the reports alone. -/
theorem State.abortTags_of_same {s t : State} (h : s.SameReports t) (tags : List Tag) :
    t.abortTags tags = t.withReports (s.abortTags tags).outstanding (s.abortTags tags).records := by
  obtain ⟨hrecords, -, hout, -⟩ := h.abortTags tags
  rw [State.abortTags_frame, hrecords, hout]

theorem State.Retains.abortTags {tag : Tag} (s : State) {tags : List Tag} (h : s.Fresh tag → ∀ x ∈ tags, x ≠ tag) :
    State.Retains tag s (s.abortTags tags) := by
  unfold State.abortTags
  induction tags generalizing s with
  | nil => exact .refl s
  | cons x tags ih =>
    intro hs
    have hfirst := State.Retains.complete s (fun hs => h hs x List.mem_cons_self) .aborted .none
    exact (hfirst.trans (ih _ fun _ y hy => h hs y (List.mem_cons_of_mem _ hy))) hs

theorem mem_of_mem_queueOrder {ts : List Task} {x : Task} (h : x ∈ queueOrder ts) : x ∈ ts := by
  simp only [queueOrder, List.mem_append] at h
  obtain ((h | h) | h) | h := h <;> exact List.mem_of_mem_filter h

/-- Some of a queue's tasks taken out carry no tag that is fresh. -/
theorem State.Fresh.tags_ne {s : State} {tag : Tag} (h : s.Fresh tag) (c : Chan) (p : Task → Bool) :
    ∀ x ∈ (queueOrder ((s.queue c).tasks.filter p)).filterMap Task.tag, x ≠ tag := by
  intro x hx
  obtain ⟨t, ht, htag⟩ := List.mem_filterMap.mp hx
  rintro rfl
  exact h.queue c t (List.mem_of_mem_filter (mem_of_mem_queueOrder ht)) htag

/-! ### What a grant scan leaves -/

theorem State.grant_group (s : State) (g : GroupId) (e : Entry) : (s.grant g e).group g = { s.group g with
    state := .held, holder := some e.rank, heldEntry := some e, waiting := (s.group g).waiting.eraseP s.eligible
    tokenTimer := some (s.now + s.timing.tokenHold) } := by
  unfold State.grant
  simp only
  split <;> exact State.group_setGroup_self ..

/-- A scan grants the first eligible entry of a FREE group, or nothing (R81). -/
theorem State.scanGroup_cases (s : State) (g : GroupId) :
    s.scanGroup g = s ∨ ∃ e ∈ (s.group g).waiting, (s.group g).state = .free ∧ (s.group g).waiting.find? s.eligible = some e ∧
      s.eligible e = true ∧ s.scanGroup g = s.grant g e := by
  cases hfind : (s.group g).waiting.find? s.eligible with
  | none => exact .inl (State.scanGroup_of_none s g hfind)
  | some e =>
    by_cases hfree : (s.group g).state = .free
    · exact .inr ⟨e, List.mem_of_find?_eq_some hfind, hfree, rfl, List.find?_some hfind, State.scanGroup_of_some s g e hfree hfind⟩
    · exact .inl (State.scanGroup_of_taken s g hfree)

/-- A task that joins a queue in a scan is the calibration of an eligible entry of the list (R83). -/
theorem State.mem_scanGroup {s : State} {g : GroupId} {c : Chan} {x : Task} (h : x ∈ ((s.scanGroup g).queue c).tasks) :
    x ∈ (s.queue c).tasks ∨ ∃ e ∈ (s.group g).waiting, s.eligible e = true ∧ (s.rank e.rank).channel = some c ∧
      x = { e.toTask with seq := (s.queue c).seq } := by
  obtain hsame | ⟨e, he, -, -, helig, hgrant⟩ := s.scanGroup_cases g
  · rw [hsame] at h
    exact .inl h
  · rw [hgrant] at h
    unfold State.grant at h
    simp only at h
    split at h
    · exact .inl h
    · next d hd =>
      rw [State.insertTask, State.queue_setQueue] at h
      split at h
      · next hc =>
        subst hc
        obtain h | h := List.mem_append.mp h
        · exact .inl h
        · exact .inr ⟨e, he, helig, hd, List.mem_singleton.mp h⟩
      · exact .inl h

/-- A scan takes no entry's rank for the holder but one of the list, and adds no entry (R81). -/
theorem State.scanGroup_standing {s : State} {g : GroupId} {r : Slot} (h : s.NoStanding g r) : (s.scanGroup g).NoStanding g r := by
  obtain ⟨hholder, hwaiting⟩ := h
  obtain hsame | ⟨e, he, -, -, -, hgrant⟩ := s.scanGroup_cases g
  · rw [hsame]
    exact ⟨hholder, hwaiting⟩
  · rw [State.NoStanding, hgrant, State.grant_group]
    exact ⟨fun h => hwaiting e he (Option.some.inj h), fun x hx => hwaiting x (List.mem_of_mem_eraseP hx)⟩

/-! ### TAKE_OFFLINE -/

/-- The group record of a rank that is taken offline (R13). -/
def CalGroup.without (x : CalGroup) (r : Slot) : CalGroup :=
  let y := { x with waiting := x.waiting.filter (fun e => e.rank != r) }
  if x.holder = some r ∧ x.state = .held then
    { y with state := .free, holder := none, heldEntry := none, tokenTimer := none, discard := false } else y

/-- The tags of a rank's work, in the order their completions come (R12, R13). -/
def State.workTags (s : State) (r : Slot) (ch : Chan) (g : GroupId) : List Tag :=
  (queueOrder ((s.queue ch).tasks.filter (fun x => x.rank = r))).filterMap Task.tag ++
    (((s.group g).waiting.find? (fun e => e.rank = r)).bind Entry.tag).toList

theorem beq_rank_eq_decide (r : Slot) : (fun t : Task => t.rank == r) = fun t => decide (t.rank = r) := by
  funext t
  rw [Bool.eq_iff_iff]
  simp

theorem State.removeRankTasks_eq {s : State} {r : Slot} {ch : Chan} (hch : (s.rank r).channel = some ch) : s.removeRankTasks r =
    (s.removeTasks ch (fun t => t.rank == r)).abortTags
      ((queueOrder ((s.queue ch).tasks.filter (fun x => x.rank = r))).filterMap Task.tag) := by
  simp only [State.removeRankTasks, hch, State.abortTasks_eq, beq_rank_eq_decide]

theorem State.freeGroup_abortTags (s : State) (g : GroupId) (tags : List Tag) : (s.abortTags tags).freeGroup g = (s.freeGroup g).abortTags tags := by
  rw [State.abortTags_of_same (s := s) (t := s.freeGroup g) ⟨rfl, rfl, rfl, rfl⟩, State.abortTags_frame s]
  rfl

theorem State.withdrawCalibration_eq {s : State} {r : Slot} {g : GroupId} (hg : (s.rank r).group = some g) : s.withdrawCalibration r =
    ((s.setRank r { s.rank r with periodic := none }).setGroup g ((s.group g).without r)).abortTags
      (((s.group g).waiting.find? (fun e => e.rank = r)).bind Entry.tag).toList := by
  have hfind : (fun e : Entry => e.rank == r) = fun e => decide (e.rank = r) := by
    funext e
    rw [Bool.eq_iff_iff]
    simp
  unfold State.withdrawCalibration
  rw [← hfind]
  generalize hu : s.setRank r { s.rank r with periodic := none } = u
  have hgroup : u.group g = s.group g := by rw [← hu]; rfl
  simp only [hg, hgroup, CalGroup.without]
  have hfree : ∀ x : CalGroup, (u.setGroup g x).freeGroup g = u.setGroup g { x with
      state := .free, holder := none, heldEntry := none, tokenTimer := none, discard := false } := fun x => by
    rw [State.freeGroup, State.group_setGroup_self, State.setGroup_setGroup]
  cases (s.group g).waiting.find? (fun e => e.rank == r) with
  | none =>
    simp only [Option.bind_none, Option.toList_none]
    split
    · exact hfree _
    · rfl
  | some e =>
    simp only [Option.bind_some, State.completeTag_aborted, State.freeGroup_abortTags]
    split
    · rw [hfree]
    · rfl

/-- The state TAKE_OFFLINE leaves, but for the scan of the rank's group and its reports (R12 to R14). -/
def State.retired (s : State) (r : Slot) (ch : Chan) (g : GroupId) : State :=
  ((s.removeTasks ch (fun t => t.rank == r)).setGroup g ((s.group g).without r)).setRank r
    { s.rank r with state := .offline, interval := none, periodic := none }

theorem State.takeOffline_eq {s : State} {r : Slot} {ch : Chan} {g : GroupId} (hch : (s.rank r).channel = some ch)
    (hg : (s.rank r).group = some g) : s.takeOffline r =
      ((s.retired r ch g).scanGroup g).withReports (s.abortTags (s.workTags r ch g)).outstanding (s.abortTags (s.workTags r ch g)).records := by
  have hremoved : s.removeRankTasks r = (s.removeTasks ch (fun t => t.rank == r)).abortTags
      ((queueOrder ((s.queue ch).tasks.filter (fun x => x.rank = r))).filterMap Task.tag) := State.removeRankTasks_eq hch
  generalize htags : (queueOrder ((s.queue ch).tasks.filter (fun x => x.rank = r))).filterMap Task.tag = tags at hremoved
  have hrank : (s.removeRankTasks r).rank r = s.rank r := by rw [hremoved, State.abortTags_frame]; rfl
  have hgroup : (s.removeRankTasks r).group g = s.group g := by rw [hremoved, State.abortTags_frame]; rfl
  have hwithdrawn := State.withdrawCalibration_eq (s := s.removeRankTasks r) (r := r) (g := g) (by rw [hrank]; exact hg)
  rw [hrank, hgroup, hremoved] at hwithdrawn
  have hretired : ((s.removeRankTasks r).withdrawCalibration r).setRank r
      { ((s.removeRankTasks r).withdrawCalibration r).rank r with state := .offline, interval := none } =
        (s.retired r ch g).withReports (s.abortTags (s.workTags r ch g)).outstanding (s.abortTags (s.workTags r ch g)).records := by
    have hsame : (s.abortTags tags).SameReports ((((s.removeTasks ch (fun t => t.rank == r)).abortTags tags).setRank r
        { s.rank r with periodic := none }).setGroup g ((s.group g).without r)) :=
      (State.SameReports.abortTags (s := s) (t := s.removeTasks ch (fun t => t.rank == r)) ⟨rfl, rfl, rfl, rfl⟩ tags).trans ⟨rfl, rfl, rfl, rfl⟩
    rw [hremoved, hwithdrawn, State.workTags, htags, State.abortTags_append, State.abortTags_of_same hsame,
      State.abortTags_frame (s.removeTasks ch _)]
    generalize ((s.abortTags tags).abortTags _).outstanding = o
    generalize ((s.abortTags tags).abortTags _).records = l
    have hown : ((((((s.removeTasks ch (fun t => t.rank == r)).withReports ((s.removeTasks ch (fun t => t.rank == r)).abortTags tags).outstanding
        ((s.removeTasks ch (fun t => t.rank == r)).abortTags tags).records).setRank r { s.rank r with periodic := none }).setGroup g
          ((s.group g).without r)).withReports o l).rank r) = { s.rank r with periodic := none } := State.rank_setRank_self ..
    rw [hown]
    show State.setRank _ r _ = _
    simp only [State.retired, State.withReports, State.setRank, State.setGroup, Vector.set_set]
  have hscan : ∀ u : State, (u.rank r).group = some g → u.scanRank r = u.scanGroup g := fun u h => State.scanRank_eq h
  rw [State.takeOffline, hretired, hscan, State.scanGroup_withReports]
  show ((s.retired r ch g).rank r).group = some g
  rw [State.retired, State.rank_setRank_self]
  exact hg

theorem State.retired_group (s : State) (r : Slot) (ch : Chan) (g : GroupId) : (s.retired r ch g).group g = (s.group g).without r :=
  State.group_setGroup_self ..

/-- A rank taken offline holds no token and has no entry, where the token it held was HELD (R13). -/
theorem State.retired_standing {s : State} {r : Slot} {ch : Chan} {g : GroupId} (h : (s.group g).holder = some r → (s.group g).state = .held) :
    (s.retired r ch g).NoStanding g r := by
  rw [State.NoStanding, State.retired_group, CalGroup.without]
  split
  · exact ⟨(fun h => nomatch h), fun e he => by simpa using (List.mem_filter.mp he).2⟩
  · next hnot => exact ⟨fun hholder => hnot ⟨hholder, h hholder⟩, fun e he => by simpa using (List.mem_filter.mp he).2⟩

theorem State.retired_tasks {s : State} {r : Slot} {ch d : Chan} (g : GroupId)
    (hplace : ∀ (c : Chan), ∀ x ∈ (s.queue c).tasks, (s.rank x.rank).channel = some c) (hch : (s.rank r).channel = some ch) :
    ((s.retired r ch g).queue d).tasks = (s.queue d).tasks.filter (fun x => x.rank ≠ r) := by
  show ((s.removeTasks ch (fun t => t.rank == r)).queue d).tasks = _
  rw [State.removeTasks, State.queue_setQueue]
  split
  · next hd =>
    subst hd
    refine List.filter_congr fun x _ => ?_
    rw [Bool.eq_iff_iff]
    simp
  · next hd =>
    refine (List.filter_eq_self.mpr fun x hx => ?_).symm
    have hx := hplace d x hx
    refine decide_eq_true fun hr => hd ?_
    rw [hr, hch] at hx
    exact (Option.some.inj hx).symm

theorem State.takeOffline_retains (tag : Tag) {s : State} {r : Slot} {ch : Chan} {g : GroupId} (hch : (s.rank r).channel = some ch)
    (hg : (s.rank r).group = some g) : State.Retains tag s (s.takeOffline r) := by
  have htags : ∀ p : Task → Bool, s.Fresh tag → ∀ x ∈ (queueOrder ((s.queue ch).tasks.filter p)).filterMap Task.tag, x ≠ tag := fun p h => h.tags_ne ch p
  have hremove : State.Retains tag s (s.removeRankTasks r) := by
    intro hs
    rw [State.removeRankTasks_eq hch]
    exact ((State.Retains.removeTasks s ch _).trans (.abortTags _ fun _ => htags _ hs)) hs
  have hwithdraw : ∀ u : State, (u.rank r).group = some g → State.Retains tag u (u.withdrawCalibration r) := by
    intro u hu hs
    have hentry : ∀ x ∈ (((u.group g).waiting.find? (fun e => e.rank = r)).bind Entry.tag).toList, x ≠ tag := by
      intro x hx
      obtain ⟨e, he, htag⟩ := Option.bind_eq_some_iff.mp (Option.mem_toList.mp hx)
      rintro rfl
      exact (hs.2.2 g).1 e (List.mem_of_find?_eq_some he) htag
    rw [State.withdrawCalibration_eq hu]
    have hgroup : State.Retains tag (u.setRank r { u.rank r with periodic := none })
        ((u.setRank r { u.rank r with periodic := none }).setGroup g ((u.group g).without r)) := by
      refine .setGroup _ g _ fun hs => ?_
      obtain ⟨hwaiting, hheld⟩ := hs.2.2 g
      rw [CalGroup.without]
      split
      · exact ⟨fun e he => hwaiting e (List.mem_of_mem_filter he), (fun e he => nomatch he)⟩
      · exact ⟨fun e he => hwaiting e (List.mem_of_mem_filter he), hheld⟩
    exact (((State.Retains.setRank u r _).trans hgroup).trans (.abortTags _ fun _ => hentry)) hs
  have hgroup : ((s.removeRankTasks r).rank r).group = some g := by
    rw [State.removeRankTasks_eq hch, State.abortTags_frame]
    exact hg
  exact (State.scanRank_retains tag _ r).after ((State.Retains.setRank _ r _).after ((hwithdraw _ hgroup).after hremove))

/-- Settles O11: the rank's work goes with its completions, and the scan grants other ranks' entries alone. -/
theorem takeOffline : Obligations.TakeOffline := by
  intro s tag slot r ch g hadmits hfresh hlaw hslot hcheck hch hg hidle htoken
  have htake := takeCommand_takeOffline (u := s.taken tag (.takeOffline slot)) (tag := tag) hslot hcheck
  have hnone : s.executingFor r = none := by
    unfold State.executingFor
    simp only [hch]
    split
    · rfl
    · next f hf => exact if_neg (hidle f hf)
  rw [State.executingFor_of_taken, hnone, Option.isSome_none, if_neg Bool.false_ne_true] at htake
  have hretains := State.takeOffline_retains tag (s := s.taken tag (.takeOffline slot)) hch hg
  have heq := State.takeOffline_eq (s := s.taken tag (.takeOffline slot)) hch hg
  obtain ⟨t, hexec, hranks, hgroups, hqueues, hengines, hmonitor, -, hlost, hrecords⟩ :=
    exec_completed_last (c := .takeOffline slot) hadmits hfresh htake hretains
  rw [heq] at hranks hgroups hqueues hengines hmonitor hlost hrecords
  have hplace : ∀ (c : Chan), ∀ x ∈ (s.queue c).tasks, (s.rank x.rank).channel = some c := by
    obtain ⟨-, ha, hb⟩ := hlaw
    intro c x hx
    cases c
    · exact (ha.1 x hx).1
    · exact (hb.1 x hx).1
  have htasks : ∀ d, (((s.taken tag (.takeOffline slot)).retired r ch g).queue d).tasks = (s.queue d).tasks.filter (fun x => x.rank ≠ r) :=
    fun d => State.retired_tasks (s := s.taken tag (.takeOffline slot)) g hplace hch
  have hstanding : ((s.taken tag (.takeOffline slot)).retired r ch g).NoStanding g r := State.retired_standing (s := s.taken tag (.takeOffline slot)) htoken
  have hretiredRank : ∀ q, ((s.taken tag (.takeOffline slot)).retired r ch g).rank q =
      if q = r then { s.rank r with state := .offline, interval := none, periodic := none } else s.rank q := fun q => State.rank_setRank ..
  have hretiredLost : ((s.taken tag (.takeOffline slot)).retired r ch g).lost = s.lost := rfl
  have hretiredEngines : ((s.taken tag (.takeOffline slot)).retired r ch g).engines = s.engines := rfl
  have hretiredMonitor : ((s.taken tag (.takeOffline slot)).retired r ch g).monitor = s.monitor := rfl
  have htagsOf : (s.taken tag (.takeOffline slot)).workTags r ch g = s.workTags r ch g := rfl
  rw [htagsOf] at hrecords
  generalize (s.taken tag (.takeOffline slot)).retired r ch g = u at *
  have hrank : ∀ q, t.rank q = u.rank q := fun q => by
    rw [State.rank, hranks, State.scanGroup_frame]
    rfl
  have hqueue : ∀ d, t.queue d = (u.scanGroup g).queue d := fun d => by rw [State.queue, hqueues]; rfl
  have hgroup : t.group g = (u.scanGroup g).group g := by rw [State.group, hgroups]; rfl
  obtain ⟨hholder, hwaiting⟩ := State.scanGroup_standing hstanding
  refine ⟨t, hexec, ?_, fun q hq => ?_, fun d => ⟨fun x hx => ?_, ?_⟩, by rw [hgroup]; exact hholder, by rw [hgroup]; exact hwaiting, ?_, ?_, ?_, ?_⟩
  · rw [hrank, hretiredRank, if_pos rfl]
  · rw [hrank, hretiredRank, if_neg hq]
  · rw [hqueue] at hx
    obtain hx | ⟨e, he, -, -, hx⟩ := State.mem_scanGroup hx
    · rw [htasks] at hx
      simpa using (List.mem_filter.mp hx).2
    · rw [hx]
      exact hstanding.2 e he
  · rw [hqueue, ← htasks]
    exact u.scanGroup_grantsOnly g d
  · rw [hengines, ← hretiredEngines]
    show (u.scanGroup g).engines = _
    rw [State.scanGroup_frame]
  · rw [hmonitor, ← hretiredMonitor]
    show (u.scanGroup g).monitor = _
    rw [State.scanGroup_frame]
  · rw [hlost, ← hretiredLost]
    show (u.scanGroup g).lost = _
    rw [State.scanGroup_frame]
  · exact hrecords

/-! ### Exits created for several ranks -/

/-- The thermal exit of a rank (R95, R107). -/
def exitOf (r : Slot) : Task :=
  { seq := 0, rank := r, kind := .deepExit, cls := .urgent, count := none, tag := none, origin := .thermal, executing := false }

theorem State.notice_setQueue (s : State) (c : Chan) (q : Queue) (b : Notice) : (s.setQueue c q).notice b = (s.notice b).setQueue c q := by
  unfold State.notice
  have h : (s.setQueue c q).margin = s.margin := rfl
  rw [h]
  split <;> rfl

/-- Exits created one after the other join the queue's end in that order, each with its notice (R107). -/
theorem State.foldl_createExit (ch : Chan) (cause : ExitCause) (l : List Slot) (s : State) :
    l.foldl (fun u r => u.createExit ch r cause) s =
      (l.foldl (fun u r => u.notice (.thermalExit r (some ch) cause)) s).setQueue ch ((l.map exitOf).foldl Queue.insert (s.queue ch)) := by
  induction l generalizing s with
  | nil => exact (State.setQueue_queue_same s ch).symm
  | cons r l ih =>
    rw [List.foldl_cons, ih, State.createExit_eq, State.queue_of_notice, State.queue_setQueue_self, List.foldl_cons, List.map_cons, List.foldl_cons]
    have hcommute : ∀ (m : List Slot) (u : State) (q : Queue), m.foldl (fun u r => u.notice (.thermalExit r (some ch) cause)) (u.setQueue ch q) =
        (m.foldl (fun u r => u.notice (.thermalExit r (some ch) cause)) u).setQueue ch q := by
      intro m
      induction m with
      | nil => intro u q; rfl
      | cons x m ih => intro u q; rw [List.foldl_cons, List.foldl_cons, State.notice_setQueue, ih]
    rw [State.notice_setQueue, hcommute, State.setQueue_setQueue]
    rfl

theorem State.taskAt_createExit {s : State} {ch : Chan} {r q : Slot} (cause : ExitCause) (hq : q ≠ r) (p : TaskSlot) :
    (s.createExit ch r cause).taskAt q p = s.taskAt q p := by
  have hkeep : s.KeepsTasks (fun x => decide (x.rank = q)) (s.createExit ch r cause) :=
    (State.KeepsTasks.notice _ _).after (.insertTask s ch fun _ => decide_eq_false hq.symm)
  refine hkeep.taskAt_eq ?_ fun x hx _ => decide_eq_true hx
  rw [State.createExit_frame]
  rfl

/-- Ranks of one channel brought out in a row, none with a power task: each gets an exit, in that order (R107, R109, R128). -/
theorem State.foldl_bringOut {ch : Chan} {cause : ExitCause} {P : Slot → Bool} {f : State → Slot → State} (l : List Slot) (hl : l.Nodup) {s : State}
    (hf : ∀ u : State, u.ranks = s.ranks → ∀ r, f u r = if P r = true then u.bringOut r cause else u)
    (hmark : (s.engine ch).resetMark = false) (hch : ∀ r ∈ l, P r = true → (s.rank r).channel = some ch)
    (hnone : ∀ r ∈ l, P r = true → s.taskAt r .power = none) :
    l.foldl f s = (l.filter P).foldl (fun u r => u.createExit ch r cause) s := by
  induction l generalizing s with
  | nil => rfl
  | cons r l ih =>
    obtain ⟨hr, hl⟩ := List.nodup_cons.mp hl
    rw [List.foldl_cons, hf s rfl, List.filter_cons]
    split
    · next hP =>
      rw [State.bringOut_of_none (hch r List.mem_cons_self hP) hmark (hnone r List.mem_cons_self hP), List.foldl_cons]
      have hranks : (s.createExit ch r cause).ranks = s.ranks := by rw [State.createExit_frame]
      refine ih hl (fun u hu q => hf u (hu.trans hranks) q) ?_ (fun q hq hP => ?_) fun q hq hP => ?_
      · rw [State.createExit_frame]
        exact hmark
      · rw [State.rank, hranks]
        exact hch q (List.mem_cons_of_mem _ hq) hP
      · rw [State.taskAt_createExit cause (fun h : q = r => hr (h ▸ hq))]
        exact hnone q (List.mem_cons_of_mem _ hq) hP
    · exact ih hl hf hmark (fun q hq => hch q (List.mem_cons_of_mem _ hq)) fun q hq => hnone q (List.mem_cons_of_mem _ hq)

/-- In a channel that is resetting nothing is brought out (R107). -/
theorem State.foldl_bringOut_of_mark {ch : Chan} {cause : ExitCause} {P : Slot → Bool} {f : State → Slot → State} (l : List Slot) {s : State}
    (hf : ∀ r, f s r = if P r = true then s.bringOut r cause else s)
    (hmark : (s.engine ch).resetMark = true) (hch : ∀ r ∈ l, P r = true → (s.rank r).channel = some ch) : l.foldl f s = s := by
  induction l with
  | nil => rfl
  | cons r l ih =>
    have hfirst : f s r = s := by
      rw [hf]
      split
      · next hP => exact State.bringOut_of_mark (hch r List.mem_cons_self hP) hmark cause
      · rfl
    rw [List.foldl_cons, hfirst]
    exact ih fun q hq => hch q (List.mem_cons_of_mem _ hq)

/-- Tasks inserted one after the other extend the queue in that order (R114). -/
theorem Queue.foldl_insert_tasks (l : List Task) (q : Queue) : ∃ m, (l.foldl Queue.insert q).tasks = q.tasks ++ m ∧
    m.map (fun x => { x with seq := 0 }) = l.map (fun x => { x with seq := 0 }) := by
  induction l generalizing q with
  | nil => exact ⟨[], (List.append_nil _).symm, rfl⟩
  | cons x l ih =>
    obtain ⟨m, hm, hmap⟩ := ih (q.insert x)
    exact ⟨{ x with seq := q.seq } :: m, by rw [List.foldl_cons, hm, Queue.insert, List.append_assoc]; rfl, by rw [List.map_cons, hmap]; rfl⟩

/-- Notices in a row are written in that order, or counted as lost (R177, R179). -/
theorem State.foldl_notice_records {α : Type} (b : α → Notice) (l : List α) (s : State) :
    ExtendedBy s.records (l.foldl (fun u a => u.notice (b a)) s).records (fun x => ∃ a ∈ l, x = .notice (b a) s.timestamp) := by
  induction l generalizing s with
  | nil => exact .refl _ _
  | cons a l ih =>
    have hfirst : ExtendedBy s.records (s.notice (b a)).records (fun x => ∃ c ∈ a :: l, x = .notice (b c) s.timestamp) := by
      unfold State.notice
      split
      · exact .refl _ _
      · exact ⟨_, rfl, fun x hx => ⟨a, List.mem_cons_self, List.mem_singleton.mp hx⟩⟩
    obtain ⟨m, hm, hall⟩ := ih (s.notice (b a))
    refine hfirst.trans ⟨m, hm, fun x hx => ?_⟩
    obtain ⟨c, hc, rfl⟩ := hall x hx
    exact ⟨c, List.mem_cons_of_mem _ hc, by rw [State.notice_timestamp]⟩

theorem ExtendedBy.mono {α : Type} {l m : List α} {P Q : α → Prop} (h : ExtendedBy l m P) (hPQ : ∀ x, P x → Q x) : ExtendedBy l m Q := by
  obtain ⟨k, hk, hall⟩ := h
  exact ⟨k, hk, fun x hx => hPQ x (hall x hx)⟩

/-! ### FLUSH_HOST -/

theorem State.oneInPlace_of_nodup {s : State} {ch : Chan} (h : ((s.queue ch).tasks.map (fun x => (x.rank, x.kind.place))).Nodup) (r : Slot)
    (p : TaskSlot) : s.OneInPlace ch r p := by
  intro x hx y hy hxr hyr hxp hyp
  exact List.inj_on_of_nodup_map h hx hy (by rw [hxr, hyr, hxp, hyp])

/-- Whether a removed task leaves a rank that is to be brought out (R109). -/
def State.replaces (s : State) (gone : List Task) (r : Slot) : Bool :=
  gone.any (fun t => t.rank == r && t.kind == .deepExit) && decide ((s.rank r).state = .deep ∧ (s.rank r).band = 3)

/-- The ranks brought out again in a flush, where the channel is not resetting (R109). -/
def State.replaced (s : State) (ch : Chan) (gone : List Task) : List Slot :=
  if (s.engine ch).resetMark = true then [] else allSlots.filter (s.replaces gone)

theorem State.foldl_replaceExit {s : State} {ch : Chan} {gone : List Task}
    (hch : ∀ x ∈ gone, (s.rank x.rank).channel = some ch) (hnone : ∀ x ∈ gone, x.kind = .deepExit → s.taskAt x.rank .power = none) :
    allSlots.foldl (fun s r => if gone.any (fun t => t.rank == r && t.kind == .deepExit) then s.replaceExit r else s) s =
      (s.replaced ch gone).foldl (fun u r => u.createExit ch r .replaced) s := by
  have hstep : ∀ u : State, u.ranks = s.ranks → ∀ r, (if gone.any (fun t => t.rank == r && t.kind == .deepExit) = true then u.replaceExit r else u) =
      if s.replaces gone r = true then u.bringOut r .replaced else u := by
    intro u hu r
    have hrank : u.rank r = s.rank r := by rw [State.rank, hu]; rfl
    unfold State.replaces State.replaceExit
    rw [hrank]
    cases gone.any fun t => t.rank == r && t.kind == .deepExit <;> simp
  have hof : ∀ r, s.replaces gone r = true → ∃ x ∈ gone, x.rank = r ∧ x.kind = .deepExit := by
    intro r hr
    have hany := (Bool.and_eq_true_iff.mp hr).1
    simpa using hany
  have hchannel : ∀ r ∈ allSlots, s.replaces gone r = true → (s.rank r).channel = some ch := fun r _ hr => by
    obtain ⟨x, hx, rfl, -⟩ := hof r hr
    exact hch x hx
  unfold State.replaced
  split
  · next hmark => exact State.foldl_bringOut_of_mark allSlots (hstep s rfl) hmark hchannel
  · next hmark =>
    refine State.foldl_bringOut allSlots (by decide) hstep (by simpa using hmark) hchannel fun r _ hr => ?_
    obtain ⟨x, hx, rfl, hkind⟩ := hof r hr
    exact hnone x hx hkind

/-- Grant scans of some groups. -/
theorem State.foldl_scan (l : List GroupId) (P : State → GroupId → Bool) (s : State) :
    s.GrantsOnly (l.foldl (fun s g => if P s g = true then s.scanGroup g else s) s) ∧
      l.foldl (fun s g => if P s g = true then s.scanGroup g else s) s =
        { s with
          groups := (l.foldl (fun s g => if P s g = true then s.scanGroup g else s) s).groups
          queues := (l.foldl (fun s g => if P s g = true then s.scanGroup g else s) s).queues } := by
  have hstep : ∀ (u : State) (g : GroupId), u.GrantsOnly (if P u g = true then u.scanGroup g else u) ∧
      (if P u g = true then u.scanGroup g else u) = { u with
        groups := (if P u g = true then u.scanGroup g else u).groups, queues := (if P u g = true then u.scanGroup g else u).queues } := by
    intro u g
    split
    · exact ⟨u.scanGroup_grantsOnly g, u.scanGroup_frame g⟩
    · exact ⟨.refl u, rfl⟩
  induction l generalizing s with
  | nil => exact ⟨.refl s, rfl⟩
  | cons g l ih =>
    obtain ⟨hgrants, hframe⟩ := ih (if P s g = true then s.scanGroup g else s)
    obtain ⟨hfirst, hfirst'⟩ := hstep s g
    rw [List.foldl_cons]
    exact ⟨hfirst.trans hgrants, by rw [hframe, hfirst']⟩

/-- The state a flush leaves, but for the grant scans (R109, R124). -/
def State.flushed (s : State) (ch : Chan) (gone : List Task) : State :=
  (s.replaced ch gone).foldl (fun u r => u.createExit ch r .replaced)
    ((s.removeTasks ch Task.flushed).abortTags ((queueOrder gone).filterMap Task.tag))

theorem State.flush_eq {s : State} {ch : Chan} (hch : ∀ x ∈ (s.queue ch).tasks, (s.rank x.rank).channel = some ch)
    (hnodup : ((s.queue ch).tasks.map (fun x => (x.rank, x.kind.place))).Nodup) : s.flush ch =
      allGroups.foldl (fun u g => if (fun (u : State) g => ((s.queue ch).tasks.filter Task.flushed).any
        (fun t => t.kind == .deepEnter && (u.rank t.rank).group == some g)) u g = true then u.scanGroup g else u)
          (s.flushed ch ((s.queue ch).tasks.filter Task.flushed)) := by
  have hrankOf : ∀ r, ((s.removeTasks ch Task.flushed).abortTags
      ((queueOrder ((s.queue ch).tasks.filter Task.flushed)).filterMap Task.tag)).rank r = s.rank r := fun r => by
    rw [State.abortTags_frame]
    rfl
  have hqueueOf : ((s.removeTasks ch Task.flushed).abortTags
      ((queueOrder ((s.queue ch).tasks.filter Task.flushed)).filterMap Task.tag)).queue ch =
        { s.queue ch with tasks := (s.queue ch).tasks.filter (fun t => !t.flushed) } := by
    rw [State.abortTags_frame]
    exact State.queue_setQueue_self ..
  have hengineOf : ((s.removeTasks ch Task.flushed).abortTags
      ((queueOrder ((s.queue ch).tasks.filter Task.flushed)).filterMap Task.tag)).engine ch = s.engine ch := by
    rw [State.abortTags_frame]
    rfl
  have hreplaced : ((s.removeTasks ch Task.flushed).abortTags ((queueOrder ((s.queue ch).tasks.filter Task.flushed)).filterMap Task.tag)).replaced ch
      ((s.queue ch).tasks.filter Task.flushed) = s.replaced ch ((s.queue ch).tasks.filter Task.flushed) := by
    unfold State.replaced State.replaces
    simp only [hrankOf, hengineOf]
  unfold State.flush State.flushed
  simp only
  rw [State.abortTasks_eq, State.foldl_replaceExit (ch := ch), hreplaced]
  · intro x hx
    rw [hrankOf]
    exact hch x (List.mem_of_mem_filter hx)
  · intro x hx hkind
    obtain ⟨hx, hflushed⟩ := List.mem_filter.mp hx
    rw [State.taskAt_eq_head? (ch := ch) (by rw [hrankOf]; exact hch x hx), hqueueOf, List.head?_eq_none_iff, List.filter_eq_nil_iff]
    intro y hy hyp
    obtain ⟨hy, hnot⟩ := List.mem_filter.mp hy
    obtain ⟨hrank, hplace⟩ := of_decide_eq_true hyp
    have hsame := State.oneInPlace_of_nodup hnodup x.rank .power x hx y hy rfl hrank (by rw [hkind]; rfl) hplace
    rw [← hsame, hflushed] at hnot
    cases hnot

theorem State.abortTasks_retains (tag : Tag) (s : State) (c : Chan) (gone p : Task → Bool) :
    State.Retains tag s ((s.removeTasks c gone).abortTasks ((s.queue c).tasks.filter p)) := by
  intro hs
  rw [State.abortTasks_eq]
  exact ((State.Retains.removeTasks s c gone).trans (.abortTags _ fun _ => hs.tags_ne c p)) hs

theorem State.flush_retains (tag : Tag) (s : State) (c : Chan) : State.Retains tag s (s.flush c) := by
  unfold State.flush
  simp only
  refine (State.Retains.foldl _ _ _ fun u g _ => ?_).after
    ((State.Retains.foldl _ _ _ fun u r _ => ?_).after (s.abortTasks_retains tag c _ _))
  · split
    · exact u.scanGroup_retains tag g
    · exact .refl u
  · split
    · unfold State.replaceExit
      split
      · exact u.bringOut_retains tag r _
      · exact .refl u
    · exact .refl u

/-- Tasks taken out of a queue with their completions change that queue and the reports alone (R115). -/
theorem State.removed_aborted (s : State) (ch : Chan) (gone : Task → Bool) (tags : List Tag) :
    let u := (s.removeTasks ch gone).abortTags tags
    u.ranks = s.ranks ∧ u.engines = s.engines ∧ u.monitor = s.monitor ∧
    u.queue ch = { s.queue ch with tasks := (s.queue ch).tasks.filter (fun t => !gone t) } ∧ (∀ d, d ≠ ch → u.queue d = s.queue d) ∧
    u.records = (s.abortTags tags).records ∧ u.timestamp = s.timestamp := by
  intro u
  have hu : u = _ := State.abortTags_of_same (s := s) (t := s.removeTasks ch gone) ⟨rfl, rfl, rfl, rfl⟩ tags
  rw [hu]
  exact ⟨rfl, rfl, rfl, State.queue_setQueue_self .., fun d hd => State.queue_setQueue_ne _ _ hd, rfl, rfl⟩

/-- What a flush leaves (R109, R124, R125). -/
theorem State.flush_taken {s : State} {ch : Chan} (hch : ∀ x ∈ (s.queue ch).tasks, (s.rank x.rank).channel = some ch)
    (hnodup : ((s.queue ch).tasks.map (fun x => (x.rank, x.kind.place))).Nodup) :
    let gone := (s.queue ch).tasks.filter Task.flushed
    let v := s.flush ch
    v.ranks = s.ranks ∧ v.engines = s.engines ∧ v.monitor = s.monitor ∧
    ExtendedBy ((s.queue ch).tasks.filter (fun x => !x.flushed)) (v.queue ch).tasks
      (fun x => (x.kind = .deepExit ∧ x.origin = .thermal ∧ x.cls = .urgent) ∨ x.kind = .calShort ∨ x.kind = .calLong) ∧
    (∀ d : Chan, d ≠ ch → ExtendedBy (s.queue d).tasks (v.queue d).tasks (fun x => x.kind = .calShort ∨ x.kind = .calLong)) ∧
    (∀ r ∈ s.replaced ch gone, ∃ y ∈ (v.queue ch).tasks, y.rank = r ∧ y.kind = .deepExit ∧ y.origin = .thermal ∧ y.cls = .urgent) ∧
    ExtendedBy (s.abortTags ((queueOrder gone).filterMap Task.tag)).records v.records
      (fun x => ∃ r ∈ allSlots, x = .notice (.thermalExit r (some ch) .replaced) s.timestamp) := by
  intro gone v
  have hv : v = _ := State.flush_eq hch hnodup
  obtain ⟨hgrants, hscans⟩ := State.foldl_scan allGroups (fun (u : State) g => gone.any
        (fun t => t.kind == .deepEnter && (u.rank t.rank).group == some g)) (s.flushed ch gone)
  rw [← hv] at hgrants hscans
  have hflushed : s.flushed ch gone = _ := State.foldl_createExit ch .replaced (s.replaced ch gone) _
  obtain ⟨hranks, hengines, hmonitor, hqueueBase, hotherBase, hrecords, htime⟩ := s.removed_aborted ch Task.flushed
    ((queueOrder gone).filterMap Task.tag)
  generalize (s.removeTasks ch Task.flushed).abortTags ((queueOrder gone).filterMap Task.tag) = base at *
  have htold : ExtendedBy base.records ((s.replaced ch gone).foldl (fun u r => u.notice (.thermalExit r (some ch) .replaced)) base).records _ :=
    State.foldl_notice_records (fun r => .thermalExit r (some ch) .replaced) (s.replaced ch gone) base
  have hnotices := State.foldl_notice_frame (fun r => .thermalExit r (some ch) .replaced) (s.replaced ch gone) base
  generalize (s.replaced ch gone).foldl (fun u r => u.notice (.thermalExit r (some ch) .replaced)) base = told at *
  obtain ⟨m, hm, hmap⟩ := Queue.foldl_insert_tasks ((s.replaced ch gone).map exitOf) (base.queue ch)
  have hexits : ∀ x ∈ m, x.kind = .deepExit ∧ x.origin = .thermal ∧ x.cls = .urgent := by
    intro x hx
    have hx : { x with seq := 0 } ∈ ((s.replaced ch gone).map exitOf).map (fun x => { x with seq := 0 }) := by
      rw [← hmap]
      exact List.mem_map_of_mem hx
    rw [List.map_map, List.mem_map] at hx
    obtain ⟨r, -, hr⟩ := hx
    have hkind := congrArg Task.kind hr
    have horigin := congrArg Task.origin hr
    have hcls := congrArg Task.cls hr
    exact ⟨hkind.symm, horigin.symm, hcls.symm⟩
  have hown : ((s.flushed ch gone).queue ch).tasks = (s.queue ch).tasks.filter (fun t => !t.flushed) ++ m := by
    rw [hflushed, State.queue_setQueue_self, hm, hqueueBase]
  refine ⟨?_, ?_, ?_, ?_, fun d hd => ?_, fun r hr => ?_, ?_⟩
  · rw [hscans, hflushed, hnotices]
    exact hranks
  · rw [hscans, hflushed, hnotices]
    exact hengines
  · rw [hscans, hflushed, hnotices]
    exact hmonitor
  · refine ExtendedBy.trans ⟨m, hown, fun x hx => .inl (hexits x hx)⟩ ((hgrants ch).mono fun x hx => .inr hx)
  · have hsame : (s.flushed ch gone).queue d = s.queue d := by
      rw [hflushed, State.queue_setQueue_ne _ _ hd, hnotices]
      exact hotherBase d hd
    rw [← hsame]
    exact hgrants d
  · have hr' : { exitOf r with seq := 0 } ∈ m.map (fun x => { x with seq := 0 }) := by
      rw [hmap, List.map_map]
      exact List.mem_map_of_mem (f := (fun x : Task => { x with seq := 0 }) ∘ exitOf) hr
    obtain ⟨y, hy, hyr⟩ := List.mem_map.mp hr'
    obtain ⟨hkind, horigin, hcls⟩ := hexits y hy
    have hrank := congrArg Task.rank hyr
    refine ⟨y, (hgrants ch).subset ?_, hrank, hkind, horigin, hcls⟩
    rw [hown]
    exact List.mem_append_right _ hy
  · rw [hscans, hflushed, ← hrecords]
    refine htold.mono fun x hx => ?_
    obtain ⟨r, -, hr⟩ := hx
    rw [htime] at hr
    exact ⟨r, mem_allSlots r, hr⟩

theorem takeCommand_flushHost {u : State} {tag : Tag} {channel : BitVec 8} {ch : Chan} (hch : chanOf channel = some ch) :
    takeCommand tag (.flushHost channel) u =
      (u.flush ch).complete tag .done (.count ((u.queue ch).tasks.filter Task.flushed).length) := by
  show runFlushHost tag channel u = _
  simp only [runFlushHost, hch, List.countP_eq_length_filter]

/-- Settles O16: the host's work goes in queue order, the exits that are replaced and the grants follow, and the command completes last. -/
theorem flushHost : Obligations.FlushHost := by
  intro s tag channel ch hadmits hfresh hlaw hwork hchannel gone removed
  have hflushed : gone = Task.flushed := by
    funext x
    have hplace : (x.kind.place == .power) = (x.kind == .napEnter || x.kind == .napExit || x.kind == .deepEnter || x.kind == .deepExit) := by
      cases x.kind <;> rfl
    simp only [gone, Task.flushed, Task.hostOwned, hplace, Bool.and_comm]
  have hremoved : removed = (s.queue ch).tasks.filter Task.flushed := by rw [← hflushed]
  clear_value gone removed
  subst hflushed hremoved
  have hplace : s.PlaceLaw ch := by
    obtain ⟨-, ha, hb⟩ := hlaw
    cases ch
    · exact ha
    · exact hb
  have hqueue : s.QueueLaw ch := by
    obtain ⟨ha, hb, -⟩ := hwork
    cases ch
    · exact ha
    · exact hb
  obtain ⟨hnodup, -, hpower, -⟩ := hqueue
  have htake := takeCommand_flushHost (u := s.taken tag (.flushHost channel)) (tag := tag) hchannel
  have hretains := (s.taken tag (.flushHost channel)).flush_retains tag ch
  have htaken := State.flush_taken (s := s.taken tag (.flushHost channel)) (ch := ch) (fun x hx => (hplace.1 x hx).1) hnodup
  obtain ⟨t, hexec, hranks, -, hqueues, hengines, hmonitor, -, -, hrecords⟩ :=
    exec_completed_last (c := .flushHost channel) hadmits hfresh htake hretains
  have hreplaced : (s.taken tag (.flushHost channel)).replaced ch ((s.queue ch).tasks.filter Task.flushed) =
      s.replaced ch ((s.queue ch).tasks.filter Task.flushed) := rfl
  simp only [State.queue_of_taken, hreplaced] at htaken hrecords
  generalize (s.taken tag (.flushHost channel)).flush ch = v at htaken hranks hqueues hengines hmonitor hrecords
  have hqueue : ∀ d, t.queue d = v.queue d := fun d => by rw [State.queue, hqueues]; rfl
  obtain ⟨hvranks, hvengines, hvmonitor, hown, hothers, hexits, hvrecords⟩ := htaken
  refine ⟨t, hexec, hranks.trans hvranks, hengines.trans hvengines, hmonitor.trans hvmonitor, by rw [hqueue]; exact hown,
    fun d hd => by rw [hqueue]; exact hothers d hd, fun x hx hkind hband hmark => ?_, ?_, ?_⟩
  · rw [hqueue]
    refine hexits x.rank ?_
    have hdeep : (s.rank x.rank).state = .deep := ((hpower x (List.mem_of_mem_filter hx)).1 hkind).1
    rw [State.replaced, if_neg (by rw [hmark]; decide), List.mem_filter, State.replaces, Bool.and_eq_true, List.any_eq_true]
    exact ⟨mem_allSlots _, ⟨x, hx, by simp [hkind]⟩, decide_eq_true ⟨hdeep, hband⟩⟩
  · rw [hrecords]
    refine (hvrecords.mono fun x hx => .inr hx).trans ⟨_, rfl, fun x hx => .inl (List.mem_singleton.mp hx)⟩
  · rw [hrecords, List.getLast?_append, List.getLast?_singleton]
    rfl

end Sys2Proof.Machine
end

section
/-! SUPPORT and the proofs of O17, O18: channel resets, and what scans, tokens taken back and recreated work leave of groups and queues (R92, R93, R126,
R128, R166, R167, R174). -/

namespace Sys2Proof.Machine

-- Proofs are elaborated one after the other, which bounds the memory a compile reserves.
set_option Elab.async false

/-! ### Groups after scans -/

/-- A group after a scan in which the entries `next` are eligible (R81, R83). -/
def CalGroup.scanned (x : CalGroup) (next : Entry → Bool) (due : Nat) : CalGroup :=
  if x.state = .free ∧ x.waiting.any next = true then
    { x with
      state := .held, holder := (x.waiting.find? next).map Entry.rank, heldEntry := x.waiting.find? next
      waiting := x.waiting.eraseP next, tokenTimer := some due }
  else x

theorem CalGroup.scanned_of_taken {x : CalGroup} (h : x.state ≠ .free) (next : Entry → Bool) (due : Nat) : x.scanned next due = x :=
  if_neg fun h' => h h'.1

theorem CalGroup.scanned_of_none {x : CalGroup} {next : Entry → Bool} (h : x.waiting.any next = false) (due : Nat) : x.scanned next due = x :=
  if_neg fun h' => by rw [h] at h'; exact Bool.false_ne_true h'.2

theorem CalGroup.scanned_of_some {x : CalGroup} {next : Entry → Bool} (hfree : x.state = .free) (h : x.waiting.any next = true) (due : Nat) :
    x.scanned next due = { x with
      state := .held, holder := (x.waiting.find? next).map Entry.rank, heldEntry := x.waiting.find? next
      waiting := x.waiting.eraseP next, tokenTimer := some due } :=
  if_pos ⟨hfree, h⟩

theorem any_of_find?_eq_some {α : Type} {p : α → Bool} {l : List α} {a : α} (h : l.find? p = some a) : l.any p = true :=
  List.any_eq_true.mpr ⟨a, List.mem_of_find?_eq_some h, List.find?_some h⟩

theorem State.scanGroup_group (s : State) (g h : GroupId) : (s.scanGroup g).group h =
    if h = g then (s.group g).scanned s.eligible (s.now + s.timing.tokenHold) else s.group h := by
  split
  · next hg =>
    subst hg
    by_cases hfree : (s.group h).state = .free
    · cases hfind : (s.group h).waiting.find? s.eligible with
      | none =>
        have hnone : (s.group h).waiting.any s.eligible = false := by
          rw [List.any_eq_false]
          exact List.find?_eq_none.mp hfind
        rw [State.scanGroup_of_none s h hfind, CalGroup.scanned_of_none hnone]
      | some e =>
        rw [State.scanGroup_of_some s h e hfree hfind, State.grant_group, CalGroup.scanned_of_some hfree (any_of_find?_eq_some hfind), hfind]
        rfl
    · rw [State.scanGroup_of_taken s h hfree, CalGroup.scanned_of_taken hfree]
  · next hg => exact State.scanGroup_group_ne s hg

/-- What grant scans can change (R81, R83): the groups, and the queues of the channels that have an eligible rank; who is eligible stays. -/
structure State.Scans (s t : State) : Prop where
  frame : t = { s with groups := t.groups, queues := t.queues }
  grants : s.GrantsOnly t
  eligible : t.eligible = s.eligible
  spared : ∀ c : Chan, (∀ e, s.eligible e = true → (s.rank e.rank).channel ≠ some c) → t.queue c = s.queue c

namespace State.Scans

variable {s t u : State}

theorem refl (s : State) : s.Scans s := ⟨rfl, .refl s, rfl, fun _ _ => rfl⟩

theorem rank_eq (h : s.Scans t) (r : Slot) : t.rank r = s.rank r := by rw [h.frame]; rfl

theorem trans (h : s.Scans t) (h' : t.Scans u) : s.Scans u := by
  refine ⟨by rw [h'.frame, h.frame], h.grants.trans h'.grants, h'.eligible.trans h.eligible, fun c hc => ?_⟩
  refine (h'.spared c fun e he => ?_).trans (h.spared c hc)
  rw [h.rank_eq]
  rw [h.eligible] at he
  exact hc e he

theorem setGroup (s : State) (g : GroupId) (x : CalGroup) : s.Scans (s.setGroup g x) :=
  ⟨rfl, .of_queues rfl, State.eligible_congr (fun _ => rfl) (fun _ => rfl) (fun _ => rfl) rfl rfl, fun _ _ => rfl⟩

theorem scanGroup (s : State) (g : GroupId) : s.Scans (s.scanGroup g) := by
  have hframe := s.scanGroup_frame g
  have hrank : ∀ q, (s.scanGroup g).rank q = s.rank q := fun q => by rw [hframe]; rfl
  have hpower : s.KeepsTasks (fun x => decide (x.kind.place = .power)) (s.scanGroup g) :=
    (s.scanGroup_grantsOnly g).keeps fun x hx => by rw [TaskKind.place_eq_calibration.mpr hx]; rfl
  refine ⟨hframe, s.scanGroup_grantsOnly g, ?_, fun c hc => ?_⟩
  · refine State.eligible_congr (fun q => by rw [hrank]) (fun q => by rw [hrank]) (fun q => ?_) (by rw [hframe]) (by rw [hframe])
    exact hpower.taskAt_eq (by rw [hrank]) fun x _ hx => decide_eq_true hx
  · obtain hsame | ⟨e, -, -, -, helig, hgrant⟩ := s.scanGroup_cases g
    · rw [hsame]
    · rw [hgrant]
      have hchannel := hc e helig
      unfold State.grant
      simp only
      split
      · rfl
      · next d hd => exact State.queue_setQueue_ne _ _ fun h => hchannel (h ▸ hd)

/-- A run of such steps. -/
theorem foldl {α : Type} {f : State → α → State} (l : List α) (s : State) (h : ∀ (u : State) (a : α), u.Scans (f u a)) : s.Scans (l.foldl f s) := by
  induction l generalizing s with
  | nil => exact refl s
  | cons a l ih => exact (h s a).trans (ih _)

theorem scanAll (s : State) : s.Scans s.scanAll := foldl allGroups s State.Scans.scanGroup

theorem resetGroup (s : State) (c : Chan) (g : GroupId) : s.Scans (s.resetGroup c g) := by
  unfold State.resetGroup
  simp only
  split
  · exact refl s
  · split
    · split
      · exact ((setGroup s g _).trans (setGroup _ g _)).trans (scanGroup _ g)
      · exact setGroup s g _
      · exact refl s
    · exact refl s

end State.Scans

/-- Each group after steps that each write one group, by a function of that group that such steps leave the same. -/
theorem State.foldl_groups {f : State → GroupId → State} {F : State → CalGroup → CalGroup} (hscans : ∀ (u : State) (g : GroupId), u.Scans (f u g))
    (hf : ∀ u g h, (f u g).group h = if h = g then F u (u.group g) else u.group h) (hF : ∀ u v : State, u.Scans v → F v = F u)
    (l : List GroupId) (hl : l.Nodup) (s : State) (h : GroupId) : (l.foldl f s).group h = if h ∈ l then F s (s.group h) else s.group h := by
  induction l generalizing s with
  | nil => rfl
  | cons g l ih =>
    obtain ⟨hg, hl⟩ := List.nodup_cons.mp hl
    rw [List.foldl_cons, ih hl, hF s _ (hscans s g), hf]
    by_cases hh : h = g
    · subst hh
      rw [if_neg hg, if_pos rfl, if_pos List.mem_cons_self]
    · simp [hh]

theorem mem_allGroups (g : GroupId) : g ∈ allGroups := by revert g; decide

theorem State.scanAll_group (s : State) (g : GroupId) :
    s.scanAll.group g = (s.group g).scanned s.eligible (s.now + s.timing.tokenHold) := by
  have h := State.foldl_groups (f := State.scanGroup) (F := fun u x => x.scanned u.eligible (u.now + u.timing.tokenHold)) State.Scans.scanGroup
    (fun u g h => u.scanGroup_group g h) (fun u v huv => by rw [huv.eligible, huv.frame]) allGroups (by decide) s g
  rw [if_pos (mem_allGroups g)] at h
  exact h

/-- A group after its part in a channel reset (R92, R93), where `mine` are the entries of the channel's ranks. -/
def CalGroup.resetBy (x : CalGroup) (mine can : Entry → Bool) (due : Nat) : CalGroup :=
  match x.heldEntry with
  | none => x
  | some e =>
    if mine e = true then
      match x.state with
      | .held => CalGroup.scanned { state := .free, holder := none, heldEntry := none, waiting := x.waiting ++ [e], tokenTimer := none
                                    discard := false } can due
      | .calibrating => { x with discard := true }
      | .free => x
    else x

/-- The entries of a channel's ranks. -/
def State.entryOf (s : State) (c : Chan) (e : Entry) : Bool := decide ((s.rank e.rank).channel = some c)

theorem State.resetGroup_group (s : State) (c : Chan) (g h : GroupId) : (s.resetGroup c g).group h =
    if h = g then (s.group g).resetBy (s.entryOf c) s.eligible (s.now + s.timing.tokenHold) else s.group h := by
  have helig : ∀ e, ((s.freeGroup g).joinTail g e).eligible = s.eligible := fun e =>
    ((State.Scans.setGroup s g _).trans (State.Scans.setGroup (s.freeGroup g) g _)).eligible
  cases he : (s.group g).heldEntry with
  | none =>
    simp only [State.resetGroup, CalGroup.resetBy, he]
    split
    · next hg => rw [hg]
    · rfl
  | some e =>
    simp only [State.resetGroup, CalGroup.resetBy, he, State.entryOf, decide_eq_true_eq]
    by_cases hch : (s.rank e.rank).channel = some c
    · rw [if_pos hch, if_pos hch]
      cases hstate : (s.group g).state with
      | held =>
        simp only
        rw [State.scanGroup_group, helig]
        by_cases hg : h = g
        · subst hg
          simp [State.freeGroup, State.joinTail]
        · rw [if_neg hg, if_neg hg, State.joinTail, State.group_setGroup_ne _ _ hg, State.freeGroup, State.group_setGroup_ne _ _ hg]
      | calibrating =>
        simp only
        rw [State.group_setGroup]
      | free =>
        simp only
        split
        · next hg => rw [hg]
        · rfl
    · rw [if_neg hch, if_neg hch]
      split
      · next hg => rw [hg]
      · rfl

theorem State.foldl_resetGroup_group (s : State) (c : Chan) (g : GroupId) : (allGroups.foldl (fun s g => s.resetGroup c g) s).group g =
    (s.group g).resetBy (s.entryOf c) s.eligible (s.now + s.timing.tokenHold) := by
  have h := State.foldl_groups (f := fun s g => s.resetGroup c g)
    (F := fun u x => x.resetBy (u.entryOf c) u.eligible (u.now + u.timing.tokenHold)) (fun u g => State.Scans.resetGroup u c g)
    (fun u g h => u.resetGroup_group c g h) (fun u v huv => by
      have hentry : v.entryOf c = u.entryOf c := by
        funext e
        simp only [State.entryOf, huv.rank_eq]
      rw [hentry, huv.eligible, huv.frame]) allGroups (by decide) s g
  rw [if_pos (mem_allGroups g)] at h
  exact h

/-! ### A channel reset up to the look at its task in flight -/

/-- The entries that can use a token while a channel is resetting: those of the other channel that could before (R80). -/
def State.eligibleOutside (s : State) (c : Chan) (e : Entry) : Bool := (s.rank e.rank).channel != some c && s.eligible e

theorem State.eligible_of_channel {s : State} {e : Entry} {c : Chan} (hch : (s.rank e.rank).channel = some c) : s.eligible e =
    (((s.rank e.rank).state == .online || (s.rank e.rank).state == .nap || ((s.rank e.rank).state == .faulted && e.origin == .host)) &&
      !s.deepEnterQueued e.rank && ((s.nego c).state != .stalled && !(s.engine c).resetMark)) := by
  simp only [State.eligible, hch, State.resetting]

theorem State.eligible_of_noChannel {s : State} {e : Entry} (hch : (s.rank e.rank).channel = none) : s.eligible e = false := by
  simp only [State.eligible, hch, Bool.and_false]

/-- Who is eligible while a channel is resetting, from a state that agrees on the other channel. -/
theorem State.eligible_of_resetting {s t : State} {c : Chan} (hrank : ∀ q, t.rank q = s.rank q)
    (hpower : ∀ q, (s.rank q).channel ≠ some c → t.taskAt q .power = s.taskAt q .power) (hnego : ∀ d, d ≠ c → t.nego d = s.nego d)
    (hengine : ∀ d, d ≠ c → t.engine d = s.engine d) (hmark : (t.engine c).resetMark = true) : t.eligible = s.eligibleOutside c := by
  funext e
  unfold State.eligibleOutside
  cases hch : (s.rank e.rank).channel with
  | none =>
    rw [State.eligible_of_noChannel (by rw [hrank]; exact hch), State.eligible_of_noChannel hch, Bool.and_false]
  | some d =>
    rw [State.eligible_of_channel (c := d) (by rw [hrank]; exact hch)]
    by_cases hd : d = c
    · subst hd
      simp [hmark]
    · have hdeep : t.deepEnterQueued e.rank = s.deepEnterQueued e.rank := by
        rw [State.deepEnterQueued, hpower e.rank (by rw [hch]; simpa using hd)]
        rfl
      rw [State.eligible_of_channel hch, hrank, hnego d hd, hengine d hd, hdeep]
      simp [hd]

/-- The state of a channel reset when its queue has been emptied (R126, R166). -/
def State.resetEmptied (s : State) (c : Chan) : State := (s.setEngine c { s.engine c with resetMark := true, pointer := 0 }).emptyQueue c

theorem State.resetBegun_eq (s : State) (c : Chan) :
    s.resetBegun c = (allGroups.foldl (fun s g => s.resetGroup c g) (s.resetEmptied c)).dropRequest c .reset := rfl

/-- The tags of the host's tasks that a channel reset takes out, in queue order (R126). -/
def State.resetTags (s : State) (c : Chan) : List Tag :=
  (queueOrder (((s.queue c).tasks.filter (fun t => !t.executing)).filter Task.hostOwned)).filterMap Task.tag

theorem State.resetEmptied_eq (s : State) (c : Chan) : s.resetEmptied c =
    ((s.setEngine c { s.engine c with resetMark := true, pointer := 0 }).setQueue c ((s.queue c).keepExecuting true)).withReports
      (s.abortTags (s.resetTags c)).outstanding (s.abortTags (s.resetTags c)).records := by
  have hkeep : (fun t : Task => !(!t.executing)) = fun t => t.executing == true := by
    funext t
    cases t.executing <;> rfl
  have hqueue : (s.queue c).keepExecuting true = { s.queue c with tasks := (s.queue c).tasks.filter (fun t => !(!t.executing)) } := by
    rw [hkeep]
    rfl
  rw [State.resetEmptied, State.emptyQueue, hqueue]
  simp only [State.abortTasks_eq]
  exact State.abortTags_of_same (s := s)
    (t := (s.setEngine c { s.engine c with resetMark := true, pointer := 0 }).removeTasks c fun t => !t.executing) ⟨rfl, rfl, rfl, rfl⟩ _

/-- What a channel reset leaves when it comes to the task in flight (R92, R93, R126, R146, R166). -/
theorem State.resetBegun_taken (s : State) (c : Chan) :
    let t := s.resetBegun c
    (∃ groups queues negotiators, t = { s.resetEmptied c with groups := groups, queues := queues, negotiators := negotiators }) ∧
    t.queue c = (s.queue c).keepExecuting true ∧ (∀ d, d ≠ c → ExtendedBy (s.queue d).tasks (t.queue d).tasks
      (fun x => x.kind = .calShort ∨ x.kind = .calLong)) ∧
    t.eligible = s.eligibleOutside c ∧
    ∀ g, t.group g = if (s.nego c).state = .stalled
      then ((s.group g).resetBy (s.entryOf c) (s.eligibleOutside c) (s.now + s.timing.tokenHold)).scanned (s.eligibleOutside c)
        (s.now + s.timing.tokenHold)
      else (s.group g).resetBy (s.entryOf c) (s.eligibleOutside c) (s.now + s.timing.tokenHold) := by
  intro t
  have ht : t = (allGroups.foldl (fun s g => s.resetGroup c g) (s.resetEmptied c)).dropRequest c .reset := s.resetBegun_eq c
  have hemptied := s.resetEmptied_eq c
  have hrank : ∀ q, (s.resetEmptied c).rank q = s.rank q := fun q => by rw [hemptied]; rfl
  have hgroup : ∀ g, (s.resetEmptied c).group g = s.group g := fun g => by rw [hemptied]; rfl
  have hnego : ∀ d, (s.resetEmptied c).nego d = s.nego d := fun d => by rw [hemptied]; rfl
  have hown : (s.resetEmptied c).queue c = (s.queue c).keepExecuting true := by rw [hemptied]; exact State.queue_setQueue_self ..
  have hother : ∀ d, d ≠ c → (s.resetEmptied c).queue d = s.queue d := fun d hd => by rw [hemptied]; exact State.queue_setQueue_ne _ _ hd
  have hmark : ((s.resetEmptied c).engine c).resetMark = true := by
    rw [hemptied]
    exact congrArg Engine.resetMark (State.engine_setEngine_self ..)
  have hengine : ∀ d, d ≠ c → (s.resetEmptied c).engine d = s.engine d := fun d hd => by rw [hemptied]; exact State.engine_setEngine_ne _ _ hd
  have hnow : (s.resetEmptied c).now = s.now := by rw [hemptied]; rfl
  have htiming : (s.resetEmptied c).timing = s.timing := by rw [hemptied]; rfl
  have hpower : ∀ q, (s.rank q).channel ≠ some c → (s.resetEmptied c).taskAt q .power = s.taskAt q .power := by
    intro q hq
    unfold State.taskAt
    rw [hrank]
    cases hch : (s.rank q).channel with
    | none => rfl
    | some d => simp only [hother d fun h => hq (by rw [hch, h])]
  have heligible : (s.resetEmptied c).eligible = s.eligibleOutside c :=
    State.eligible_of_resetting hrank hpower (fun d _ => hnego d) hengine hmark
  clear hemptied
  generalize s.resetEmptied c = u at *
  have hscans : u.Scans (allGroups.foldl (fun s g => s.resetGroup c g) u) := State.Scans.foldl _ _ fun u g => State.Scans.resetGroup u c g
  have hgroups := fun g => u.foldl_resetGroup_group c g
  generalize allGroups.foldl (fun s g => s.resetGroup c g) u = v at ht hscans hgroups
  have hentry : u.entryOf c = s.entryOf c := by
    funext e
    simp only [State.entryOf, hrank]
  simp only [hgroup, hentry, heligible, hnow, htiming] at hgroups
  have hvnego : v.nego c = s.nego c := by
    rw [← hnego, State.nego, hscans.frame]
    rfl
  have houtside : ∀ e, u.eligible e = true → (u.rank e.rank).channel ≠ some c := by
    intro e he
    rw [heligible] at he
    rw [hrank]
    simpa using (Bool.and_eq_true_iff.mp he).1
  generalize hn : ((v.nego c).dropped .reset (v.now + v.timing.releaseWait)) = n at ht
  have hw : (v.setNego c n).eligible = v.eligible := by
    rw [hscans.eligible, heligible]
    refine State.eligible_of_resetting (fun q => (hscans.rank_eq q).trans (hrank q)) (fun q hq => ?_) (fun d hd => ?_) (fun d hd => ?_) ?_
    · have hkeeps : u.KeepsTasks (fun x => decide (x.kind.place = .power)) v :=
        hscans.grants.keeps fun x hx => by rw [TaskKind.place_eq_calibration.mpr hx]; rfl
      rw [← hpower q hq]
      exact (State.KeepsTasks.taskAt_eq (t := v) hkeeps (by rw [hscans.rank_eq]) fun x _ hx => decide_eq_true hx)
    · rw [State.nego_setNego_ne _ _ hd, ← hnego, State.nego, hscans.frame]
      rfl
    · rw [State.engine_of_setNego, ← hengine d hd, State.engine, hscans.frame]
      rfl
    · rw [State.engine_of_setNego, ← hmark, State.engine, hscans.frame]
      rfl
  have hend : (v.setNego c n).Scans t ∧ ∀ g, t.group g = if (s.nego c).state = .stalled then
      (v.group g).scanned (v.setNego c n).eligible (v.now + v.timing.tokenHold) else v.group g := by
    rw [ht, State.dropRequest_eq, hn, hvnego]
    split
    · exact ⟨State.Scans.scanAll _, fun g => State.scanAll_group _ g⟩
    · exact ⟨.refl _, fun g => rfl⟩
  obtain ⟨hlast, hlastGroups⟩ := hend
  refine ⟨⟨t.groups, t.queues, t.negotiators, ?_⟩, ?_, fun d hd => ?_, ?_, fun g => ?_⟩
  · rw [hlast.frame, hscans.frame]
    rfl
  · rw [hlast.spared c fun e he => ?_]
    · show v.queue c = _
      rw [hscans.spared c houtside, hown]
    · rw [hw, hscans.eligible] at he
      show (v.rank e.rank).channel ≠ _
      rw [hscans.rank_eq]
      exact houtside e he
  · rw [← hother d hd]
    exact (hscans.grants d).trans (hlast.grants d)
  · rw [hlast.eligible, hw, hscans.eligible, heligible]
  · have htime : v.now + v.timing.tokenHold = s.now + s.timing.tokenHold := by rw [← hnow, ← htiming, hscans.frame]
    rw [hlastGroups, hw, hscans.eligible, heligible, hgroups, htime]

/-! ### RESET_CHANNEL with a task in flight -/

/-- The note of the tasks taken out is not part of a completion (R174, R175). -/
theorem State.complete_noteRemoved (s : State) (tag tag' : Tag) (n : Nat) (st : Status) (d : Detail) :
    (s.noteRemoved tag n).complete tag' st d = (s.complete tag' st d).noteRemoved tag n := by
  have hpred : (fun e : OutEntry => (if e.tag = tag then { e with removed := n } else e).tag == tag') = fun e => e.tag == tag' := by
    funext e
    split <;> rfl
  have hfind : (s.noteRemoved tag n).outEntry tag' = (s.outEntry tag').map (fun e => if e.tag = tag then { e with removed := n } else e) := by
    show (s.outstanding.map _).find? _ = _
    rw [List.find?_map]
    exact congrArg (Option.map _) (congrArg (List.find? · s.outstanding) hpred)
  have herase : (s.noteRemoved tag n).outstanding.eraseP (fun e => e.tag == tag') =
      (s.outstanding.eraseP (fun e => e.tag == tag')).map (fun e => if e.tag = tag then { e with removed := n } else e) := by
    show (s.outstanding.map _).eraseP _ = _
    rw [List.eraseP_map]
    exact congrArg (List.map _) (congrArg (List.eraseP · s.outstanding) hpred)
  unfold State.complete
  rw [hfind, herase]
  cases s.outEntry tag' with
  | none => rfl
  | some e =>
    have hreport : (if e.tag = tag then { e with removed := n } else e).report st d s.timestamp = e.report st d s.timestamp := by
      split <;> rfl
    simp only [Option.map_some]
    rw [show (s.noteRemoved tag n).timestamp = s.timestamp from rfl, hreport]
    rfl

theorem State.abortTags_noteRemoved (s : State) (tag : Tag) (n : Nat) (tags : List Tag) :
    (s.noteRemoved tag n).abortTags tags = (s.abortTags tags).noteRemoved tag n := by
  unfold State.abortTags
  induction tags generalizing s with
  | nil => rfl
  | cons x tags ih => rw [List.foldl_cons, State.complete_noteRemoved, ih, List.foldl_cons]

theorem State.Retains.noteRemoved (s : State) {tag : Tag} {e : OutEntry} (h : s.outEntry tag = some e) (n : Nat) :
    (s.noteRemoved tag n).outEntry tag = some { e with removed := n } := by
  have hpred : (fun e : OutEntry => (if e.tag = tag then { e with removed := n } else e).tag == tag) = fun e => e.tag == tag := by
    funext e
    split <;> rfl
  show (s.outstanding.map _).find? _ = _
  rw [List.find?_map]
  have hfind : s.outstanding.find? ((fun x : OutEntry => x.tag == tag) ∘ fun e => if e.tag = tag then { e with removed := n } else e) = some e :=
    (congrArg (List.find? · s.outstanding) hpred).trans h
  rw [hfind, Option.map_some, if_pos (by simpa using List.find?_some h)]

theorem takeCommand_resetChannel {u : State} {tag : Tag} {channel : BitVec 8} {ch : Chan} (hch : chanOf channel = some ch) :
    takeCommand tag (.resetChannel channel) u = (u.noteRemoved tag (u.removable ch)).resetChannel ch := by
  show runResetChannel tag channel u = _
  simp only [runResetChannel, hch]

/-- Whether a task is the host's own (R115, R126), written over its kinds. -/
theorem Task.hostOwned_eq : (fun x : Task => x.kind == .refreshNow || (x.origin == .host &&
    (x.kind == .napEnter || x.kind == .napExit || x.kind == .deepEnter || x.kind == .deepExit))) = Task.hostOwned := by
  funext x
  have hplace : (x.kind.place == .power) = (x.kind == .napEnter || x.kind == .napExit || x.kind == .deepEnter || x.kind == .deepExit) := by
    cases x.kind <;> rfl
  simp only [Task.hostOwned, hplace, Bool.and_comm]

theorem State.resetTags_eq (s : State) (c : Chan) : s.resetTags c =
    (queueOrder (((s.queue c).keepExecuting false).tasks.filter Task.hostOwned)).filterMap Task.tag := by
  have hrun : (fun t : Task => !t.executing) = fun t => t.executing == false := by
    funext t
    cases t.executing <;> rfl
  rw [State.resetTags, hrun]
  rfl

theorem State.removable_eq (s : State) (c : Chan) : s.removable c = ((s.queue c).keepExecuting false).tasks.length := by
  have hrun : (fun t : Task => !t.executing) = fun t => t.executing == false := by
    funext t
    cases t.executing <;> rfl
  rw [State.removable, List.countP_eq_length_filter, hrun]
  rfl

/-- A channel that is resetting reports no condition (R129). -/
theorem State.settle_nego_of_mark {s : State} {c : Chan} (h : (s.engine c).resetMark = true) : s.settle.nego c = s.nego c := by
  have hreports : s.reports c = false := by rw [State.reports, State.resetting, h]; rfl
  rw [State.nego_settle, State.requestCondition, State.urgencyCondition, hreports]
  exact Negotiator.takes_nothing _ _

theorem CalGroup.resetBy_held {x : CalGroup} {e : Entry} {mine can : Entry → Bool} (hstate : x.state = .held) (he : x.heldEntry = some e)
    (hmine : mine e = true) (due : Nat) : x.resetBy mine can due = CalGroup.scanned
      { state := .free, holder := none, heldEntry := none, waiting := x.waiting ++ [e], tokenTimer := none, discard := false } can due := by
  simp only [CalGroup.resetBy, he, hmine, hstate, if_true]

theorem CalGroup.resetBy_calibrating {x : CalGroup} {e : Entry} {mine can : Entry → Bool} (hstate : x.state = .calibrating)
    (he : x.heldEntry = some e) (hmine : mine e = true) (due : Nat) : x.resetBy mine can due = { x with discard := true } := by
  simp only [CalGroup.resetBy, he, hmine, hstate, if_true]

/-- A second scan by the same entries does nothing (R81). -/
theorem CalGroup.scanned_scanned (x : CalGroup) (next : Entry → Bool) (due due' : Nat) :
    (x.scanned next due).scanned next due' = x.scanned next due := by
  by_cases h : x.state = .free ∧ x.waiting.any next = true
  · rw [CalGroup.scanned_of_some h.1 h.2]
    exact CalGroup.scanned_of_taken GroupState.noConfusion _ _
  · rw [CalGroup.scanned, CalGroup.scanned, if_neg h, if_neg h]

/-- What a RESET_CHANNEL that its table entry waits for has done when it comes to the task in flight (R92, R93, R126, R146, R166, R174),
from the state `u` in which it was accepted. -/
structure State.ResetUnderWay (u : State) (tag : Tag) (e : OutEntry) (c : Chan) (v : State) : Prop where
  ranks : v.ranks = u.ranks
  monitor : v.monitor = u.monitor
  now : v.now = u.now
  timing : v.timing = u.timing
  timestamp : v.timestamp = u.timestamp
  lost : v.lost = u.lost
  engines : v.engines = u.engines.set c { u.engine c with resetMark := true, pointer := 0 }
  negotiators : v.negotiators = u.negotiators.set c ((u.nego c).dropped .reset (u.now + u.timing.releaseWait))
  queue : v.queue c = (u.queue c).keepExecuting true
  others : ∀ d, d ≠ c → ExtendedBy (u.queue d).tasks (v.queue d).tasks (fun x => x.kind = .calShort ∨ x.kind = .calLong)
  eligible : v.eligible = u.eligibleOutside c
  group : ∀ g, v.group g = if (u.nego c).state = .stalled
    then ((u.group g).resetBy (u.entryOf c) (u.eligibleOutside c) (u.now + u.timing.tokenHold)).scanned (u.eligibleOutside c)
      (u.now + u.timing.tokenHold)
    else (u.group g).resetBy (u.entryOf c) (u.eligibleOutside c) (u.now + u.timing.tokenHold)
  records : v.records = (u.abortTags (u.resetTags c)).records
  outstanding : v.outstanding = ((u.abortTags (u.resetTags c)).noteRemoved tag ((u.queue c).keepExecuting false).tasks.length).outstanding
  entry : v.outEntry tag = some { e with removed := ((u.queue c).keepExecuting false).tasks.length }

theorem State.Fresh.resetTags_ne {s : State} {tag : Tag} (h : s.Fresh tag) (c : Chan) : ∀ x ∈ s.resetTags c, x ≠ tag := by
  rw [State.resetTags, List.filter_filter]
  exact h.tags_ne c _

theorem State.resetBegun_underWay {u : State} {tag : Tag} {e : OutEntry} {c : Chan} (hfresh : u.Fresh tag) (hentry : u.outEntry tag = some e) :
    u.ResetUnderWay tag e c ((u.noteRemoved tag ((u.queue c).keepExecuting false).tasks.length).resetBegun c) := by
  obtain ⟨⟨groups, queues, negotiators, hframe⟩, hqueue, hothers, heligible, hgroup⟩ :=
    (u.noteRemoved tag ((u.queue c).keepExecuting false).tasks.length).resetBegun_taken c
  obtain ⟨hnego, hengine, -⟩ := (u.noteRemoved tag ((u.queue c).keepExecuting false).tasks.length).resetBegun_lines c
  obtain ⟨-, hretained, -⟩ := State.Retains.abortTags u (tags := u.resetTags c) (fun h => h.resetTags_ne c) hfresh
  have hnoted := State.Retains.noteRemoved _ (hretained.trans hentry) ((u.queue c).keepExecuting false).tasks.length
  rw [State.resetEmptied_eq, show (u.noteRemoved tag _).resetTags c = u.resetTags c from rfl, State.abortTags_noteRemoved] at hframe
  generalize (u.noteRemoved tag ((u.queue c).keepExecuting false).tasks.length).resetBegun c = v at *
  have houtstanding : v.outstanding = ((u.abortTags (u.resetTags c)).noteRemoved tag ((u.queue c).keepExecuting false).tasks.length).outstanding := by
    rw [hframe]
    rfl
  exact
    { ranks := by rw [hframe]; rfl
      monitor := by rw [hframe]; rfl
      now := by rw [hframe]; rfl
      timing := by rw [hframe]; rfl
      timestamp := by rw [hframe]; rfl
      lost := by rw [hframe]; rfl
      engines := hengine
      negotiators := hnego
      queue := hqueue
      others := hothers
      eligible := heligible
      group := hgroup
      records := by rw [hframe]; rfl
      outstanding := houtstanding
      entry := by rw [State.outEntry, houtstanding]; exact hnoted }

/-- The state with a command accepted is the state before it, as far as a channel reset reads it. -/
theorem State.eligibleOutside_of_taken (s : State) (tag : Tag) (x : HostCommand) (c : Chan) :
    (s.taken tag x).eligibleOutside c = s.eligibleOutside c := by
  have h : (s.taken tag x).eligible = s.eligible := State.eligible_congr (fun _ => rfl) (fun _ => rfl) (fun _ => rfl) rfl rfl
  funext e
  simp only [State.eligibleOutside, h, State.rank_of_taken]

theorem takeCommand_resetChannel_underWay {s : State} {tag : Tag} {channel : BitVec 8} {ch : Chan} (hadmits : s.Admits tag) (hfresh : s.Fresh tag)
    (hch : chanOf channel = some ch) : ∃ v, (s.taken tag (.resetChannel channel)).ResetUnderWay tag (outEntryOf tag (.resetChannel channel)) ch v ∧
      takeCommand tag (.resetChannel channel) (s.taken tag (.resetChannel channel)) =
        if (v.engine ch).flight.isSome then v else (v.standby ch).endReset ch := by
  obtain ⟨-, -, hunused, -⟩ := id hadmits
  have hbegun := State.resetBegun_underWay (u := s.taken tag (.resetChannel channel)) (c := ch) hfresh
    (State.outEntry_taken hunused (.resetChannel channel))
  have htake := takeCommand_resetChannel (u := s.taken tag (.resetChannel channel)) (tag := tag) hch
  rw [State.removable_eq, State.resetChannel_eq] at htake
  exact ⟨_, hbegun, htake⟩

/-- A free group after a scan, field by field. -/
theorem CalGroup.scanned_free (waiting : List Entry) (can : Entry → Bool) (due : Nat) : CalGroup.scanned
    { state := .free, holder := none, heldEntry := none, waiting := waiting, tokenTimer := none, discard := false } can due =
    { state := if waiting.any can then .held else .free, holder := (waiting.find? can).map Entry.rank, heldEntry := waiting.find? can
      waiting := waiting.eraseP can, tokenTimer := if waiting.any can then some due else none, discard := false } := by
  cases hany : waiting.any can with
  | true =>
    rw [CalGroup.scanned_of_some rfl hany]
    rfl
  | false =>
    rw [List.any_eq_false] at hany
    have hfind : waiting.find? can = none := List.find?_eq_none.mpr hany
    have herase : waiting.eraseP can = waiting := List.eraseP_of_forall_not hany
    rw [CalGroup.scanned_of_none (List.any_eq_false.mpr hany), hfind, herase]
    rfl

/-- The lines of a negotiator that has dropped its request (R146, R147). -/
theorem Negotiator.dropped_lines (n : Negotiator) (cause : ReleaseCause) (due : Nat) :
    (n.dropped cause due).qreq = false ∧ (n.dropped cause due).qurg = false ∧ (n.dropped cause due).grantTimer = none ∧
      (n.dropped cause due).escalated = false ∧ (n.dropped cause due).state = if n.qgnt = true then .releasing else .idle := by
  unfold Negotiator.dropped
  cases n.qgnt with
  | false => exact ⟨rfl, rfl, rfl, rfl, rfl⟩
  | true =>
    simp only [Bool.true_eq_false, if_false, if_true]
    split
    · next h => exact ⟨rfl, rfl, rfl, rfl, h⟩
    · exact ⟨rfl, rfl, rfl, rfl, rfl⟩

/-- Settles O18: the marked reset up to the look at the task in flight, which is all of it. -/
theorem resetChannelBusy : Obligations.ResetChannelBusy := by
  intro s tag channel ch hadmits hfresh hch hflight
  obtain ⟨v, hv, htake⟩ := takeCommand_resetChannel_underWay hadmits hfresh hch
  have heligible := hv.eligible
  have hgroup := hv.group
  have hself : v.engine ch = { s.engine ch with resetMark := true, pointer := 0 } := by
    rw [State.engine_of_set hv.engines, if_pos rfl]
    rfl
  have hmark : (v.engine ch).resetMark = true := by rw [hself]
  have hnego : v.settle.nego ch = (s.nego ch).dropped .reset (s.now + s.timing.releaseWait) := by
    rw [State.settle_nego_of_mark hmark, State.nego_of_set hv.negotiators, if_pos rfl]
    rfl
  rw [if_pos (by rw [hself]; exact hflight)] at htake
  rw [State.eligibleOutside_of_taken] at heligible hgroup
  have hmine : ∀ e : Entry, (s.rank e.rank).channel = some ch → (s.taken tag (.resetChannel channel)).entryOf ch e = true := fun e he => by
    rw [State.entryOf, State.rank_of_taken, decide_eq_true he]
  have hexec := exec_admitted hadmits htake
  have hframe := v.settle_frame
  generalize v.settle = t at hframe hnego hexec
  have hgroupEq : ∀ g, t.group g = v.group g := fun g => by rw [hframe]; rfl
  obtain ⟨hreq, hurg, hgrant, hescalated, hstate⟩ := (s.nego ch).dropped_lines .reset (s.now + s.timing.releaseWait)
  rw [← hnego] at hreq hurg hgrant hescalated hstate
  refine ⟨t, hexec, ?_, ?_, ?_, ?_, hreq, hurg, hgrant, hescalated, hstate, ?_, ?_, ?_, ?_⟩
  · rw [hframe]
    exact hv.ranks
  · rw [hframe]
    exact hv.monitor
  · rw [hframe]
    exact hv.queue
  · rw [hframe]
    exact hself
  · intro g hstate hheld hsome
    obtain ⟨e, he⟩ := Option.isSome_iff_exists.mp hsome
    have hreset := CalGroup.resetBy_calibrating (can := s.eligibleOutside ch) hstate he (hmine e (hheld e he)) (s.now + s.timing.tokenHold)
    rw [hgroupEq, hgroup]
    simp only [State.group_of_taken, State.now_of_taken, State.timing_of_taken, hreset]
    rw [CalGroup.scanned_of_taken (x := { s.group g with discard := true }) (by rw [hstate]; exact GroupState.noConfusion), ite_self]
  · intro g e hstate he hchannel
    have hreset := CalGroup.resetBy_held (can := s.eligibleOutside ch) hstate he (hmine e hchannel) (s.now + s.timing.tokenHold)
    rw [hgroupEq, hgroup]
    simp only [State.group_of_taken, State.now_of_taken, State.timing_of_taken, hreset, CalGroup.scanned_scanned, ite_self]
    exact CalGroup.scanned_free _ _ _
  · refine ⟨_, ?_, rfl⟩
    rw [hframe]
    exact List.mem_of_find?_eq_some hv.entry
  · rw [Task.hostOwned_eq, ← State.queue_of_taken s tag (.resetChannel channel), ← State.resetTags_eq, hframe]
    exact hv.records

end Sys2Proof.Machine
end

section
/-! SUPPORT and the proofs of O38, O39, O40: what a completion leaves when its task has ended, what the end of a channel reset and the next selection
keep of it, and what each window, channel reset and drain makes of it (R128, R142, R144, R161, R162, R167, R174, R184). -/

namespace Sys2Proof.Machine

-- Proofs are elaborated one after the other, which bounds the memory a compile reserves.
set_option Elab.async false
/-! ### What follows a completion -/

/-- An entry at the head of its group's list, or holding the token. -/
def CalGroup.AtHead (x : CalGroup) (e : Entry) : Prop := x.waiting.head? = some e ∨ (x.heldEntry = some e ∧ x.state ≠ .free)

/-- An entry in its group's list, or holding the token. -/
def CalGroup.Lists (x : CalGroup) (e : Entry) : Prop := e ∈ x.waiting ∨ (x.heldEntry = some e ∧ x.state ≠ .free)

/-- Tasks of a queue that came with or after others: the earlier ones, not executing unless they were, and new refresh tasks, thermal
exits and granted calibrations. -/
def State.NewTask (s : State) (y : Task) : Prop :=
  y.kind = .refresh ∨ (y.kind = .deepExit ∧ (s.rank y.rank).state = .deep) ∨
    ((y.kind = .calShort ∨ y.kind = .calLong) ∧ ∃ g, ∃ e ∈ (s.group g).waiting, e.rank = y.rank)

/-- No task of the queue is executing without the engine's task in flight. -/
def State.RunsOnly (s : State) (c : Chan) : Prop := ∀ x ∈ (s.queue c).tasks, x.executing = true → (s.engine c).flight.isSome = true

/-- What the end of a channel reset and a selection leave of the ranks, the records, the queue of their channel and the groups. -/
structure State.Continues (c : Chan) (s t : State) : Prop where
  rank : ∀ r, t.rank r = { s.rank r with
    balance := (t.rank r).balance, overruns := (t.rank r).overruns, urgent := (t.rank r).urgent, interval := (t.rank r).interval
    periodic := (t.rank r).periodic }
  periodic : ∀ r, (∀ x ∈ (s.queue c).tasks, x.rank = r → x.kind ≠ .deepEnter) → (t.rank r).periodic = (s.rank r).periodic
  records : s.records <+: t.records
  tasks : ∀ y ∈ (t.queue c).tasks, (∃ x ∈ (s.queue c).tasks, x.rank = y.rank ∧ x.kind = y.kind) ∨ s.NewTask y
  runs : s.RunsOnly c → t.RunsOnly c
  exits : ∀ x ∈ (s.queue c).tasks, x.kind = .deepExit → x.cls = .urgent →
    ∃ y ∈ (t.queue c).tasks, y.rank = x.rank ∧ y.kind = .deepExit ∧ y.cls = .urgent ∧ y.origin = x.origin
  waiting : ∀ g, ∀ e ∈ (t.group g).waiting, e ∈ (s.group g).waiting
  holder : ∀ g r, (t.group g).holder = some r → (s.group g).holder = some r ∨ ∃ e ∈ (s.group g).waiting, e.rank = r
  head : ∀ g e, (s.group g).AtHead e → (t.group g).AtHead e
  lists : ∀ g e, (s.group g).Lists e → (t.group g).Lists e

namespace State.Continues

variable {c : Chan} {s t u : State}

theorem refl (s : State) : State.Continues c s s :=
  { rank := fun _ => rfl, periodic := fun _ _ => rfl, records := List.prefix_rfl, tasks := fun y hy => .inl ⟨y, hy, rfl, rfl⟩, runs := id
    exits := fun x hx hkind hcls => ⟨x, hx, rfl, hkind, hcls, rfl⟩, waiting := fun _ _ h => h, holder := fun _ _ => .inl
    head := fun _ _ => id, lists := fun _ _ => id }

theorem trans (h : State.Continues c s t) (h' : State.Continues c t u) : State.Continues c s u where
  rank r := by rw [h'.rank r, h.rank r]
  periodic r hr := by
    refine (h'.periodic r fun y hy hrank hkind => ?_).trans (h.periodic r hr)
    obtain ⟨x, hx, hxrank, hxkind⟩ | hnew := h.tasks y hy
    · exact hr x hx (hxrank.trans hrank) (hxkind.trans hkind)
    · simp [State.NewTask, hkind] at hnew
  records := h.records.trans h'.records
  tasks y hy := by
    obtain ⟨x, hx, hxrank, hxkind⟩ | hkind | ⟨hkind, hdeep⟩ | ⟨hkind, g, e, he, hrank⟩ := h'.tasks y hy
    · obtain ⟨z, hz, hzrank, hzkind⟩ | hnew := h.tasks x hx
      · exact .inl ⟨z, hz, hzrank.trans hxrank, hzkind.trans hxkind⟩
      · rw [State.NewTask, hxrank, hxkind] at hnew
        exact .inr hnew
    · exact .inr (.inl hkind)
    · rw [h.rank] at hdeep
      exact .inr (.inr (.inl ⟨hkind, hdeep⟩))
    · exact .inr (.inr (.inr ⟨hkind, g, e, h.waiting g e he, hrank⟩))
  runs hs := h'.runs (h.runs hs)
  exits x hx hkind hcls := by
    obtain ⟨y, hy, hrank, hykind, hycls, horigin⟩ := h.exits x hx hkind hcls
    obtain ⟨z, hz, hzrank, hzkind, hzcls, hzorigin⟩ := h'.exits y hy hykind hycls
    exact ⟨z, hz, hzrank.trans hrank, hzkind, hzcls, hzorigin.trans horigin⟩
  waiting g e he := h.waiting g e (h'.waiting g e he)
  holder g r hr := by
    obtain hr | ⟨e, he, hrank⟩ := h'.holder g r hr
    · exact h.holder g r hr
    · exact .inr ⟨e, h.waiting g e he, hrank⟩
  head g e he := h'.head g e (h.head g e he)
  lists g e he := h'.lists g e (h.lists g e he)

theorem after (h' : State.Continues c t u) (h : State.Continues c s t) : State.Continues c s u := h.trans h'

/-- Steps that write neither ranks nor groups. -/
theorem of_work (hranks : t.ranks = s.ranks) (hgroups : t.groups = s.groups) (hrecords : s.records <+: t.records)
    (htasks : ∀ y ∈ (t.queue c).tasks, (∃ x ∈ (s.queue c).tasks, x.rank = y.rank ∧ x.kind = y.kind) ∨ s.NewTask y)
    (hruns : s.RunsOnly c → t.RunsOnly c) (hexits : ∀ x ∈ (s.queue c).tasks, x.kind = .deepExit → x.cls = .urgent →
      ∃ y ∈ (t.queue c).tasks, y.rank = x.rank ∧ y.kind = .deepExit ∧ y.cls = .urgent ∧ y.origin = x.origin) : State.Continues c s t := by
  have hrank : ∀ r, t.rank r = s.rank r := fun r => by rw [State.rank, hranks]; rfl
  have hgroup : ∀ g, t.group g = s.group g := fun g => by rw [State.group, hgroups]; rfl
  exact
    { rank := fun r => by rw [hrank], periodic := fun r _ => by rw [hrank], records := hrecords, tasks := htasks, runs := hruns, exits := hexits
      waiting := fun g e he => by rw [hgroup] at he; exact he, holder := fun g r hr => by rw [hgroup] at hr; exact .inl hr
      head := fun g e he => by rw [hgroup]; exact he, lists := fun g e he => by rw [hgroup]; exact he }

/-- Steps that write neither ranks, groups nor queues, and clear no task in flight. -/
theorem of_same (hranks : t.ranks = s.ranks) (hgroups : t.groups = s.groups) (hqueues : t.queues = s.queues) (hrecords : s.records <+: t.records)
    (hflight : (s.engine c).flight.isSome = true → (t.engine c).flight.isSome = true) : State.Continues c s t := by
  have hqueue : t.queue c = s.queue c := by rw [State.queue, hqueues]; rfl
  refine of_work hranks hgroups hrecords (fun y hy => ?_) (fun hs x hx hrun => ?_) fun x hx hkind hcls => ?_
  · rw [hqueue] at hy
    exact .inl ⟨y, hy, rfl, rfl⟩
  · rw [hqueue] at hx
    exact hflight (hs x hx hrun)
  · exact ⟨x, hqueue ▸ hx, rfl, hkind, hcls, rfl⟩

theorem notice (s : State) (b : Notice) : State.Continues c s (s.notice b) := by
  have hrecords := (State.Steady.notice s b).records
  rw [State.notice_frame] at hrecords ⊢
  exact of_same rfl rfl rfl hrecords id

theorem complete (s : State) (tag : Tag) (st : Status) (d : Detail) : State.Continues c s (s.complete tag st d) := by
  have hrecords := (State.Steady.complete s tag st d).records
  rw [State.complete_frame] at hrecords ⊢
  exact of_same rfl rfl rfl hrecords id

theorem completeTag (s : State) (tag : Option Tag) (st : Status) (d : Detail) : State.Continues c s (s.completeTag tag st d) := by
  cases tag with
  | none => exact .refl s
  | some t => exact .complete s t st d

theorem setNego (s : State) (d : Chan) (n : Negotiator) : State.Continues c s (s.setNego d n) := of_same rfl rfl rfl List.prefix_rfl id

theorem setEngine (s : State) (d : Chan) (e : Engine) (h : (s.engine d).flight.isSome = true → e.flight.isSome = true) :
    State.Continues c s (s.setEngine d e) := by
  refine of_same rfl rfl rfl List.prefix_rfl fun hsome => ?_
  rw [State.engine_setEngine]
  split
  · next hd => exact h (hd ▸ hsome)
  · exact hsome

/-- Tasks of one queue written in place. -/
theorem mapTasks (s : State) (d : Chan) {f : Task → Task} (hwork : ∀ x, (f x).rank = x.rank ∧ (f x).kind = x.kind ∧ (f x).origin = x.origin ∧
    (f x).executing = x.executing) (hexit : ∀ x : Task, x.kind = .deepExit → x.cls = .urgent → (f x).cls = .urgent) :
    State.Continues c s (s.mapTasks d f) := by
  by_cases hd : c = d
  · subst hd
    have hqueue : ((s.mapTasks c f).queue c).tasks = (s.queue c).tasks.map f := by rw [State.mapTasks, State.queue_setQueue_self]
    refine of_work rfl rfl List.prefix_rfl (fun y hy => ?_) (fun hs x hx hrun => ?_) fun x hx hkind hcls => ?_
    · rw [hqueue] at hy
      obtain ⟨x, hx, rfl⟩ := List.mem_map.mp hy
      exact .inl ⟨x, hx, (hwork x).1.symm, (hwork x).2.1.symm⟩
    · rw [hqueue] at hx
      obtain ⟨z, hz, rfl⟩ := List.mem_map.mp hx
      exact hs z hz ((hwork z).2.2.2 ▸ hrun)
    · exact ⟨f x, hqueue ▸ List.mem_map_of_mem hx, (hwork x).1, (hwork x).2.1.trans hkind, hexit x hkind hcls, (hwork x).2.2.1⟩
  · have hqueue : (s.mapTasks d f).queue c = s.queue c := State.queue_setQueue_ne _ _ hd
    refine of_work rfl rfl List.prefix_rfl (fun y hy => ?_) (fun hs x hx hrun => ?_) fun x hx hkind hcls => ?_
    · rw [hqueue] at hy
      exact .inl ⟨y, hy, rfl, rfl⟩
    · rw [hqueue] at hx
      exact hs x hx hrun
    · exact ⟨x, hqueue ▸ hx, rfl, hkind, hcls, rfl⟩

/-- Tasks of one queue taken out. -/
theorem removeTasks (s : State) (d : Chan) {p : Task → Bool} (hexit : ∀ x : Task, x.kind = .deepExit → p x = false) :
    State.Continues c s (s.removeTasks d p) := by
  have hmem : ∀ x ∈ ((s.removeTasks d p).queue c).tasks, x ∈ (s.queue c).tasks := fun x hx => by
    rw [State.removeTasks, State.queue_setQueue] at hx
    split at hx
    · next hd => exact hd ▸ List.mem_of_mem_filter hx
    · exact hx
  refine of_work rfl rfl List.prefix_rfl (fun y hy => .inl ⟨y, hmem y hy, rfl, rfl⟩) (fun hs x hx => hs x (hmem x hx)) fun x hx hkind hcls =>
    ⟨x, ?_, rfl, hkind, hcls, rfl⟩
  rw [State.removeTasks, State.queue_setQueue]
  split
  · next hd => exact List.mem_filter.mpr ⟨hd ▸ hx, by simp [hexit x hkind]⟩
  · exact hx

theorem insertTask (s : State) (d : Chan) {x : Task} (hx : s.NewTask x) (hwaits : x.executing = false) :
    State.Continues c s (s.insertTask d x) := by
  have hmem : ∀ y ∈ ((s.insertTask d x).queue c).tasks, y ∈ (s.queue c).tasks ∨ ∃ n, y = { x with seq := n } := fun y hy => by
    rw [State.insertTask_eq, State.queue_setQueue] at hy
    split at hy
    · next hd =>
      obtain hy | hy := List.mem_append.mp hy
      · exact .inl (hd ▸ hy)
      · exact .inr ⟨_, List.mem_singleton.mp hy⟩
    · exact .inl hy
  refine of_work rfl rfl List.prefix_rfl (fun y hy => ?_) (fun hs y hy hrun => ?_) fun y hy hkind hcls => ⟨y, ?_, rfl, hkind, hcls, rfl⟩
  · obtain hy | ⟨n, rfl⟩ := hmem y hy
    · exact .inl ⟨y, hy, rfl, rfl⟩
    · exact .inr hx
  · obtain hy | ⟨n, rfl⟩ := hmem y hy
    · exact hs y hy hrun
    · rw [hwaits] at hrun
      exact absurd hrun Bool.false_ne_true
  · rw [State.insertTask_eq, State.queue_setQueue]
    split
    · next hd => exact List.mem_append_left _ (hd ▸ hy)
    · exact hy

/-- Steps that write the planner's fields of ranks, and the periodic timer of ranks that go to DEEP. -/
theorem setRank (s : State) (r : Slot) {k : Rank} (hk : k = { s.rank r with
    balance := k.balance, overruns := k.overruns, urgent := k.urgent, interval := k.interval, periodic := k.periodic })
    (hperiodic : k.periodic = (s.rank r).periodic ∨ ∃ x ∈ (s.queue c).tasks, x.rank = r ∧ x.kind = .deepEnter) :
    State.Continues c s (s.setRank r k) := by
  refine { State.Continues.refl (c := c) s with rank := fun q => ?_, periodic := fun q hq => ?_ }
  · rw [State.rank_setRank]
    split
    · next hr => rw [hr]; exact hk
    · rfl
  · rw [State.rank_setRank]
    split
    · next hr =>
      subst hr
      obtain hsame | ⟨x, hx, hrank, hkind⟩ := hperiodic
      · exact hsame
      · exact absurd hkind (hq x hx hrank)
    · rfl

/-- A run of such steps. -/
theorem foldl {α : Type} {f : State → α → State} (l : List α) (s : State) (h : ∀ (u : State) (a : α), State.Continues c u (f u a)) :
    State.Continues c s (l.foldl f s) := by
  induction l generalizing s with
  | nil => exact refl s
  | cons a l ih => exact (h s a).trans (ih _)

end State.Continues

theorem head?_eraseP_of_neg {α : Type} {p : α → Bool} {l : List α} {a : α} (h : l.head? = some a) (ha : p a = false) :
    (l.eraseP p).head? = some a := by
  cases l with
  | nil => cases h
  | cons b l =>
    obtain rfl := Option.some.inj h
    rw [List.eraseP_cons_of_neg (by rw [ha]; exact Bool.false_ne_true)]
    rfl

/-- What an element left out by `eraseP` is (R81). -/
theorem mem_eraseP_or_found {α : Type} {p : α → Bool} {l : List α} {a : α} (h : a ∈ l) : a ∈ l.eraseP p ∨ l.find? p = some a := by
  induction l with
  | nil => cases h
  | cons b l ih =>
    by_cases hb : p b = true
    · rw [List.eraseP_cons_of_pos hb, List.find?_cons_of_pos hb]
      obtain rfl | h := List.mem_cons.mp h
      · exact .inr rfl
      · exact .inl h
    · rw [List.eraseP_cons_of_neg hb, List.find?_cons_of_neg hb]
      obtain rfl | h := List.mem_cons.mp h
      · exact .inl List.mem_cons_self
      · exact (ih h).imp (List.mem_cons_of_mem b) id

/-- What a group's record may become after a completion: entries leave the list for the token, in whatever state it is then. -/
structure CalGroup.Continues (x y : CalGroup) : Prop where
  waiting : ∀ e ∈ y.waiting, e ∈ x.waiting
  holder : ∀ r, y.holder = some r → x.holder = some r ∨ ∃ e ∈ x.waiting, e.rank = r
  head : ∀ e, x.AtHead e → y.AtHead e
  lists : ∀ e, x.Lists e → y.Lists e

theorem State.Continues.setGroup {c : Chan} {s : State} {g : GroupId} {x : CalGroup} (h : (s.group g).Continues x) :
    State.Continues c s (s.setGroup g x) := by
  have hgroup : ∀ k, (s.setGroup g x).group k = if k = g then x else s.group k := fun k => State.group_setGroup s g k x
  refine { State.Continues.refl (c := c) s with waiting := fun k => ?_, holder := fun k => ?_, head := fun k => ?_, lists := fun k => ?_ } <;>
    rw [hgroup] <;> split
  · next hk => exact hk ▸ h.waiting
  · exact fun _ h => h
  · next hk => exact hk ▸ h.holder
  · exact fun _ => .inl
  · next hk => exact hk ▸ h.head
  · exact fun _ => id
  · next hk => exact hk ▸ h.lists
  · exact fun _ => id

theorem CalGroup.continues_granted {x : CalGroup} {can : Entry → Bool} {e : Entry} (hfree : x.state = .free) (hfind : x.waiting.find? can = some e)
    (due : Option Nat) : x.Continues
      { x with state := .held, holder := some e.rank, heldEntry := some e, waiting := x.waiting.eraseP can, tokenTimer := due } where
  waiting _ he := List.mem_of_mem_eraseP he
  holder _ hr := .inr ⟨e, List.mem_of_find?_eq_some hfind, Option.some.inj hr⟩
  head a ha := by
    obtain ha | ⟨-, hstate⟩ := ha
    · by_cases hcan : can a = true
      · refine .inr ⟨?_, GroupState.noConfusion⟩
        obtain ⟨l, hl⟩ := List.head?_eq_some_iff.mp ha
        rw [hl, List.find?_cons_of_pos hcan] at hfind
        exact hfind.symm
      · exact .inl (head?_eraseP_of_neg ha (Bool.eq_false_iff.mpr hcan))
    · exact absurd hfree hstate
  lists a ha := by
    obtain ha | ⟨-, hstate⟩ := ha
    · refine (mem_eraseP_or_found ha).imp id fun hfound => ⟨?_, GroupState.noConfusion⟩
      exact hfind.symm.trans hfound
    · exact absurd hfree hstate

theorem State.scanGroup_continues {c : Chan} (s : State) (g : GroupId) : State.Continues c s (s.scanGroup g) := by
  obtain hsame | ⟨e, he, hfree, hfind, -, hgrant⟩ := s.scanGroup_cases g
  · rw [hsame]
    exact .refl s
  · rw [hgrant]
    unfold State.grant
    simp only
    split
    · exact .setGroup (CalGroup.continues_granted hfree hfind _)
    · next d _ =>
      have hnew : s.NewTask e.toTask := .inr (.inr ⟨by cases h : e.kind <;> simp [Entry.toTask, calTaskKind, h], g, e, he, rfl⟩)
      exact (State.Continues.setGroup (s := s.insertTask d e.toTask) (CalGroup.continues_granted hfree hfind _)).after (.insertTask s d hnew rfl)

theorem State.scanAll_continues {c : Chan} (s : State) : State.Continues c s s.scanAll := .foldl allGroups s State.scanGroup_continues

theorem State.setRefreshClass_continues {c : Chan} (s : State) (r : Slot) : State.Continues c s (s.setRefreshClass r) := by
  unfold State.setRefreshClass
  split
  · exact .refl s
  · refine .mapTasks s _ (fun x => ?_) fun x hkind hcls => ?_
    · split <;> exact ⟨rfl, rfl, rfl, rfl⟩
    · rw [if_neg fun h => TaskKind.noConfusion (hkind.symm.trans h.2)]
      exact hcls

theorem State.writeBalance_continues {c : Chan} (s : State) (r : Slot) (b : Int) : State.Continues c s (s.writeBalance r b) := by
  have hbalance : State.Continues c s (s.setRank r { s.rank r with balance := b }) := .setRank s r rfl (.inl rfl)
  unfold State.writeBalance
  refine hbalance.trans ?_
  generalize s.setRank r { s.rank r with balance := b } = t
  unfold State.reevaluate
  simp only
  split
  · refine (State.setRefreshClass_continues _ r).after ?_
    split
    · exact (State.Continues.notice _ _).after (.setRank t r rfl (.inl rfl))
    · exact .setRank t r rfl (.inl rfl)
  · exact .refl t

theorem State.withdrawRefresh_continues {c : Chan} (s : State) (r : Slot) : State.Continues c s (s.withdrawRefresh r) := by
  unfold State.withdrawRefresh
  split
  · exact .refl s
  · exact .removeTasks s _ fun x hkind => by simp [hkind]

theorem State.creditAhead_continues {c : Chan} (s : State) (r : Slot) (n : Nat) : State.Continues c s (s.creditAhead r n) := by
  have h := s.writeBalance_continues (c := c) r ((s.rank r).balance + n)
  unfold State.creditAhead
  simp only
  split
  · exact h.trans (State.withdrawRefresh_continues _ r)
  · exact h

theorem State.closeAccount_continues {c : Chan} (s : State) (r : Slot) : State.Continues c s (s.closeAccount r) :=
  (State.withdrawRefresh_continues _ r).after (.setRank s r rfl (.inl rfl))

/-- The owners' part of a start, whose task the queue holds (R159). -/
theorem State.ownersStart_continues {c : Chan} (s : State) {x : Task} (hx : x ∈ (s.queue c).tasks) (hrun : x.executing = true) (n : Nat) :
    State.Continues c s (s.ownersStart x.rank x.kind n) := by
  have hcal : State.Continues c s (s.startCalibrating x.rank) := by
    unfold State.startCalibrating
    split
    · exact .refl s
    · refine .setGroup ⟨fun _ h => h, fun _ => .inl, fun e he => ?_, fun e he => ?_⟩
      · exact he.imp id fun h => ⟨h.1, GroupState.noConfusion⟩
      · exact he.imp id fun h => ⟨h.1, GroupState.noConfusion⟩
  cases hk : x.kind with
  | refresh => exact s.writeBalance_continues x.rank _
  | refreshNow => exact s.creditAhead_continues x.rank n
  | calShort | calLong => exact hcal
  | deepEnter =>
    refine (s.closeAccount_continues x.rank).trans (.setRank _ x.rank rfl (.inr ?_))
    obtain ⟨y, hy, hrank, hkind, -, -⟩ :=
      State.withdrawRefresh_keepsRunning c (s.setRank x.rank { s.rank x.rank with balance := 0, urgent := false, interval := none }) x.rank x hx hrun
    exact ⟨y, hy, hrank, hkind.trans hk⟩
  | napEnter | napExit | deepExit => exact .refl s

theorem State.marked_continues {c : Chan} (s : State) (x : Task) (p : Plan) : State.Continues c s (s.marked c x p) := by
  have hqueue : ((s.marked c x p).queue c).tasks = (s.queue c).tasks.map (fun u => if u = x then { u with executing := true } else u) := by
    rw [State.marked, State.queue_of_setEngine, State.mapTasks, State.queue_setQueue_self]
  have hflight : ((s.marked c x p).engine c).flight.isSome = true := by
    rw [State.marked, State.engine_setEngine_self]
    rfl
  have hwork : ∀ y : Task, (if y = x then { y with executing := true } else y) = { y with
      executing := (if y = x then { y with executing := true } else y).executing } := fun y => by split <;> rfl
  refine .of_work rfl rfl List.prefix_rfl (fun y hy => ?_) (fun _ _ _ _ => hflight) fun y hy hkind hcls => ?_
  · rw [hqueue] at hy
    obtain ⟨z, hz, rfl⟩ := List.mem_map.mp hy
    rw [hwork z]
    exact .inl ⟨z, hz, rfl, rfl⟩
  · refine ⟨_, hqueue ▸ List.mem_map_of_mem hy, ?_⟩
    rw [hwork y]
    exact ⟨rfl, hkind, hcls, rfl⟩

theorem State.startTask_continues {c : Chan} (s : State) {x : Task} (hx : x ∈ (s.queue c).tasks) (p : Plan) :
    State.Continues c s (s.startTask c x p) := by
  rw [State.startTask_eq]
  exact (s.marked_continues x p).trans (State.ownersStart_continues (x := { x with executing := true }) _ (State.mem_marked hx) rfl p.n)

/-- Only tasks that lose their purpose complete in a selection (R38, R110). -/
theorem State.finishInstant_continues {c : Chan} (s : State) {x : Task} (hx : x.kind ≠ .deepExit) : State.Continues c s (s.finishInstant c x) := by
  have hremoved : State.Continues c s (s.removeTasks c (fun u => decide (u = x))) :=
    .removeTasks s c fun y hy => decide_eq_false fun h => hx (h ▸ hy)
  unfold State.finishInstant
  simp only
  split <;> exact hremoved.trans (.completeTag _ _ _ _)

theorem State.startFill_continues {c : Chan} (s : State) (r : Slot) : State.Continues c s (s.startFill c r) := by
  rw [State.startFill_eq]
  exact (State.creditAhead_continues _ _ _).after (.setEngine s c _ fun _ => rfl)

theorem State.reportDone_continues {c : Chan} (s : State) : State.Continues c s (s.reportDone c) :=
  (State.Continues.setEngine _ c { (s.enterReleasing c .done).engine c with state := .standby } id).after (.setNego s c _)

theorem State.select_continues {c : Chan} (fuel : Nat) (s : State) : State.Continues c s (State.select c fuel s) := by
  induction fuel generalizing s with
  | zero => exact s.reportDone_continues
  | succ fuel ih =>
    unfold State.select
    split
    · next x p hfind =>
      obtain ⟨hmem, hplan⟩ := State.findPlan_some hfind
      obtain ⟨-, -, hpurpose, -⟩ := State.planTask_of_some hplan
      split
      · next hinstant =>
        refine (s.finishInstant_continues fun hkind => ?_).trans (ih _)
        have h := hpurpose.mp hinstant
        simp [State.losesPurpose, hkind] at h
      · exact s.startTask_continues hmem p
    · split
      · exact s.startFill_continues _
      · exact s.reportDone_continues

theorem State.runSelection_continues (s : State) (c : Chan) : State.Continues c s (s.runSelection c) :=
  (State.select_continues _ _).after (.setEngine s c _ id)

theorem State.afterCompletion_continues (s : State) (c : Chan) : State.Continues c s (s.afterCompletion c) := by
  unfold State.afterCompletion
  split
  · exact s.runSelection_continues c
  · split
    · exact .setNego s c _
    · exact .setNego s c _
  all_goals exact .refl s

/-! ### The end of a channel reset -/

theorem State.ensureRefresh_continues {c : Chan} (s : State) (r : Slot) : State.Continues c s (s.ensureRefresh r) := by
  unfold State.ensureRefresh State.createRefresh
  split
  · split
    · exact s.setRefreshClass_continues r
    · split
      · exact .refl s
      · split
        · exact .refl s
        · exact .insertTask s _ (.inl rfl) rfl
  · exact .refl s

theorem State.refreshAfterReset_continues {c : Chan} (s : State) (d : Chan) (r : Slot) : State.Continues c s (s.refreshAfterReset d r) := by
  unfold State.refreshAfterReset
  split
  · exact s.ensureRefresh_continues r
  · exact .refl s

theorem State.bringOut_continues {c : Chan} (s : State) {r : Slot} (hdeep : (s.rank r).state = .deep) (cause : ExitCause) :
    State.Continues c s (s.bringOut r cause) := by
  unfold State.bringOut
  split
  · exact .refl s
  · split
    · exact .refl s
    · split
      · exact (State.Continues.notice _ _).after (.insertTask s _ (.inr (.inl ⟨rfl, hdeep⟩)) rfl)
      · split
        · refine (State.Continues.notice _ _).after (.mapTasks s _ (fun x => ?_) fun x _ hcls => ?_)
          · split <;> exact ⟨rfl, rfl, rfl, rfl⟩
          · split <;> [rfl; exact hcls]
        · exact .refl s

theorem State.exitAfterReset_continues {c : Chan} (s : State) (d : Chan) (r : Slot) : State.Continues c s (s.exitAfterReset d r) := by
  unfold State.exitAfterReset
  split
  · next h => exact s.bringOut_continues h.2.1 .reset
  · exact .refl s

theorem State.endReset_continues {c : Chan} (s : State) : State.Continues c s (s.endReset c) := by
  unfold State.endReset
  simp only
  refine .after (.foldl _ _ fun u e => .complete u _ _ _) (.after (State.scanAll_continues _)
    (.after (.foldl _ _ fun u r => u.exitAfterReset_continues c r) (.after (.foldl _ _ fun u r => u.refreshAfterReset_continues c r) ?_)))
  exact .setEngine s c _ id

/-- The work of a channel created again at its reset's end: the debts, then the exits (R128). -/
def State.restored (s : State) (c : Chan) : State :=
  allSlots.foldl (fun s r => s.exitAfterReset c r)
    (allSlots.foldl (fun s r => s.refreshAfterReset c r) (s.setEngine c { s.engine c with resetMark := false }))

/-- The RESET_CHANNEL commands of a channel completed with their counts (R174). -/
def State.answersResets (s : State) (c : Chan) : State :=
  (s.resetCommands c).foldl (fun s e => s.complete e.tag .done (.count e.removed)) s

theorem State.endReset_eq (s : State) (c : Chan) : s.endReset c = (s.restored c).scanAll.answersResets c := rfl

theorem State.ensureRefresh_work (s : State) (r : Slot) : s.ensureRefresh r = { s with queues := (s.ensureRefresh r).queues } := by
  unfold State.ensureRefresh State.createRefresh
  split
  · split
    · rw [State.setRefreshClass_frame]
    · split
      · rfl
      · split <;> rfl
  · rfl

theorem State.foldl_frame_queues {f : State → Slot → State} (hf : ∀ u r, f u r = { u with queues := (f u r).queues }) (l : List Slot) (s : State) :
    l.foldl f s = { s with queues := (l.foldl f s).queues } := by
  induction l generalizing s with
  | nil => rfl
  | cons r l ih => rw [List.foldl_cons, ih, hf]

theorem State.foldl_frame_told {f : State → Slot → State} (hf : ∀ u r, f u r = { u with
    queues := (f u r).queues, records := (f u r).records, lost := (f u r).lost }) (l : List Slot) (s : State) :
    l.foldl f s = { s with queues := (l.foldl f s).queues, records := (l.foldl f s).records, lost := (l.foldl f s).lost } := by
  induction l generalizing s with
  | nil => rfl
  | cons r l ih => rw [List.foldl_cons, ih, hf]

theorem State.refreshAfterReset_work (s : State) (c : Chan) (r : Slot) :
    s.refreshAfterReset c r = { s with queues := (s.refreshAfterReset c r).queues } := by
  unfold State.refreshAfterReset
  split
  · exact s.ensureRefresh_work r
  · rfl

theorem State.exitAfterReset_work (s : State) (c : Chan) (r : Slot) : s.exitAfterReset c r = { s with
    queues := (s.exitAfterReset c r).queues, records := (s.exitAfterReset c r).records, lost := (s.exitAfterReset c r).lost } := by
  unfold State.exitAfterReset
  split
  · exact s.bringOut_frame r .reset
  · rfl

theorem State.restored_frame (s : State) (c : Chan) : s.restored c = { s.setEngine c { s.engine c with resetMark := false } with
    queues := (s.restored c).queues, records := (s.restored c).records, lost := (s.restored c).lost } := by
  unfold State.restored
  rw [State.foldl_frame_told (fun u r => u.exitAfterReset_work c r), State.foldl_frame_queues (fun u r => u.refreshAfterReset_work c r)]

theorem State.outEntry_complete_ne (s : State) {tag tag' : Tag} (h : tag' ≠ tag) (st : Status) (d : Detail) :
    (s.complete tag' st d).outEntry tag = s.outEntry tag := by
  unfold State.complete
  split
  · rfl
  · exact find?_eraseP_tag h

theorem State.foldl_complete_frame {α : Type} (f : α → Tag) (st : Status) (d : α → Detail) (l : List α) (s : State) :
    l.foldl (fun u a => u.complete (f a) st (d a)) s = { s with
      outstanding := (l.foldl (fun u a => u.complete (f a) st (d a)) s).outstanding
      records := (l.foldl (fun u a => u.complete (f a) st (d a)) s).records } := by
  induction l generalizing s with
  | nil => rfl
  | cons a l ih => rw [List.foldl_cons, ih, State.complete_frame]

theorem State.foldl_complete_records {α : Type} (f : α → Tag) (st : Status) (d : α → Detail) (l : List α) (s : State) :
    s.records <+: (l.foldl (fun u a => u.complete (f a) st (d a)) s).records := by
  induction l generalizing s with
  | nil => exact List.prefix_rfl
  | cons a l ih => exact (State.Steady.complete s _ _ _).records.trans (ih _)

theorem State.foldl_complete_outstanding {α : Type} (f : α → Tag) (st : Status) (d : α → Detail) (l : List α) (s : State) :
    (l.foldl (fun u a => u.complete (f a) st (d a)) s).outstanding.Sublist s.outstanding := by
  induction l generalizing s with
  | nil => exact .refl _
  | cons a l ih => exact (ih _).trans (s.complete_outstanding_sublist _ _ _)

theorem State.foldl_complete_entry {α : Type} {tag : Tag} (f : α → Tag) (st : Status) (d : α → Detail) (l : List α) (h : ∀ a ∈ l, f a ≠ tag)
    (s : State) : (l.foldl (fun u a => u.complete (f a) st (d a)) s).outEntry tag = s.outEntry tag := by
  induction l generalizing s with
  | nil => rfl
  | cons a l ih =>
    exact (ih (fun b hb => h b (List.mem_cons_of_mem a hb)) _).trans (s.outEntry_complete_ne (h a List.mem_cons_self) _ _)

theorem State.answersResets_frame (s : State) (c : Chan) : s.answersResets c = { s with
    outstanding := (s.answersResets c).outstanding, records := (s.answersResets c).records } :=
  State.foldl_complete_frame OutEntry.tag .done (fun e => .count e.removed) (s.resetCommands c) s

/-- Every RESET_CHANNEL of the channel ends with its count (R174). -/
theorem State.answersResets_told {s : State} {c : Chan} {e : OutEntry} (hnodup : (s.outstanding.map OutEntry.tag).Nodup) (he : e ∈ s.outstanding)
    (hkind : e.kind = .resetChannel) (hchannel : e.channel = .chan c) :
    e.report .done (.count e.removed) s.timestamp ∈ (s.answersResets c).records ∧ e ∉ (s.answersResets c).outstanding := by
  have hmem : e ∈ s.resetCommands c := List.mem_filter.mpr ⟨he, by simp [hkind, hchannel]⟩
  obtain ⟨before, after, hsplit⟩ := List.append_of_mem hmem
  have htags : ((before ++ e :: after).map OutEntry.tag).Nodup := by
    rw [← hsplit]
    exact (List.filter_sublist.map _).nodup hnodup
  have hbefore : ∀ x ∈ before, x.tag ≠ e.tag := by
    intro x hx h
    rw [List.map_append, List.nodup_append] at htags
    exact htags.2.2 _ (List.mem_map_of_mem hx) _ (List.mem_map_of_mem List.mem_cons_self) h
  have hentry := State.foldl_complete_entry OutEntry.tag .done (fun e => .count e.removed) before hbefore s
  have hframe := State.foldl_complete_frame OutEntry.tag .done (fun e => .count e.removed) before s
  have hsub := State.foldl_complete_outstanding OutEntry.tag .done (fun e => .count e.removed) before s
  rw [State.outEntry_of_mem hnodup he] at hentry
  rw [State.answersResets, hsplit, List.foldl_append, List.foldl_cons]
  generalize before.foldl (fun u a => u.complete a.tag .done (.count a.removed)) s = u at hentry hframe hsub
  have htime : u.timestamp = s.timestamp := by rw [hframe]
  have hmore := State.foldl_complete_records OutEntry.tag .done (fun e => .count e.removed) after (u.complete e.tag .done (.count e.removed))
  have hless := State.foldl_complete_outstanding OutEntry.tag .done (fun e => .count e.removed) after (u.complete e.tag .done (.count e.removed))
  refine ⟨hmore.subset (htime ▸ State.completeTag_mem hentry _ _), fun h => ?_⟩
  have hgone := hless.subset h
  simp only [State.complete, hentry] at hgone
  rw [eraseP_tag_eq_filter ((hsub.map _).nodup hnodup)] at hgone
  simp at hgone

/-- A debt has its task after its own turn (R128). -/
theorem State.refreshAfterReset_debt {s : State} {c : Chan} {r : Slot} (hmark : (s.engine c).resetMark = false) (hch : (s.rank r).channel = some c)
    (hserved : (s.rank r).state.served = true) (hdebt : (s.rank r).balance < 0) :
    ∃ x ∈ ((s.refreshAfterReset c r).queue c).tasks, x.rank = r ∧ x.kind = .refresh := by
  rw [State.refreshAfterReset, if_pos ⟨hch, hserved⟩, State.ensureRefresh, if_pos hdebt]
  cases htask : s.taskAt r .refresh with
  | none =>
    simp only [hch, State.createRefresh]
    rw [if_neg (by rw [State.resetting, hmark]; decide), State.insertTask_eq, State.queue_setQueue_self]
    exact ⟨_, List.mem_append_right _ (List.mem_singleton.mpr rfl), rfl, rfl⟩
  | some x =>
    obtain ⟨hx, hrank, hplace⟩ := State.mem_of_taskAt hch htask
    simp only [State.setRefreshClass, hch, State.mapTasks, State.queue_setQueue_self]
    exact ⟨_, List.mem_map_of_mem hx, by rw [if_pos ⟨hrank, TaskKind.place_eq_refresh.mp hplace⟩]; exact ⟨hrank, TaskKind.place_eq_refresh.mp hplace⟩⟩

theorem State.exitAfterReset_keeps (s : State) (c : Chan) (r : Slot) {p : Task → Bool}
    (hp : ∀ x : Task, x.rank = r → x.kind = .deepExit → p x = false) :
    s.KeepsTasks p (s.exitAfterReset c r) := by
  unfold State.exitAfterReset
  split
  · exact s.bringOut_keeps r .reset hp
  · exact .refl s

/-- The debts of the channel's ranks have their tasks again (R128). -/
theorem State.restored_debts (s : State) (c : Chan) (r : Slot) (hch : (s.rank r).channel = some c) (hserved : (s.rank r).state.served = true)
    (hdebt : (s.rank r).balance < 0) : ∃ x ∈ ((s.restored c).queue c).tasks, x.rank = r ∧ x.kind = .refresh := by
  have hkeep : ∀ (l : List Slot), r ∉ l → ∀ u : State, u.KeepsTasks (fun x => x.isDebtOf r) (l.foldl (fun s r => s.refreshAfterReset c r) u) := by
    intro l hl u
    refine foldl_slots (P := fun s t => s.KeepsTasks (fun x => x.isDebtOf r) t) .refl .trans (fun s q hq => ?_) l hl u
    unfold State.refreshAfterReset
    split
    · refine State.KeepsTasks.mono (by exact (s.ensureRefresh_planned q).tasks) fun x hx => ?_
      have hx : x.rank = r ∧ x.kind = .refresh := by simpa [Task.isDebtOf] using hx
      simp [hx.1, hq.symm]
    · exact .refl s
  have hexits : ∀ u : State, u.KeepsTasks (fun x => x.isDebtOf r) (allSlots.foldl (fun s r => s.exitAfterReset c r) u) := by
    intro u
    generalize allSlots = l
    induction l generalizing u with
    | nil => exact .refl u
    | cons q l ih =>
      exact .trans (u.exitAfterReset_keeps c q fun x _ hx => by simp [Task.isDebtOf, hx]) (ih _)
  obtain ⟨before, after, hbefore, hafter, hcut⟩ := foldl_allSlots_cut (fun s r => s.refreshAfterReset c r) r
    (s.setEngine c { s.engine c with resetMark := false })
  rw [State.restored, hcut]
  have hframe := State.foldl_frame_queues (fun u r => u.refreshAfterReset_work c r) before (s.setEngine c { s.engine c with resetMark := false })
  generalize before.foldl (fun s r => s.refreshAfterReset c r) (s.setEngine c { s.engine c with resetMark := false }) = u at hframe
  have hrank : u.rank r = s.rank r := by rw [hframe]; rfl
  have hmark : (u.engine c).resetMark = false := by
    rw [hframe]
    exact congrArg Engine.resetMark (State.engine_setEngine_self s c _)
  obtain ⟨x, hx, hxrank, hxkind⟩ := State.refreshAfterReset_debt (r := r) hmark (by rw [hrank]; exact hch) (by rw [hrank]; exact hserved) (by rw [hrank]; exact hdebt)
  have hdebtOf : x.isDebtOf r = true := by simp [Task.isDebtOf, hxrank, hxkind]
  exact ⟨x, ((hexits _).mem_iff hdebtOf).mpr (((hkeep after hafter _).mem_iff hdebtOf).mpr hx), hxrank, hxkind⟩

/-- What the end of a channel reset leaves of the ranks and the reports (R128, R167, R174). -/
theorem State.endReset_frame (s : State) (c : Chan) : s.endReset c = { s.setEngine c { s.engine c with resetMark := false } with
    groups := (s.endReset c).groups, queues := (s.endReset c).queues, records := (s.endReset c).records, lost := (s.endReset c).lost
    outstanding := (s.endReset c).outstanding } := by
  rw [State.endReset_eq, State.answersResets_frame, State.scanAll_frame, State.restored_frame]

theorem State.endReset_debts (s : State) (c : Chan) (r : Slot) (hch : (s.rank r).channel = some c) (hserved : (s.rank r).state.served = true)
    (hdebt : (s.rank r).balance < 0) : ∃ x ∈ ((s.endReset c).queue c).tasks, x.rank = r ∧ x.kind = .refresh := by
  obtain ⟨x, hx, hrank, hkind⟩ := s.restored_debts c r hch hserved hdebt
  have hqueues : (s.endReset c).queues = (s.restored c).scanAll.queues := by rw [State.endReset_eq, State.answersResets_frame]
  refine ⟨x, ?_, hrank, hkind⟩
  rw [State.queue, hqueues]
  exact ((State.Scans.scanAll _).grants c).subset hx

theorem State.endReset_told {s : State} {c : Chan} {e : OutEntry} (hnodup : (s.outstanding.map OutEntry.tag).Nodup) (he : e ∈ s.outstanding)
    (hkind : e.kind = .resetChannel) (hchannel : e.channel = .chan c) :
    e.report .done (.count e.removed) s.timestamp ∈ (s.endReset c).records ∧ e ∉ (s.endReset c).outstanding := by
  have hout : (s.restored c).scanAll.outstanding = s.outstanding := by rw [State.scanAll_frame, State.restored_frame]; rfl
  have htime : (s.restored c).scanAll.timestamp = s.timestamp := by rw [State.scanAll_frame, State.restored_frame]; rfl
  rw [State.endReset_eq, ← htime]
  exact State.answersResets_told (by rw [hout]; exact hnodup) (by rw [hout]; exact he) hkind hchannel

/-! ### The rows of a completion -/

theorem PerChan.ext_get {α : Type} {p q : PerChan α} (h : ∀ c, p.get c = q.get c) : p = q := by
  obtain ⟨a, b⟩ := p
  obtain ⟨a', b'⟩ := q
  rw [show a = a' from h .a, show b = b' from h .b]

theorem State.settle_of_drain {s : State} (h : s.drain = true) : s.settle = s := by
  have hnego : s.settle.negotiators = s.negotiators := PerChan.ext_get fun c => State.settle_nego_of_drain h c
  rw [State.settle_frame, hnego]

/-- A completion after part 3: the end of a channel reset that waited for the task (R161). -/
def State.afterReset (w : State) (c : Chan) : State := if (w.engine c).resetMark = true then w.endReset c else w

theorem State.afterReset_lines (w : State) (c : Chan) : (w.afterReset c).negotiators = w.negotiators ∧
    (∀ d, (w.afterReset c).engine d = if d = c then { w.engine c with resetMark := false } else w.engine d) ∧
    w.afterReset c = { w with
      engines := (w.afterReset c).engines, groups := (w.afterReset c).groups, queues := (w.afterReset c).queues
      records := (w.afterReset c).records, lost := (w.afterReset c).lost, outstanding := (w.afterReset c).outstanding } := by
  unfold State.afterReset
  split
  · obtain ⟨hnego, hengine, -⟩ := w.endReset_lines c
    refine ⟨hnego, fun d => State.engine_of_set hengine, ?_⟩
    rw [hengine]
    exact w.endReset_frame c
  · next hmark =>
    have hmark : (w.engine c).resetMark = false := by simpa using hmark
    refine ⟨rfl, fun d => ?_, rfl⟩
    split
    · next hd => rw [hd, ← hmark]
    · rfl

theorem State.afterReset_continues (w : State) (c : Chan) : State.Continues c w (w.afterReset c) := by
  unfold State.afterReset
  split
  · exact w.endReset_continues
  · exact .refl w

theorem State.afterCompletion_others (w : State) (c : Chan) : (w.afterCompletion c).drain = w.drain ∧
    ∀ d, d ≠ c → (w.afterCompletion c).engine d = w.engine d := by
  have hrun : (w.runSelection c).drain = w.drain ∧ ∀ d, d ≠ c → (w.runSelection c).engine d = w.engine d := by
    obtain ⟨hframe, houtcome⟩ := w.runSelection_selected c
    refine ⟨by rw [hframe]; rfl, fun d hd => ?_⟩
    obtain ⟨_, _, _, -, -, hengine⟩ | ⟨-, hengine⟩ := houtcome
    · rw [State.engine_of_set hengine, if_neg hd, State.engine_setEngine_ne _ _ hd]
    · rw [State.engine_of_set hengine, if_neg hd, State.engine_setEngine_ne _ _ hd]
  unfold State.afterCompletion
  split
  · exact hrun
  · split <;> exact ⟨rfl, fun _ _ => rfl⟩
  all_goals exact ⟨rfl, fun _ _ => rfl⟩

theorem State.checkDrain_of_drain {w : State} (h : w.drain = false) (sda : Bool) : w.checkDrain sda = w := by
  rw [State.checkDrain, h]
  rfl

theorem State.checkDrain_of_flight {w : State} {d : Chan} (h : (w.engine d).flight.isSome = true) (sda : Bool) : w.checkDrain sda = w := by
  have hstill : w.enginesStill = false := by
    cases d <;> simp [State.enginesStill, Option.isNone_eq_false_iff.mpr h]
  rw [State.checkDrain, hstill, Bool.and_false]
  rfl

section
variable {s w : State} {c : Chan} {lines : CompletionLines} {f : Flight} {due : Nat}

/-- A completion from what it leaves when part 3 is done (R161, R162). -/
theorem exec_taskCompletion (hreset : s.inReset = false) (hdue : (s.engine c).completion = some due) (hflight : (s.engine c).flight = some f)
    (hw : (s.reach due).flightEnded c f lines.result = w) : exec (.taskCompletion c lines) s =
      .next (((w.afterReset c).afterCompletion c).checkDrain lines.sda).settle := by
  have hexec := exec_expiry (i := .taskCompletion c lines) (f := fun s => s.takeCompletion c lines) hreset hdue rfl
  have htake : (s.reach due).takeCompletion c lines = ((s.reach due).completion c f lines.result).checkDrain lines.sda := by
    have hflight' : ((s.reach due).engine c).flight = some f := hflight
    rw [State.takeCompletion, hflight']
  rw [hexec, htake, State.completion_eq, hw]
  rfl

/-- What holds of the parts a completion leaves when part 3 is done. -/
theorem flightEnded_stays (hw : (s.reach due).flightEnded c f lines.result = w) : (∀ d, w.nego d = s.nego d) ∧
    w.engine c = (s.engine c).ended ∧ (∀ d, d ≠ c → w.engine d = s.engine d) ∧ w.drain = s.drain := by
  obtain ⟨hnego, hengine, hdrain⟩ := (s.reach due).flightEnded_lines c f lines.result
  rw [hw] at hnego hengine hdrain
  refine ⟨fun d => by rw [State.nego, hnego]; rfl, ?_, fun d hd => ?_, hdrain⟩
  · rw [State.engine_of_set hengine, if_pos rfl]
    rfl
  · rw [State.engine_of_set hengine, if_neg hd]
    rfl

/-- A completion that ends no drain. -/
theorem exec_taskCompletion_of_stays (hreset : s.inReset = false) (hdue : (s.engine c).completion = some due)
    (hflight : (s.engine c).flight = some f) (hw : (s.reach due).flightEnded c f lines.result = w)
    (hstays : s.drain = false ∨ ∃ d : Chan, d ≠ c ∧ (s.engine d).flight.isSome = true) :
    exec (.taskCompletion c lines) s = .next ((w.afterReset c).afterCompletion c).settle := by
  obtain ⟨-, -, hothers, hdrain⟩ := flightEnded_stays hw
  obtain ⟨-, hengines, hframe⟩ := w.afterReset_lines c
  obtain ⟨hdrain', hothers'⟩ := (w.afterReset c).afterCompletion_others c
  rw [exec_taskCompletion hreset hdue hflight hw]
  obtain hs | ⟨d, hd, hsome⟩ := hstays
  · rw [State.checkDrain_of_drain]
    rw [hdrain', hframe]
    exact hdrain.trans hs
  · rw [State.checkDrain_of_flight (d := d)]
    rw [hothers' d hd, hengines, if_neg hd, hothers d hd]
    exact hsome

theorem State.afterCompletion_of_waits {w : State} (h : (w.nego c).state = .idle ∨ (w.nego c).state = .releasing) : w.afterCompletion c = w := by
  unfold State.afterCompletion
  obtain h | h := h <;> rw [h]

/-- A completion in a channel that is not resetting, by its window (R142, R144, R162). -/
theorem exec_taskCompletion_windows (hreset : s.inReset = false) (hdue : (s.engine c).completion = some due)
    (hflight : (s.engine c).flight = some f) (hw : (s.reach due).flightEnded c f lines.result = w) (hnow : w.now = max s.now due)
    (htiming : w.timing = s.timing) (hdrain : s.drain = false) (hmark : (s.engine c).resetMark = false) :
    ((s.nego c).state = .opened → exec (.taskCompletion c lines) s = .next (w.runSelection c).settle) ∧
    ((s.nego c).state = .draining → (s.nego c).lost = false →
      exec (.taskCompletion c lines) s = .next (w.setNego c { s.nego c with
        state := .releasing, qreq := false, qurg := false, lost := false, cause := .recall
        releaseTimer := some (max s.now due + s.timing.releaseWait), releaseMark := false }).settle) ∧
    ((s.nego c).state = .draining → (s.nego c).lost = true →
      exec (.taskCompletion c lines) s = .next (w.setNego c { s.nego c with state := .idle, lost := false }).settle) := by
  obtain ⟨hnego, hengine, -⟩ := flightEnded_stays hw
  have hexec := exec_taskCompletion_of_stays hreset hdue hflight hw (.inl hdrain)
  have hnoReset : w.afterReset c = w := if_neg (by rw [hengine]; exact Bool.eq_false_iff.mp hmark)
  rw [hnoReset] at hexec
  rw [hexec]
  unfold State.afterCompletion State.enterReleasing
  rw [hnego, hnow, htiming]
  refine ⟨fun h => by simp only [h], fun h hlost => ?_, fun h hlost => ?_⟩
  · simp only [h, hlost, Bool.false_eq_true, if_false]
  · simp only [h, hlost, if_true]

/-- A completion that ends a channel reset, outside a window (R128, R167). -/
theorem exec_taskCompletion_of_mark (hreset : s.inReset = false) (hdue : (s.engine c).completion = some due)
    (hflight : (s.engine c).flight = some f) (hw : (s.reach due).flightEnded c f lines.result = w)
    (hdrain : s.drain = false) (hmark : (s.engine c).resetMark = true) (hwaits : (s.nego c).state = .idle ∨ (s.nego c).state = .releasing) :
    exec (.taskCompletion c lines) s = .next (w.endReset c).settle := by
  obtain ⟨hnego, hengine, -⟩ := flightEnded_stays hw
  have hends : w.afterReset c = w.endReset c := if_pos (by rw [hengine]; exact hmark)
  have hsame : (w.endReset c).nego c = s.nego c := by
    rw [← hends, State.nego, (w.afterReset_lines c).1]
    exact hnego c
  rw [exec_taskCompletion_of_stays hreset hdue hflight hw (.inl hdrain), hends, State.afterCompletion_of_waits (by rw [hsame]; exact hwaits)]

/-- A completion during a drain that waits for the other engine too (R184). -/
theorem exec_taskCompletion_of_drain (hreset : s.inReset = false) (hdue : (s.engine c).completion = some due)
    (hflight : (s.engine c).flight = some f) (hw : (s.reach due).flightEnded c f lines.result = w)
    (hdrain : s.drain = true) (hothers : ∃ d : Chan, d ≠ c ∧ (s.engine d).flight.isSome = true) (hmark : (s.engine c).resetMark = false)
    (hwaits : (s.nego c).state = .idle ∨ (s.nego c).state = .releasing) : exec (.taskCompletion c lines) s = .next w := by
  obtain ⟨hnego, hengine, -, hdrain'⟩ := flightEnded_stays hw
  have hnoReset : w.afterReset c = w := if_neg (by rw [hengine]; exact Bool.eq_false_iff.mp hmark)
  rw [exec_taskCompletion_of_stays hreset hdue hflight hw (.inr hothers), hnoReset,
    State.afterCompletion_of_waits (by rw [hnego]; exact hwaits), State.settle_of_drain (hdrain'.trans hdrain)]

/-- A completion that ends a drain (R69, R184). -/
theorem exec_taskCompletion_drained (hreset : s.inReset = false) (hdue : (s.engine c).completion = some due)
    (hflight : (s.engine c).flight = some f) (hw : (s.reach due).flightEnded c f lines.result = w)
    (hkept : w.pending = s.pending ∧ w.readData = s.readData ∧ w.monitor = s.monitor ∧ w.now = max s.now due)
    (hdrain : s.drain = true) (hothers : ∀ d : Chan, d ≠ c → (s.engine d).flight = none)
    (hwaits : (s.nego c).state = .idle ∨ (s.nego c).state = .releasing) :
    exec (.taskCompletion c lines) s = .next (s.drained (max s.now due) lines.sda) := by
  obtain ⟨hnego, hengine, hother, hdrain'⟩ := flightEnded_stays hw
  obtain ⟨hnegos, hengines, hframe⟩ := w.afterReset_lines c
  obtain ⟨hpending, hread, hmonitor, hnow⟩ := hkept
  have hnego' : ∀ d, (w.afterReset c).nego d = s.nego d := fun d => by
    rw [State.nego, hnegos]
    exact hnego d
  have hnone : ∀ d, ((w.afterReset c).engine d).flight = none := by
    intro d
    rw [hengines]
    split
    · rw [hengine]
      rfl
    · next hd => rw [hother d hd, hothers d hd]
  have hstill : (w.afterReset c).enginesStill = true := by simp [State.enginesStill, hnone]
  rw [exec_taskCompletion hreset hdue hflight hw, State.afterCompletion_of_waits (by rw [hnego']; exact hwaits)]
  have hends : (w.afterReset c).checkDrain lines.sda = (w.afterReset c).drained (max s.now due) lines.sda := by
    rw [State.checkDrain, hstill, show (w.afterReset c).drain = true by rw [hframe]; exact hdrain'.trans hdrain, ← hnow,
      show w.now = (w.afterReset c).now by rw [hframe]]
    exact State.endDrain_eq_drained _ _
  have hsame : (w.afterReset c).drained (max s.now due) lines.sda = s.drained (max s.now due) lines.sda :=
    State.drained_congr (by rw [hframe]; exact hpending) (by rw [hframe]; exact hread) (by rw [hframe]; exact hmonitor) fun d => by
      rw [hnego']; exact ⟨rfl, rfl⟩
  have hsettled : (s.drained (max s.now due) lines.sda).Settled := (s.reach due).drained_settled lines.sda
  rw [hends, hsame, State.settle_of_settled _ hsettled]

end

/-- What a completion samples touches the engine alone (R157). -/
theorem State.sampleAtCompletion_eq (s : State) (c : Chan) (f : Flight) (line : CalResult) : ∃ e : Engine,
    s.sampleAtCompletion c f line = s.setEngine c e ∧ e.ended = (s.engine c).ended ∧ e.resetMark = (s.engine c).resetMark ∧
      ((s.engine c).sample = none → e.result line = (s.engine c).sampled.getD line) := by
  unfold State.sampleAtCompletion State.sampleResult
  cases hsample : (s.engine c).sample with
  | some due => exact ⟨_, rfl, rfl, rfl, fun h => nomatch h⟩
  | none =>
    cases hsampled : (s.engine c).sampled with
    | some r => exact ⟨s.engine c, (State.setEngine_engine_same s c).symm, rfl, rfl, fun _ => by rw [Engine.result, hsampled]⟩
    | none => exact ⟨_, rfl, rfl, rfl, fun _ => rfl⟩

/-- Parts 1 to 3 of a completion from its part 2 (R161). -/
theorem State.flightEnded_of {s v : State} {c : Chan} {f : Flight} {line : CalResult}
    (h : ∀ e : Engine, e.resetMark = (s.engine c).resetMark → ((s.engine c).sample = none → e.result line = (s.engine c).sampled.getD line) →
      (s.setEngine c e).completeFlight c f (e.result line) = v.setEngine c e) :
    s.flightEnded c f line = v.setEngine c (s.engine c).ended := by
  obtain ⟨e, hsampled, hended, hmark, hresult⟩ := s.sampleAtCompletion_eq c f line
  rw [State.flightEnded, hsampled, State.engine_setEngine_self, h e hmark hresult, State.clearFlight, State.engine_setEngine_self,
    State.setEngine_setEngine, ← hended]
  rfl

/-- The tag of the task a queue holds as executing (R113). -/
def State.executingTag (s : State) (c : Chan) : Option Tag := ((s.queue c).tasks.find? (fun x => x.executing)).bind Task.tag

theorem State.completeFlight_refreshNow (s : State) (c : Chan) {f : Flight} (h : f.kind = .task .refreshNow) (result : CalResult) :
    s.completeFlight c f result = (s.completeTag (s.executingTag c) .done (.count f.n)).dropExecuting c := by
  unfold State.completeFlight State.executingTask State.executingTag
  simp only [h]
  cases (s.queue c).tasks.find? Task.executing <;> rfl

theorem State.completeFlight_power (s : State) (c : Chan) {f : Flight} {k : TaskKind} (h : f.kind = .task k) (hk : k.place = .power)
    (result : CalResult) : s.completeFlight c f result = s.completePower c f.rank k (s.executingTag c) := by
  unfold State.completeFlight State.executingTask State.executingTag
  cases k <;> simp only [h, TaskKind.place, reduceCtorEq] at hk ⊢ <;> cases (s.queue c).tasks.find? Task.executing <;> rfl

/-- An internal refresh task of a rank as its completion leaves it in the queue (R30, R33). -/
def Task.keptBy (r : Slot) (cls : TaskClass) (x : Task) : Task :=
  if x.rank = r ∧ x.kind = .refresh then { x with executing := false, cls := cls } else { x with executing := false }

theorem State.completeRefresh_eq {s : State} {c : Chan} {r : Slot} (hch : (s.rank r).channel = some c) : s.completeRefresh c r =
    s.setQueue c { s.queue c with tasks :=
      (if (s.rank r).balance < 0 ∧ (s.engine c).resetMark = false then
        (s.queue c).tasks.map (Task.keptBy r (if (s.rank r).urgent = true then TaskClass.urgent else .routine))
      else (s.queue c).tasks.filter (fun x => !x.executing)) } := by
  unfold State.completeRefresh State.resetting
  split
  · have hmap : (fun x : Task => if x.rank = r ∧ x.kind = .refresh then { x with cls := refreshClass (s.rank r).urgent } else x) ∘
        (fun x : Task => { x with executing := false }) = Task.keptBy r (if (s.rank r).urgent = true then TaskClass.urgent else .routine) := by
      funext x
      rfl
    have hchannel : ((s.mapTasks c (fun x => { x with executing := false })).rank r).channel = some c := hch
    simp only [State.setRefreshClass, hchannel]
    simp only [State.mapTasks, State.queue_setQueue_self, State.setQueue_setQueue, List.map_map]
    rw [← hmap]
    rfl
  · rfl

/-- The completion of refresh work up to part 3 (R33, R38, R161). -/
theorem flightEnded_of_refreshWork {s : State} {c : Chan} {f : Flight} {line : CalResult}
    (hkind : f.kind = .task .refresh ∨ f.kind = .task .refreshNow ∨ f.kind = .fill) (hch : (s.rank f.rank).channel = some c) :
    s.flightEnded c f line = ((if f.kind = .task .refreshNow then
        s.completeTag (s.executingTag c) .done (.count f.n) else s).setQueue c
      { s.queue c with tasks := if f.kind = .fill then (s.queue c).tasks
        else if f.kind = .task .refresh ∧ (s.rank f.rank).balance < 0 ∧ (s.engine c).resetMark = false then
          (s.queue c).tasks.map (Task.keptBy f.rank (if (s.rank f.rank).urgent = true then TaskClass.urgent else .routine))
        else (s.queue c).tasks.filter (fun x => !x.executing) }).setEngine c (s.engine c).ended := by
  refine State.flightEnded_of fun e hmark _ => ?_
  obtain h | h | h := hkind
  · simp only [State.completeFlight, h, true_and, FlightKind.task.injEq, reduceCtorEq, if_false]
    rw [State.completeRefresh_eq (by exact hch), State.engine_setEngine_self, hmark]
    rfl
  · simp only [h, FlightKind.task.injEq, reduceCtorEq, if_false, false_and, if_true]
    rw [State.completeFlight_refreshNow _ c h, State.completeTag_setEngine, State.dropExecuting, State.removeTasks]
    have hqueue : ∀ tag, (s.completeTag tag .done (.count f.n)).queue c = s.queue c := fun tag => by rw [State.completeTag_frame]; rfl
    rw [State.queue_of_setEngine, hqueue]
    rfl
  · simp only [State.completeFlight, h, reduceCtorEq, if_false, if_true]
    exact congrArg (fun t : State => t.setEngine c e) (State.setQueue_queue_same s c).symm

/-- The state a completion leaves where it ends a channel reset outside a window (R128, R167, R174). -/
structure State.ResetEnds (w : State) (c : Chan) (t : State) : Prop where
  engine : t.engine c = { w.engine c with resetMark := false }
  ranks : t.ranks = w.ranks
  monitor : t.monitor = w.monitor
  records : w.records <+: t.records
  debts : ∀ r : Slot, (w.rank r).channel = some c → (w.rank r).state.served = true → (w.rank r).balance < 0 →
    ∃ x ∈ (t.queue c).tasks, x.rank = r ∧ x.kind = .refresh
  told : (w.outstanding.map OutEntry.tag).Nodup → ∀ e ∈ w.outstanding, e.kind = .resetChannel → e.channel = .chan c →
    e.report .done (.count e.removed) w.timestamp ∈ t.records ∧ e ∉ t.outstanding

theorem State.resetEnds (w : State) (c : Chan) : w.ResetEnds c (w.endReset c).settle := by
  have hrecords := (w.endReset_continues (c := c)).records
  have hdebts := w.endReset_debts c
  have htold := fun hnodup e => State.endReset_told (s := w) (c := c) (e := e) hnodup
  have hengine : (w.endReset c).engine c = { w.engine c with resetMark := false } := by
    rw [State.engine_of_set (w.endReset_lines c).2.1, if_pos rfl]
  have hframe := w.endReset_frame c
  have hranks : (w.endReset c).ranks = w.ranks := by rw [hframe]; rfl
  have hmonitor : (w.endReset c).monitor = w.monitor := by rw [hframe]; rfl
  have hsettle := (w.endReset c).settle_frame
  generalize (w.endReset c).settle = t at hsettle
  generalize w.endReset c = v at *
  obtain ⟨hengines, hranks', hmonitor', hrecords', hqueue, hout⟩ : t.engine c = v.engine c ∧ t.ranks = v.ranks ∧ t.monitor = v.monitor ∧
      t.records = v.records ∧ t.queue c = v.queue c ∧ t.outstanding = v.outstanding := by
    rw [hsettle]
    exact ⟨rfl, rfl, rfl, rfl, rfl, rfl⟩
  refine ⟨hengines.trans hengine, hranks'.trans hranks, hmonitor'.trans hmonitor, hrecords' ▸ hrecords, ?_, ?_⟩
  · rw [hqueue]
    exact hdebts
  · rw [hrecords', hout]
    exact fun hnodup e he => htold hnodup e he

theorem State.mem_outstanding_completeTag {s : State} {tag : Option Tag} {e : OutEntry} (he : e ∈ s.outstanding) (htag : tag ≠ some e.tag)
    (st : Status) (d : Detail) : e ∈ (s.completeTag tag st d).outstanding := by
  cases tag with
  | none => exact he
  | some tag =>
    show e ∈ (s.complete tag st d).outstanding
    unfold State.complete
    split
    · exact he
    · exact (List.mem_eraseP_of_neg (by simpa using fun h => htag (congrArg some h.symm))).mpr he

theorem State.completeTag_outstanding_nodup {s : State} (h : (s.outstanding.map OutEntry.tag).Nodup) (tag : Option Tag) (st : Status) (d : Detail) :
    ((s.completeTag tag st d).outstanding.map OutEntry.tag).Nodup := by
  cases tag with
  | none => exact h
  | some tag => exact ((s.complete_outstanding_sublist tag st d).map _).nodup h

/-- Settles O40: parts 1 to 3 give the state the statement writes out, and each row takes it on. -/
theorem completionInDrainingWindow : Obligations.CompletionInDrainingWindow := by
  intro s c lines f due hreset hdue hflight hkind hch u cls kept tasks q tag v still waits
  have hw : (s.reach due).flightEnded c f lines.result = still := flightEnded_of_refreshWork (s := s.reach due) hkind hch
  have hframe : v = { u with outstanding := v.outstanding, records := v.records } := by
    simp only [v]
    split
    · exact State.completeTag_frame _ _ _ _
    · rfl
  have hprefix : ∀ e ∈ s.outstanding, tag ≠ some e.tag → e ∈ v.outstanding := by
    intro e he htag
    simp only [v]
    split
    · exact State.mem_outstanding_completeTag (s := u) he htag _ _
    · exact he
  have hnodup : (s.outstanding.map OutEntry.tag).Nodup → (v.outstanding.map OutEntry.tag).Nodup := by
    intro h
    simp only [v]
    split
    · exact State.completeTag_outstanding_nodup (s := u) h _ _ _
    · exact h
  have hkept : still.pending = s.pending ∧ still.readData = s.readData ∧ still.monitor = s.monitor ∧ still.now = max s.now due := by
    simp only [still]
    rw [hframe]
    exact ⟨rfl, rfl, rfl, rfl⟩
  have htiming : still.timing = s.timing := by
    simp only [still]
    rw [hframe]
    rfl
  have hranks : still.ranks = s.ranks := by
    simp only [still]
    rw [hframe]
    rfl
  have htime : still.timestamp = s.timestamp := by
    simp only [still]
    rw [hframe]
    rfl
  have hout : still.outstanding = v.outstanding := rfl
  have hrecords : still.records = v.records := rfl
  obtain ⟨hpending, hread, hmonitor, hnow⟩ := id hkept
  generalize still = w at *
  refine ⟨fun hdrain hmark => exec_taskCompletion_windows hreset hdue hflight hw hnow htiming hdrain hmark, fun hdrain hmark hwaits => ?_,
    fun hdrain hothers hmark hwaits => exec_taskCompletion_of_drain hreset hdue hflight hw hdrain hothers hmark hwaits,
    fun hdrain hothers hwaits => exec_taskCompletion_drained hreset hdue hflight hw hkept hdrain hothers hwaits⟩
  have hends := w.resetEnds c
  have hpre := hends.records
  rw [hrecords] at hpre
  have hrank : ∀ r, w.rank r = s.rank r := fun r => by rw [State.rank, hranks]; rfl
  refine ⟨_, exec_taskCompletion_of_mark hreset hdue hflight hw hdrain hmark hwaits, hends.engine, hends.ranks.trans hranks, hends.monitor.trans hmonitor,
    hpre, fun r hr hserved hdebt => ?_, fun hs e he hekind hechannel htag => ?_⟩
  · exact hends.debts r (by rw [hrank]; exact hr) (by rw [hrank]; exact hserved) (by rw [hrank]; exact hdebt)
  · have h := hends.told (by rw [hout]; exact hnodup hs) e (by rw [hout]; exact hprefix e he htag) hekind hechannel
    rw [htime] at h
    exact h

/-! ### Power tasks -/

/-- A rank in DEEP and band 3 with no power task gets its exit at the end of its channel's reset (R128). -/
theorem State.exitAfterReset_exit {s : State} {c : Chan} {r : Slot} (hmark : (s.engine c).resetMark = false) (hch : (s.rank r).channel = some c)
    (hdeep : (s.rank r).state = .deep) (hband : (s.rank r).band = 3) (hnone : s.taskAt r .power = none) :
    ∃ y ∈ ((s.exitAfterReset c r).queue c).tasks, y.rank = r ∧ y.kind = .deepExit ∧ y.cls = .urgent ∧ y.origin = .thermal := by
  rw [State.exitAfterReset, if_pos ⟨hch, hdeep, hband⟩, State.bringOut_of_none hch hmark hnone, State.createExit_eq, State.queue_of_notice,
    State.queue_setQueue_self]
  exact ⟨_, List.mem_append_right _ (List.mem_singleton.mpr rfl), rfl, rfl, rfl, rfl⟩

theorem State.restored_exit {s : State} {c : Chan} {r : Slot} (hch : (s.rank r).channel = some c) (hdeep : (s.rank r).state = .deep)
    (hband : (s.rank r).band = 3) (hnone : s.taskAt r .power = none) :
    ∃ y ∈ ((s.restored c).queue c).tasks, y.rank = r ∧ y.kind = .deepExit ∧ y.cls = .urgent ∧ y.origin = .thermal := by
  have hrefresh : ∀ u : State, u.KeepsTasks (fun x => decide (x.rank = r ∧ x.kind.place = .power)) (allSlots.foldl (fun s r => s.refreshAfterReset c r) u) := by
    intro u
    generalize allSlots = l
    induction l generalizing u with
    | nil => exact .refl u
    | cons q l ih =>
      refine .trans ?_ (ih _)
      show u.KeepsTasks _ (u.refreshAfterReset c q)
      unfold State.refreshAfterReset
      split
      · refine State.KeepsTasks.mono (by exact (u.ensureRefresh_planned q).tasks) fun x hx => ?_
        have hplace : x.kind ≠ .refresh := fun h => by simp [h, TaskKind.place] at hx
        simp [Task.other, hplace]
      · exact .refl u
  have hexits : ∀ l : List Slot, r ∉ l → ∀ u : State, u.KeepsTasks (fun x => decide (x.rank = r ∧ x.kind.place = .power))
      (l.foldl (fun s r => s.exitAfterReset c r) u) := fun l hl u =>
    foldl_slots (P := fun s t => s.KeepsTasks (fun x => decide (x.rank = r ∧ x.kind.place = .power)) t) .refl .trans
      (fun s q hq => s.exitAfterReset_keeps c q fun x hx _ => decide_eq_false fun h => hq (hx.symm.trans h.1)) l hl u
  have hrefreshFrame := State.foldl_frame_queues (fun u r => u.refreshAfterReset_work c r) allSlots (s.setEngine c { s.engine c with resetMark := false })
  have hkept := hrefresh (s.setEngine c { s.engine c with resetMark := false })
  rw [State.restored]
  generalize allSlots.foldl (fun s r => s.refreshAfterReset c r) (s.setEngine c { s.engine c with resetMark := false }) = u at hrefreshFrame hkept
  obtain ⟨before, after, hbefore, hafter, hcut⟩ := foldl_allSlots_cut (fun s r => s.exitAfterReset c r) r u
  have hframe := State.foldl_frame_told (fun u r => u.exitAfterReset_work c r) before u
  have hkept' := hexits before hbefore u
  rw [hcut]
  generalize before.foldl (fun s r => s.exitAfterReset c r) u = v at hframe hkept'
  have hrank : v.rank r = s.rank r := by
    rw [hframe, hrefreshFrame]
    rfl
  have hmark : (v.engine c).resetMark = false := by
    rw [hframe, hrefreshFrame]
    exact congrArg Engine.resetMark (State.engine_setEngine_self s c _)
  have hnone' : v.taskAt r .power = none := by
    rw [← hnone]
    refine (hkept.trans hkept').taskAt_eq ?_ fun x hx hplace => decide_eq_true ⟨hx, hplace⟩
    rw [hrank]
    rfl
  obtain ⟨y, hy, hyrank, hykind, hycls, hyorigin⟩ := State.exitAfterReset_exit (r := r) hmark (by rw [hrank]; exact hch) (by rw [hrank]; exact hdeep)
    (by rw [hrank]; exact hband) hnone'
  exact ⟨y, ((hexits after hafter _).mem_iff (decide_eq_true ⟨hyrank, by rw [hykind]; rfl⟩)).mpr hy, hyrank, hykind, hycls, hyorigin⟩

theorem State.answersResets_continues {c : Chan} (s : State) : State.Continues c s (s.answersResets c) := .foldl _ s fun u _ => .complete u _ _ _

theorem State.endReset_exit {s : State} {c : Chan} {r : Slot} (hch : (s.rank r).channel = some c) (hdeep : (s.rank r).state = .deep)
    (hband : (s.rank r).band = 3) (hnone : s.taskAt r .power = none) :
    ∃ y ∈ ((s.endReset c).queue c).tasks, y.rank = r ∧ y.kind = .deepExit ∧ y.cls = .urgent ∧ y.origin = .thermal := by
  obtain ⟨y, hy, hrank, hkind, hcls, horigin⟩ := State.restored_exit hch hdeep hband hnone
  obtain ⟨z, hz, hzrank, hzkind, hzcls, hzorigin⟩ :=
    ((s.restored c).scanAll_continues.trans (State.answersResets_continues _)).exits y hy hkind hcls
  exact ⟨z, hz, hzrank.trans hrank, hzkind, hzcls, hzorigin.trans horigin⟩

/-- The grant scan reads of an engine its reset mark alone (R80, R81). -/
theorem State.scanGroup_setEngine (s : State) {c : Chan} {e : Engine} (he : e.resetMark = (s.engine c).resetMark) (g : GroupId) :
    (s.setEngine c e).scanGroup g = (s.scanGroup g).setEngine c e := by
  have hresetting : ∀ d, (s.setEngine c e).resetting d = s.resetting d := fun d => by
    rw [State.resetting, State.engine_setEngine]
    split
    · next hd => rw [hd]; exact he
    · rfl
  have helig : (s.setEngine c e).eligible = s.eligible := by
    funext x
    simp only [State.eligible, hresetting]
    rfl
  have hgrant : ∀ x : Entry, (s.setEngine c e).grant g x = (s.grant g x).setEngine c e := by
    intro x
    unfold State.grant
    rw [helig]
    cases hch : (s.rank x.rank).channel with
    | none => simp only [State.rank_of_setEngine, hch]; rfl
    | some d => simp only [State.rank_of_setEngine, hch]; rfl
  unfold State.scanGroup
  rw [helig, State.group_of_setEngine]
  split
  · split
    · rfl
    · exact hgrant _
  · rfl
  · rfl

theorem State.notice_setEngine (s : State) (c : Chan) (e : Engine) (b : Notice) : (s.setEngine c e).notice b = (s.notice b).setEngine c e := by
  unfold State.notice
  rw [show (s.setEngine c e).margin = s.margin from rfl]
  split <;> rfl

/-- A power task's completion before its thermal exit and its scan (R97, R99, R103, R104). -/
def State.powerEnded (s : State) (c : Chan) (r : Slot) (k : TaskKind) (st : RankState) (tag : Option Tag) : State :=
  ((s.setRank r { s.rank r with
    state := st, settle := if k = .deepExit then some (s.now + s.timing.deepSettle) else (s.rank r).settle }).setQueue c
      { s.queue c with tasks := (s.queue c).tasks.filter (fun y => !y.executing) }).completeTag tag .done (.rankState st)

theorem State.completeTag_rank (s : State) (tag : Option Tag) (st : Status) (d : Detail) (r : Slot) : (s.completeTag tag st d).rank r = s.rank r := by
  rw [State.completeTag_frame]; rfl

theorem State.completeTag_queue (s : State) (tag : Option Tag) (st : Status) (d : Detail) (c : Chan) : (s.completeTag tag st d).queue c = s.queue c := by
  rw [State.completeTag_frame]; rfl

theorem State.completeTag_engine (s : State) (tag : Option Tag) (st : Status) (d : Detail) (c : Chan) :
    (s.completeTag tag st d).engine c = s.engine c := by
  rw [State.completeTag_frame]; rfl

theorem State.powerEnded_taskAt {s : State} {c : Chan} {r : Slot} {k : TaskKind} {st : RankState} {tag : Option Tag}
    (hch : (s.rank r).channel = some c) (hone : ∀ y ∈ (s.queue c).tasks, y.rank = r → y.kind.place = .power → y.executing = true) :
    (s.powerEnded c r k st tag).taskAt r .power = none := by
  have hchannel : ((s.powerEnded c r k st tag).rank r).channel = some c := by
    rw [State.powerEnded, State.completeTag_rank, State.rank_of_setQueue, State.rank_setRank_self]
    exact hch
  rw [← Option.not_isSome_iff_eq_none, State.taskAt_isSome_iff hchannel]
  rintro ⟨y, hy, hrank, hplace⟩
  rw [State.powerEnded, State.completeTag_queue, State.queue_setQueue_self] at hy
  obtain ⟨hy, hrun⟩ := List.mem_filter.mp hy
  simp [hone y hy hrank hplace] at hrun

theorem State.completePower_eq {s : State} {c : Chan} {r : Slot} {k : TaskKind} {st : RankState} {g : GroupId} (tag : Option Tag)
    (hk : (k, st) ∈ [(TaskKind.napEnter, RankState.nap), (.napExit, .online), (.deepEnter, .deep), (.deepExit, .settling)])
    (hch : (s.rank r).channel = some c) (hg : (s.rank r).group = some g)
    (hone : ∀ y ∈ (s.queue c).tasks, y.rank = r → y.kind.place = .power → y.executing = true) :
    s.completePower c r k tag = (if k = .deepEnter ∧ (s.rank r).band = 3 ∧ (s.engine c).resetMark = false then (s.powerEnded c r k st tag).createExit c r .entry
      else s.powerEnded c r k st tag).scanGroup g := by
  have hgroup : ((s.powerEnded c r k st tag).rank r).group = some g := by
    rw [State.powerEnded, State.completeTag_rank, State.rank_of_setQueue, State.rank_setRank_self]
    exact hg
  have hscan := State.scanRank_eq hgroup
  have hnone := State.powerEnded_taskAt (k := k) (st := st) (tag := tag) hch hone
  simp only [List.mem_cons, Prod.mk.injEq, List.not_mem_nil, or_false] at hk
  obtain ⟨rfl, rfl⟩ | ⟨rfl, rfl⟩ | ⟨rfl, rfl⟩ | ⟨rfl, rfl⟩ := hk
  · rw [if_neg fun h => TaskKind.noConfusion h.1, ← hscan]
    rfl
  · rw [if_neg fun h => TaskKind.noConfusion h.1, ← hscan]
    rfl
  · have hchannel : ((s.powerEnded c r .deepEnter .deep tag).rank r).channel = some c := by
      rw [State.powerEnded, State.completeTag_rank, State.rank_of_setQueue, State.rank_setRank_self]
      exact hch
    have hengine : (s.powerEnded c r .deepEnter .deep tag).engine c = s.engine c := State.completeTag_engine _ _ _ _ _
    have hout : s.completePower c r .deepEnter tag =
        (if (s.rank r).band = 3 then (s.powerEnded c r .deepEnter .deep tag).bringOut r .entry else s.powerEnded c r .deepEnter .deep tag).scanRank r :=
      rfl
    rw [hout]
    by_cases hband : (s.rank r).band = 3
    · by_cases hmark : (s.engine c).resetMark = true
      · rw [if_pos hband, State.bringOut_of_mark hchannel (by rw [hengine]; exact hmark), if_neg (by simp [hmark]), hscan]
      · have hmark : (s.engine c).resetMark = false := by simpa using hmark
        have hexit : ((s.powerEnded c r .deepEnter .deep tag).createExit c r .entry).scanRank r =
            ((s.powerEnded c r .deepEnter .deep tag).createExit c r .entry).scanGroup g :=
          State.scanRank_eq (by rw [State.createExit_frame]; exact hgroup)
        rw [if_pos hband, State.bringOut_of_none hchannel (by rw [hengine]; exact hmark) hnone, if_pos ⟨rfl, hband, hmark⟩, hexit]
    · rw [if_neg hband, if_neg fun h => hband h.2.1, hscan]
  · rw [if_neg fun h => TaskKind.noConfusion h.1, ← hscan]
    rfl

/-- A power task's completion up to its scan (R97, R99, R103, R104, R107). -/
def State.powerDone (s : State) (c : Chan) (r : Slot) (k : TaskKind) (st : RankState) (tag : Option Tag) : State :=
  if k = .deepEnter ∧ (s.rank r).band = 3 ∧ (s.engine c).resetMark = false then (s.powerEnded c r k st tag).createExit c r .entry
  else s.powerEnded c r k st tag

theorem State.powerDone_setEngine (s : State) {c : Chan} {e : Engine} (he : e.resetMark = (s.engine c).resetMark) (r : Slot) (k : TaskKind)
    (st : RankState) (tag : Option Tag) : (s.setEngine c e).powerDone c r k st tag = (s.powerDone c r k st tag).setEngine c e := by
  have hended : (s.setEngine c e).powerEnded c r k st tag = (s.powerEnded c r k st tag).setEngine c e :=
    State.completeTag_setEngine ((s.setRank r { s.rank r with
      state := st, settle := if k = .deepExit then some (s.now + s.timing.deepSettle) else (s.rank r).settle }).setQueue c
        { s.queue c with tasks := (s.queue c).tasks.filter (fun y => !y.executing) }) c e tag _ _
  rw [State.powerDone, State.powerDone, hended, State.engine_setEngine_self, he, State.rank_of_setEngine]
  split
  · exact State.notice_setEngine ((s.powerEnded c r k st tag).insertTask c (exitOf r)) c e _
  · rfl

theorem State.powerDone_frame (s : State) (c : Chan) (r : Slot) (k : TaskKind) (st : RankState) (tag : Option Tag) :
    s.powerDone c r k st tag = { s.setRank r { s.rank r with
        state := st, settle := if k = .deepExit then some (s.now + s.timing.deepSettle) else (s.rank r).settle } with
      queues := (s.powerDone c r k st tag).queues, records := (s.powerDone c r k st tag).records, lost := (s.powerDone c r k st tag).lost
      outstanding := (s.powerDone c r k st tag).outstanding } := by
  have hended : s.powerEnded c r k st tag = { s.setRank r { s.rank r with
        state := st, settle := if k = .deepExit then some (s.now + s.timing.deepSettle) else (s.rank r).settle } with
      queues := (s.powerEnded c r k st tag).queues, records := (s.powerEnded c r k st tag).records
      outstanding := (s.powerEnded c r k st tag).outstanding } := by
    rw [State.powerEnded, State.completeTag_frame]
    rfl
  unfold State.powerDone
  split
  · rw [State.createExit_frame, hended]
  · rw [hended]

/-- The completion of a power task up to part 3 (R161). -/
theorem flightEnded_of_power {s : State} {c : Chan} {f : Flight} {line : CalResult} {k : TaskKind} {st : RankState} {g : GroupId}
    (hkind : f.kind = .task k)
    (hk : (k, st) ∈ [(TaskKind.napEnter, RankState.nap), (.napExit, .online), (.deepEnter, .deep), (.deepExit, .settling)])
    (hch : (s.rank f.rank).channel = some c) (hg : (s.rank f.rank).group = some g)
    (hone : ∀ y ∈ (s.queue c).tasks, y.rank = f.rank → y.kind.place = .power → y.executing = true) :
    s.flightEnded c f line = ((s.powerDone c f.rank k st (s.executingTag c)).scanGroup g).setEngine c (s.engine c).ended := by
  refine State.flightEnded_of fun e hmark _ => ?_
  have hplace : k.place = .power := by
    simp only [List.mem_cons, Prod.mk.injEq, List.not_mem_nil, or_false] at hk
    obtain ⟨rfl, -⟩ | ⟨rfl, -⟩ | ⟨rfl, -⟩ | ⟨rfl, -⟩ := hk <;> rfl
  have hpower := State.completePower_eq (s := s.setEngine c e) (r := f.rank) ((s.setEngine c e).executingTag c) hk hch hg hone
  have hdone := s.powerDone_setEngine hmark f.rank k st (s.executingTag c)
  have hengine : (s.powerDone c f.rank k st (s.executingTag c)).engine c = s.engine c := by
    rw [State.powerDone_frame]
    rfl
  rw [State.completeFlight_power _ c hkind hplace, hpower]
  refine (congrArg (fun t : State => t.scanGroup g) hdone).trans ?_
  exact State.scanGroup_setEngine _ (hmark.trans (congrArg Engine.resetMark hengine.symm)) g

/-- The queue a power task leaves: the tasks that were not executing, and its thermal exit. -/
theorem State.mem_powerDone {s : State} {c : Chan} {r : Slot} {k : TaskKind} {st : RankState} {tag : Option Tag} {y : Task}
    (h : y ∈ ((s.powerDone c r k st tag).queue c).tasks) : y.executing = false ∧
      (y ∈ (s.queue c).tasks ∨ (y.rank = r ∧ y.kind = .deepExit ∧ k = .deepEnter)) := by
  have hended : ((s.powerEnded c r k st tag).queue c).tasks = (s.queue c).tasks.filter (fun y => !y.executing) := by
    rw [State.powerEnded, State.completeTag_queue, State.queue_setQueue_self]
  unfold State.powerDone at h
  split at h
  · next hexits =>
    rw [State.createExit_eq, State.queue_of_notice, State.queue_setQueue_self] at h
    obtain h | h := List.mem_append.mp h
    · rw [hended] at h
      obtain ⟨hy, hrun⟩ := List.mem_filter.mp h
      exact ⟨by simpa using hrun, .inl hy⟩
    · rw [List.mem_singleton.mp h]
      exact ⟨rfl, .inr ⟨rfl, rfl, hexits.1⟩⟩
  · rw [hended] at h
    obtain ⟨hy, hrun⟩ := List.mem_filter.mp h
    exact ⟨by simpa using hrun, .inl hy⟩

theorem State.powerDone_outstanding (s : State) (c : Chan) (r : Slot) (k : TaskKind) (st : RankState) (tag : Option Tag) :
    (s.powerDone c r k st tag).outstanding = (s.powerEnded c r k st tag).outstanding := by
  unfold State.powerDone
  split
  · rw [State.createExit_frame]
  · rfl

theorem State.powerDone_entries {s : State} {c : Chan} {r : Slot} {k : TaskKind} {st : RankState} {tag : Option Tag}
    (h : (s.outstanding.map OutEntry.tag).Nodup) : ((s.powerDone c r k st tag).outstanding.map OutEntry.tag).Nodup ∧
      ∀ e ∈ s.outstanding, tag ≠ some e.tag → e ∈ (s.powerDone c r k st tag).outstanding := by
  rw [State.powerDone_outstanding]
  exact ⟨State.completeTag_outstanding_nodup (s := (s.setRank r _).setQueue c _) h _ _ _,
    fun e he htag => State.mem_outstanding_completeTag (s := (s.setRank r _).setQueue c _) he htag _ _⟩

/-- After a DEEP_ENTER in band 3 the rank's exit is queued (R107). -/
theorem State.powerDone_exit {s : State} {c : Chan} {r : Slot} {k : TaskKind} (hk : k = .deepEnter) (hband : (s.rank r).band = 3)
    (hmark : (s.engine c).resetMark = false) (st : RankState) (tag : Option Tag) :
    ∃ y ∈ ((s.powerDone c r k st tag).queue c).tasks, y.rank = r ∧ y.kind = .deepExit ∧ y.cls = .urgent ∧ y.origin = .thermal := by
  rw [State.powerDone, if_pos ⟨hk, hband, hmark⟩, State.createExit_eq, State.queue_of_notice, State.queue_setQueue_self]
  exact ⟨_, List.mem_append_right _ (List.mem_singleton.mpr rfl), rfl, rfl, rfl, rfl⟩

/-- In a channel that is resetting the rank has no power task left (R107). -/
theorem State.powerDone_taskAt {s : State} {c : Chan} {r : Slot} {k : TaskKind} {st : RankState} {tag : Option Tag}
    (hch : (s.rank r).channel = some c) (hone : ∀ y ∈ (s.queue c).tasks, y.rank = r → y.kind.place = .power → y.executing = true)
    (hmark : (s.engine c).resetMark = true) : (s.powerDone c r k st tag).taskAt r .power = none := by
  rw [State.powerDone, if_neg (by simp [hmark])]
  exact State.powerEnded_taskAt hch hone

theorem State.settle_continues {c : Chan} (s : State) : State.Continues c s s.settle := by
  rw [State.settle_frame]
  exact .of_same rfl rfl rfl List.prefix_rfl id

/-- What a power task leaves when its completion is taken and what follows it (R97, R99, R103, R104, R107). -/
theorem powerDone_followed {s own w t : State} {c : Chan} {x : Task} {k : TaskKind} {st : RankState} {tag : Option Tag} {e : Engine} {g : GroupId}
    (hown : s.powerDone c x.rank k st tag = own) (hw : (own.scanGroup g).setEngine c e = w)
    (hk : (k, st) ∈ [(TaskKind.napEnter, RankState.nap), (.napExit, .online), (.deepEnter, .deep), (.deepExit, .settling)])
    (hkind : x.kind = k) (hrun : x.executing = true) (hone : ∀ y ∈ (s.queue c).tasks, y.rank = x.rank → y.kind.place = .power → y = x)
    (hmark : e.resetMark = (s.engine c).resetMark) (ht : State.Continues c w t) :
    (t.rank x.rank).state = st ∧ (∀ r : Slot, r ≠ x.rank → (t.rank r).state = (s.rank r).state) ∧
      (t.rank x.rank).settle = (if k = .deepExit then some (s.now + s.timing.deepSettle) else (s.rank x.rank).settle) ∧
      own.records <+: t.records ∧ x ∉ (t.queue c).tasks ∧
      (∀ y ∈ (t.queue c).tasks, y.executing = true → (t.engine c).flight.isSome = true) := by
  have hrank : ∀ r, own.rank r = if r = x.rank then { s.rank x.rank with
      state := st, settle := if k = .deepExit then some (s.now + s.timing.deepSettle) else (s.rank x.rank).settle } else s.rank r := fun r => by
    rw [← hown, State.powerDone_frame]
    exact State.rank_setRank ..
  have hmem : ∀ y ∈ (own.queue c).tasks, y.executing = false ∧
      (y ∈ (s.queue c).tasks ∨ (y.rank = x.rank ∧ y.kind = .deepExit ∧ k = .deepEnter)) := fun y hy => State.mem_powerDone (hown ▸ hy)
  have hengine : own.engine c = s.engine c := by
    rw [← hown, State.powerDone_frame]
    rfl
  have hstart : State.Continues c (own.setEngine c e) t := by
    refine State.Continues.trans ?_ ht
    rw [← hw, ← State.scanGroup_setEngine own (hmark.trans (congrArg Engine.resetMark hengine.symm)) g]
    exact State.scanGroup_continues _ g
  have hstate : ∀ r, (t.rank r).state = (own.rank r).state := fun r => by rw [hstart.rank]; rfl
  have hplace : k.place = .power ∧ k ≠ .refresh := by
    simp only [List.mem_cons, Prod.mk.injEq, List.not_mem_nil, or_false] at hk
    obtain ⟨rfl, -⟩ | ⟨rfl, -⟩ | ⟨rfl, -⟩ | ⟨rfl, -⟩ := hk <;> exact ⟨rfl, TaskKind.noConfusion⟩
  refine ⟨?_, fun r hr => ?_, ?_, hstart.records, fun hx => ?_, hstart.runs fun y hy hyrun => ?_⟩
  · rw [hstate, hrank, if_pos rfl]
  · rw [hstate, hrank, if_neg hr]
  · rw [hstart.rank]
    show (own.rank x.rank).settle = _
    rw [hrank, if_pos rfl]
  · obtain ⟨z, hz, hzrank, hzkind⟩ | hnew := hstart.tasks x hx
    · obtain ⟨hzrun, hz | ⟨-, hexit, henter⟩⟩ := hmem z hz
      · rw [hone z hz hzrank (by rw [hzkind, hkind]; exact hplace.1), hrun] at hzrun
        exact Bool.false_ne_true hzrun.symm
      · rw [hzkind, hkind, henter] at hexit
        exact TaskKind.noConfusion hexit
    · rw [State.NewTask, hkind] at hnew
      obtain hrefresh | ⟨hexit, hdeep⟩ | ⟨hcal | hcal, -⟩ := hnew
      · exact hplace.2 hrefresh
      · have hdeep : (own.rank x.rank).state = .deep := hdeep
        rw [hrank, if_pos rfl] at hdeep
        rw [hexit, show st = .deep from hdeep] at hk
        simp at hk
      · exact absurd hplace.1 (by rw [hcal]; exact TaskSlot.noConfusion)
      · exact absurd hplace.1 (by rw [hcal]; exact TaskSlot.noConfusion)
  · rw [(hmem y hy).1] at hyrun
    exact absurd hyrun Bool.false_ne_true

/-- Settles O38: parts 1 to 3 give the state the statement writes out; what follows keeps of it what the statement says. -/
theorem completionOfPowerTask : Obligations.CompletionOfPowerTask := by
  intro s c lines f due x k st g hreset hdue hflight hkind hexec hxrank hxkind hone hch hg hk u settle q out exits own still waits others
  have hx : x ∈ (s.queue c).tasks ∧ x.executing = true := by
    have h : x ∈ (s.queue c).tasks.filter (fun y => y.executing) := by rw [hexec]; exact List.mem_singleton.mpr rfl
    exact List.mem_filter.mp h
  have hplace : k.place = .power := by
    simp only [List.mem_cons, Prod.mk.injEq, List.not_mem_nil, or_false] at hk
    obtain ⟨rfl, -⟩ | ⟨rfl, -⟩ | ⟨rfl, -⟩ | ⟨rfl, -⟩ := hk <;> rfl
  have htag : (s.reach due).executingTag c = x.tag := by
    show ((s.queue c).tasks.find? (fun y => y.executing)).bind Task.tag = x.tag
    rw [← List.head?_filter, hexec]
    rfl
  have hout : (s.reach due).powerEnded c f.rank k st x.tag = out := rfl
  have hown : (s.reach due).powerDone c f.rank k st x.tag = own := by
    have hqueue : out.queue c = q := by
      rw [← hout, State.powerEnded, State.completeTag_queue, State.queue_setQueue_self]
      rfl
    unfold State.powerDone
    rw [hout, State.createExit_eq, hqueue]
    rfl
  have hw : (s.reach due).flightEnded c f lines.result = still := by
    have h := flightEnded_of_power (s := s.reach due) (line := lines.result) hkind hk hch hg fun y hy hyrank hyplace =>
      (hone y hy hyrank hyplace) ▸ hx.2
    rw [htag, hown] at h
    exact h
  have hownFrame := (s.reach due).powerDone_frame c f.rank k st x.tag
  rw [hown] at hownFrame
  have hentries := fun h => State.powerDone_entries (s := s.reach due) (c := c) (r := f.rank) (k := k) (st := st) (tag := x.tag) h
  have hexit := fun h hband hmark => State.powerDone_exit (s := s.reach due) (c := c) (r := f.rank) (k := k) h hband hmark st x.tag
  have htaskAt := State.powerDone_taskAt (s := s.reach due) (k := k) (st := st) (tag := x.tag) hch fun y hy hyrank hyplace =>
    (hone y hy hyrank hyplace) ▸ hx.2
  rw [hown] at hentries hexit htaskAt
  have hscanFrame := own.scanGroup_frame g
  have hstill : (own.scanGroup g).setEngine c (s.engine c).ended = still := rfl
  have hgrants := own.scanGroup_grantsOnly g
  have hmarkEnded : (s.engine c).ended.resetMark = (s.engine c).resetMark := rfl
  clear hout
  subst hxkind
  clear_value still
  clear_value own
  clear_value out
  obtain ⟨hranks, hpending, hread, hmonitor, hnow, htiming, htime, hwqueue, hwout, hwrecords⟩ : still.ranks = own.ranks ∧ still.pending = s.pending ∧
      still.readData = s.readData ∧ still.monitor = s.monitor ∧ still.now = max s.now due ∧ still.timing = s.timing ∧
      still.timestamp = s.timestamp ∧ still.queues = (own.scanGroup g).queues ∧ still.outstanding = own.outstanding ∧ still.records = own.records := by
    rw [← hstill, hscanFrame, hownFrame]
    exact ⟨rfl, rfl, rfl, rfl, rfl, rfl, rfl, rfl, rfl, rfl⟩
  have hrank : ∀ r, still.rank r = if r = f.rank then { s.rank f.rank with
      state := st, settle := if x.kind = .deepExit then some (max s.now due + s.timing.deepSettle) else (s.rank f.rank).settle } else s.rank r := by
    intro r
    rw [State.rank, hranks, hownFrame]
    exact State.rank_setRank (s.reach due) f.rank r _
  have hfollowed := fun t => powerDone_followed (s := s.reach due) (own := own) (w := still) (t := t) (c := c) (x := x) (k := x.kind) (st := st)
    (tag := x.tag) (e := (s.engine c).ended) (g := g) (by rw [hxrank]; exact hown) hstill hk rfl hx.2 (by rw [hxrank]; exact hone) hmarkEnded
  rw [hxrank] at hfollowed
  refine ⟨fun hstays => ?_, fun hdrain hmark => exec_taskCompletion_windows hreset hdue hflight hw hnow htiming hdrain hmark,
    fun hdrain hmark hwaits => ?_,
    fun hdrain hothers hmark hwaits => exec_taskCompletion_of_drain hreset hdue hflight hw hdrain hothers hmark hwaits,
    fun hdrain hothers hwaits => exec_taskCompletion_drained hreset hdue hflight hw ⟨hpending, hread, hmonitor, hnow⟩ hdrain (fun d hd => ?_) hwaits⟩
  · have hfollows : State.Continues c (still.afterReset c) ((still.afterReset c).afterCompletion c).settle :=
      (State.afterCompletion_continues _ c).trans (State.settle_continues _)
    obtain ⟨hstate, hothers, hsettle, hrecords, hgone, hruns⟩ := hfollowed _ ((still.afterReset_continues c).trans hfollows)
    refine ⟨_, exec_taskCompletion_of_stays hreset hdue hflight hw hstays, hstate, hothers, hsettle, hrecords, hgone, hruns, fun henter hband => ?_⟩
    obtain ⟨-, hengine, -⟩ := flightEnded_stays hw
    have hkeep : ∀ v t : State, State.Continues c v t →
        (∃ y ∈ (v.queue c).tasks, y.rank = f.rank ∧ y.kind = .deepExit ∧ y.cls = .urgent ∧ y.origin = .thermal) →
        ∃ y ∈ (t.queue c).tasks, y.rank = f.rank ∧ y.kind = .deepExit ∧ y.cls = .urgent ∧ y.origin = .thermal := by
      rintro v t hvt ⟨y, hy, hyrank, hykind, hycls, hyorigin⟩
      obtain ⟨z, hz, hzrank, hzkind, hzcls, hzorigin⟩ := hvt.exits y hy hykind hycls
      exact ⟨z, hz, hzrank.trans hyrank, hzkind, hzcls, hzorigin.trans hyorigin⟩
    cases hmark : (s.engine c).resetMark with
    | false =>
      refine hkeep still _ ((still.afterReset_continues c).trans hfollows) ?_
      obtain ⟨y, hy, hyrank⟩ := hexit henter hband hmark
      refine ⟨y, ?_, hyrank⟩
      rw [State.queue, hwqueue]
      exact (hgrants c).subset hy
    | true =>
      have hends : still.afterReset c = still.endReset c := if_pos (by rw [hengine]; exact hmark)
      have hdeep : st = .deep := by
        rw [henter] at hk
        simpa using hk
      rw [hends] at hfollows
      rw [hends]
      refine hkeep _ _ hfollows (State.endReset_exit ?_ ?_ ?_ ?_)
      · rw [hrank, if_pos rfl]
        exact hch
      · rw [hrank, if_pos rfl]
        exact hdeep
      · rw [hrank, if_pos rfl]
        exact hband
      · rw [← htaskAt hmark]
        refine State.KeepsTasks.taskAt_eq (p := fun y => decide (y.kind.place = .power)) (fun d => ?_) ?_ fun y _ hplace => decide_eq_true hplace
        · rw [State.queue, hwqueue]
          exact hgrants.keeps (fun y hy => by rw [TaskKind.place_eq_calibration.mpr hy]; rfl) d
        · rw [State.rank, hranks]
          rfl
  · have hends := still.resetEnds c
    have hrecords := hends.records
    rw [hwrecords] at hrecords
    refine ⟨_, exec_taskCompletion_of_mark hreset hdue hflight hw hdrain hmark hwaits, hends.engine, hends.ranks.trans hranks,
      hends.monitor.trans hmonitor, hrecords, fun r hr hserved hdebt => ?_, fun hnodup e he hekind hechannel htagNe => ?_⟩
    · have hsame : still.rank r = own.rank r := by rw [State.rank, hranks]; rfl
      rw [← hsame] at hserved
      refine hends.debts r ?_ hserved ?_
      · rw [hrank]
        split
        · next h => rw [← h]; exact hr
        · exact hr
      · rw [hrank]
        split
        · next h => rw [← h]; exact hdebt
        · exact hdebt
    · obtain ⟨hnodup', hmem⟩ := hentries hnodup
      rw [← hwout] at hnodup' hmem
      have h := hends.told hnodup' e (hmem e he htagNe) hekind hechannel
      rw [htime] at h
      exact h
  · exact Option.not_isSome_iff_eq_none.mp fun h => hothers ⟨d, hd, h⟩

/-! ### Calibrations -/

theorem State.completeTag_setRank (s : State) (r : Slot) (k : Rank) (tag : Option Tag) (st : Status) (d : Detail) :
    (s.setRank r k).completeTag tag st d = (s.completeTag tag st d).setRank r k := by
  cases tag with
  | none => rfl
  | some tag =>
    show (s.setRank r k).complete tag st d = (s.complete tag st d).setRank r k
    unfold State.complete
    rw [show (s.setRank r k).outEntry tag = s.outEntry tag from rfl]
    split <;> rfl

/-- The records of a calibration's end (R87, R88, R93). -/
def State.calTold (s : State) (g : GroupId) (r : Slot) (kind : CalKind) (result : CalResult) : State :=
  if (s.group g).discard = true then s
  else if result = .ok then s.completeTag ((s.group g).heldEntry.bind Entry.tag) .done (.calibration kind .ok)
  else if (s.rank r).state = .faulted then
    (s.notice (.calFailed r g (min 2 ((s.rank r).failures + 1)))).completeTag ((s.group g).heldEntry.bind Entry.tag) .calFailed
      (.calibration kind .fail)
  else if min 2 ((s.rank r).failures + 1) = 1 then s.notice (.calFailed r g (min 2 ((s.rank r).failures + 1)))
  else ((s.notice (.calFailed r g (min 2 ((s.rank r).failures + 1)))).notice (.rankFaulted r g kind)).completeTag
    ((s.group g).heldEntry.bind Entry.tag) .calFailed (.calibration kind .fail)

/-- The rank after a calibration's end (R16, R18, R87, R88, R93). -/
def State.calRank (s : State) (g : GroupId) (r : Slot) (result : CalResult) : Rank :=
  if (s.group g).discard = true then { s.rank r with calStatus := .stale, periodic := none }
  else if result = .ok then { s.rank r with
    calStatus := .valid, failures := 0, calTemp := if (s.rank r).sensorStatus = .good then (s.rank r).lastTemp else none
    state := if (s.rank r).state = .faulted then .online else (s.rank r).state
    periodic := if s.timing.calPeriod = 0 then none else some (s.now + s.timing.calPeriod) }
  else if (s.rank r).state = .faulted then { s.rank r with failures := min 2 ((s.rank r).failures + 1) }
  else if min 2 ((s.rank r).failures + 1) = 1 then { s.rank r with failures := 1 }
  else { s.rank r with failures := 2, state := .faulted, calStatus := .stale, periodic := none }

/-- The calibration asked for again where its result was dropped (R93). -/
def State.calAgain (s : State) (g : GroupId) (r : Slot) (kind : CalKind) : Entry :=
  { rank := r, kind := ((s.group g).heldEntry.map Entry.kind).getD kind, tag := (s.group g).heldEntry.bind Entry.tag, revocations := 0
    origin := if (s.rank r).state = .faulted then .host else .reset }

/-- The entry of a first failure (R88). -/
def State.calRetry (s : State) (g : GroupId) (r : Slot) : Entry :=
  { rank := r, kind := .long, origin := .retry, tag := (s.group g).heldEntry.bind Entry.tag, revocations := 0 }

/-- The list of the group after a calibration's end (R88, R93). -/
def State.calWaits (s : State) (g : GroupId) (r : Slot) (kind : CalKind) (result : CalResult) : List Entry :=
  if (s.group g).discard = true then (s.group g).waiting ++ [s.calAgain g r kind]
  else if result = .ok then (s.group g).waiting
  else if (s.rank r).state = .faulted then (s.group g).waiting
  else if min 2 ((s.rank r).failures + 1) = 1 then s.calRetry g r :: (s.group g).waiting
  else (s.group g).waiting

/-- A calibration's end in its group before the scan (R87, R88, R93). -/
def State.calDone (s : State) (g : GroupId) (r : Slot) (kind : CalKind) (result : CalResult) : State :=
  (((s.calTold g r kind result).setRank r (s.calRank g r result)).removeCalTask r).setGroup g
    { state := .free, holder := none, heldEntry := none, waiting := s.calWaits g r kind result, tokenTimer := none, discard := false }

theorem State.freeGroup_removeCalTask (s : State) (r : Slot) (g : GroupId) : (s.removeCalTask r).freeGroup g = (s.removeCalTask r).setGroup g
    { state := .free, holder := none, heldEntry := none, waiting := (s.group g).waiting, tokenTimer := none, discard := false } := by
  have hgroup : (s.removeCalTask r).group g = s.group g := by
    unfold State.removeCalTask
    split <;> rfl
  rw [State.freeGroup, hgroup]

theorem State.freeGroup_removeCalTask_setGroup (s : State) (r : Slot) (g : GroupId) (x : CalGroup) :
    ((s.setGroup g x).removeCalTask r).freeGroup g = (s.removeCalTask r).setGroup g
      { state := .free, holder := none, heldEntry := none, waiting := x.waiting, tokenTimer := none, discard := false } := by
  have hcommutes : (s.setGroup g x).removeCalTask r = (s.removeCalTask r).setGroup g x := by
    unfold State.removeCalTask
    rw [State.rank_of_setGroup]
    split <;> rfl
  rw [State.freeGroup_removeCalTask, hcommutes, State.group_setGroup_self, State.setGroup_setGroup]

theorem CalGroup.heldTag_eq (x : CalGroup) : x.heldTag = x.heldEntry.bind Entry.tag := by
  unfold CalGroup.heldTag
  cases x.heldEntry <;> rfl

theorem CalGroup.heldKind_eq (x : CalGroup) (kind : CalKind) : x.heldKind kind = (x.heldEntry.map Entry.kind).getD kind := by
  unfold CalGroup.heldKind
  cases x.heldEntry <;> rfl

theorem State.finishCalibration_eq (s : State) (g : GroupId) (r : Slot) (kind : CalKind) (result : CalResult) :
    s.finishCalibration g r kind result = (s.calDone g r kind result).scanGroup g := by
  have htag := (s.group g).heldTag_eq
  have hkept : ∀ (t : State) (k : Rank), t.groups = s.groups → ((t.setRank r k).removeCalTask r).freeGroup g =
      ((t.setRank r k).removeCalTask r).setGroup g
        { state := .free, holder := none, heldEntry := none, waiting := (s.group g).waiting, tokenTimer := none, discard := false } := by
    intro t k ht
    rw [State.freeGroup_removeCalTask, State.group_of_setRank, State.group, ht]
    rfl
  have hnoticed : ∀ (t : State) (b : Notice), (t.notice b).groups = t.groups := fun t b => by rw [State.notice_frame]
  have hcompleted : ∀ (t : State) (tag : Option Tag) (st : Status) (d : Detail), (t.completeTag tag st d).groups = t.groups := fun t tag st d => by
    rw [State.completeTag_frame]
  refine congrArg (fun t : State => t.scanGroup g) ?_
  unfold State.calDone State.calTold State.calRank State.calWaits
  cases hdiscard : (s.group g).discard with
  | true =>
    simp only [if_true]
    rw [State.applyDiscard, State.joinTail, State.freeGroup_removeCalTask_setGroup, htag, CalGroup.heldKind_eq]
    rfl
  | false =>
    simp only [Bool.false_eq_true, if_false]
    cases result with
    | ok =>
      simp only [if_true]
      rw [State.applyOk, State.completeTag_setRank, htag]
      exact hkept _ _ (hcompleted _ _ _ _)
    | fail =>
      simp only [reduceCtorEq, if_false]
      unfold State.applyFail Config.calFailureLimit
      simp only
      rw [htag, State.setRank_notice]
      by_cases hfaulted : (s.rank r).state = .faulted
      · rw [if_pos hfaulted, if_pos hfaulted, if_pos hfaulted, if_pos hfaulted, State.completeTag_setRank]
        exact hkept _ _ ((hcompleted _ _ _ _).trans (hnoticed _ _))
      · rw [if_neg hfaulted, if_neg hfaulted, if_neg hfaulted, if_neg hfaulted]
        by_cases hfirst : min 2 ((s.rank r).failures + 1) = 1
        · have hless : min 2 ((s.rank r).failures + 1) < 2 := by omega
          rw [if_pos hless, if_pos hfirst, if_pos hfirst, if_pos hfirst, hfirst, State.joinHead, State.freeGroup_removeCalTask_setGroup,
            State.group_of_setRank]
          have hgroup : (s.notice (.calFailed r g 1)).group g = s.group g := by rw [State.group, hnoticed]; rfl
          rw [hgroup]
          rfl
        · have hlast : min 2 ((s.rank r).failures + 1) = 2 := by omega
          rw [if_neg (by omega), if_neg hfirst, if_neg hfirst, if_neg hfirst, hlast, State.rank_setRank_self, State.setRank_setRank,
            State.setRank_notice, State.completeTag_setRank]
          exact hkept _ _ ((hcompleted _ _ _ _).trans ((hnoticed _ _).trans (hnoticed _ _)))

theorem State.calTold_setEngine (s : State) (c : Chan) (e : Engine) (g : GroupId) (r : Slot) (kind : CalKind) (result : CalResult) :
    (s.setEngine c e).calTold g r kind result = (s.calTold g r kind result).setEngine c e := by
  unfold State.calTold
  simp only [State.rank_of_setEngine, State.group_of_setEngine, State.notice_setEngine, State.completeTag_setEngine]
  split <;> [rfl; split <;> [rfl; split <;> [rfl; split <;> rfl]]]

theorem State.calDone_setEngine (s : State) (c : Chan) (e : Engine) (g : GroupId) (r : Slot) (kind : CalKind) (result : CalResult) :
    (s.setEngine c e).calDone g r kind result = (s.calDone g r kind result).setEngine c e := by
  have hremoved : ∀ t : State, (t.setEngine c e).removeCalTask r = (t.removeCalTask r).setEngine c e := by
    intro t
    unfold State.removeCalTask
    rw [State.rank_of_setEngine]
    split <;> rfl
  unfold State.calDone
  rw [State.calTold_setEngine]
  exact congrArg (fun t : State => t.setGroup g _) (hremoved ((s.calTold g r kind result).setRank r (s.calRank g r result)))

theorem State.calTold_frame (s : State) (g : GroupId) (r : Slot) (kind : CalKind) (result : CalResult) : s.calTold g r kind result = { s with
    records := (s.calTold g r kind result).records, lost := (s.calTold g r kind result).lost
    outstanding := (s.calTold g r kind result).outstanding } := by
  unfold State.calTold
  split
  · rfl
  · split
    · rw [State.completeTag_frame]
    · split
      · rw [State.completeTag_frame, State.notice_frame]
      · split
        · rw [State.notice_frame]
        · rw [State.completeTag_frame, State.notice_frame, State.notice_frame]

theorem State.calTold_entries {s : State} {g : GroupId} {r : Slot} {kind : CalKind} {result : CalResult}
    (h : (s.outstanding.map OutEntry.tag).Nodup) : ((s.calTold g r kind result).outstanding.map OutEntry.tag).Nodup ∧
      ∀ e ∈ s.outstanding, (s.group g).heldEntry.bind Entry.tag ≠ some e.tag → e ∈ (s.calTold g r kind result).outstanding := by
  have hnotice : ∀ (t : State) (b : Notice), (t.notice b).outstanding = t.outstanding := fun t b => by rw [State.notice_frame]
  have hcomplete : ∀ (t : State) (st : Status) (d : Detail), t.outstanding = s.outstanding →
      ((t.completeTag ((s.group g).heldEntry.bind Entry.tag) st d).outstanding.map OutEntry.tag).Nodup ∧ ∀ e ∈ s.outstanding,
        (s.group g).heldEntry.bind Entry.tag ≠ some e.tag → e ∈ (t.completeTag ((s.group g).heldEntry.bind Entry.tag) st d).outstanding :=
    fun t st d ht => ⟨State.completeTag_outstanding_nodup (by rw [ht]; exact h) _ _ _,
      fun e he htag => State.mem_outstanding_completeTag (by rw [ht]; exact he) htag _ _⟩
  unfold State.calTold
  split
  · exact ⟨h, fun e he _ => he⟩
  · split
    · exact hcomplete s _ _ rfl
    · split
      · exact hcomplete _ _ _ (hnotice _ _)
      · split
        · rw [hnotice]
          exact ⟨h, fun e he _ => he⟩
        · exact hcomplete _ _ _ ((hnotice _ _).trans (hnotice _ _))

/-- A calibration's end writes the record's calibration fields, its state and its periodic timer. -/
theorem State.calRank_eq (s : State) (g : GroupId) (r : Slot) (result : CalResult) : s.calRank g r result = { s.rank r with
    state := (s.calRank g r result).state, calStatus := (s.calRank g r result).calStatus, failures := (s.calRank g r result).failures
    calTemp := (s.calRank g r result).calTemp, periodic := (s.calRank g r result).periodic } := by
  unfold State.calRank
  split <;> [rfl; split <;> [rfl; split <;> [rfl; split <;> rfl]]]

theorem State.calDone_frame (s : State) (g : GroupId) (r : Slot) (kind : CalKind) (result : CalResult) : s.calDone g r kind result =
    { s.setRank r (s.calRank g r result) with
      records := (s.calTold g r kind result).records, lost := (s.calTold g r kind result).lost
      outstanding := (s.calTold g r kind result).outstanding, queues := (s.calDone g r kind result).queues
      groups := (s.calDone g r kind result).groups } := by
  have hremoved : ∀ t : State, t.removeCalTask r = { t with queues := (t.removeCalTask r).queues } := by
    intro t
    unfold State.removeCalTask
    split <;> rfl
  have hdone := hremoved ((s.calTold g r kind result).setRank r (s.calRank g r result))
  unfold State.calDone
  generalize ((s.calTold g r kind result).setRank r (s.calRank g r result)).removeCalTask r = t at hdone
  have htold := s.calTold_frame g r kind result
  generalize s.calTold g r kind result = v at *
  rw [hdone, htold]
  rfl

theorem State.calDone_group (s : State) (g h : GroupId) (r : Slot) (kind : CalKind) (result : CalResult) : (s.calDone g r kind result).group h =
    if h = g then
      { state := .free, holder := none, heldEntry := none, waiting := s.calWaits g r kind result, tokenTimer := none, discard := false }
    else s.group h := by
  unfold State.calDone
  rw [State.group_setGroup]
  split
  · rfl
  · have hremoved : ∀ t : State, (t.removeCalTask r).group h = t.group h := by
      intro t
      unfold State.removeCalTask
      split <;> rfl
    rw [hremoved, State.group_of_setRank, State.calTold_frame]
    rfl

/-- The rank's calibration tasks leave its channel's queue, and nothing else leaves (R87). -/
theorem State.calDone_queue (s : State) (g : GroupId) (r : Slot) (kind : CalKind) (result : CalResult) (c : Chan) :
    (s.calDone g r kind result).queue c = if (s.rank r).channel = some c then { s.queue c with
      tasks := (s.queue c).tasks.filter (fun y => !(y.rank == r && y.kind.place == .calibration)) } else s.queue c := by
  have hremoved : ∀ t : State, (t.removeCalTask r).queue c = if (t.rank r).channel = some c then { t.queue c with
      tasks := (t.queue c).tasks.filter (fun y => !(y.rank == r && y.kind.place == .calibration)) } else t.queue c := by
    intro t
    unfold State.removeCalTask
    cases hd : (t.rank r).channel with
    | none => rfl
    | some d =>
      simp only [State.removeTasks, Option.some.injEq]
      rw [State.queue_setQueue]
      by_cases h : c = d
      · subst h
        rw [if_pos rfl]
      · rw [if_neg h, if_neg fun h' => h h'.symm]
  have hchannel : (s.calRank g r result).channel = (s.rank r).channel := by rw [State.calRank_eq]
  have hqueue : ((s.calTold g r kind result).setRank r (s.calRank g r result)).queue c = s.queue c := by
    rw [State.queue_of_setRank, State.calTold_frame]
    rfl
  rw [State.calDone, State.queue_of_setGroup, hremoved, hqueue, State.rank_setRank_self, hchannel]

/-- The completion of a calibration up to part 3 (R161). -/
theorem flightEnded_of_cal {s : State} {c : Chan} {f : Flight} {line : CalResult} {kind : CalKind} {g : GroupId}
    (hkind : f.kind = .task (calTaskKind kind)) (hsample : (s.engine c).sample = none) (hg : (s.rank f.rank).group = some g) :
    s.flightEnded c f line =
      ((s.calDone g f.rank kind ((s.engine c).sampled.getD line)).scanGroup g).setEngine c (s.engine c).ended := by
  refine State.flightEnded_of fun e hmark hresult => ?_
  rw [hresult hsample]
  generalize (s.engine c).sampled.getD line = result
  have hcal : (s.setEngine c e).completeFlight c f result = (s.setEngine c e).finishCalibration g f.rank kind result := by
    have hg' : ((s.setEngine c e).rank f.rank).group = some g := hg
    unfold State.completeFlight State.completeCal
    cases kind <;> simp only [hkind, calTaskKind, hg']
  have hengine : (s.calDone g f.rank kind result).engine c = s.engine c := by
    rw [State.calDone_frame]
    rfl
  rw [hcal, State.finishCalibration_eq, State.calDone_setEngine]
  exact State.scanGroup_setEngine _ (hmark.trans (congrArg Engine.resetMark hengine.symm)) g

/-- What stays of a calibration's end in what follows it. -/
structure State.CalFollowed (s : State) (c : Chan) (g : GroupId) (r : Slot) (kind : CalKind) (result : CalResult) (t : State) : Prop where
  others : ∀ q : Slot, q ≠ r → (t.rank q).state = (s.rank q).state ∧ (t.rank q).calStatus = (s.rank q).calStatus ∧
    (t.rank q).failures = (s.rank q).failures
  rank : (t.rank r).state = (s.calRank g r result).state ∧ (t.rank r).calStatus = (s.calRank g r result).calStatus ∧
    (t.rank r).failures = (s.calRank g r result).failures ∧ (t.rank r).calTemp = (s.calRank g r result).calTemp ∧
    (t.rank r).periodic = (s.calRank g r result).periodic
  records : (s.calTold g r kind result).records <+: t.records
  free : s.calWaits g r kind result = (s.group g).waiting → (∀ e ∈ (s.group g).waiting, e.rank ≠ r) → (t.group g).holder ≠ some r ∧
    ((s.rank r).channel = some c → (∀ (h : GroupId), ∀ e ∈ (s.group h).waiting, e.rank ≠ r) →
      ∀ y ∈ (t.queue c).tasks, y.rank = r → y.kind ≠ .calShort ∧ y.kind ≠ .calLong)
  head : ∀ e, (s.calWaits g r kind result).head? = some e → (t.group g).AtHead e
  lists : ∀ e ∈ s.calWaits g r kind result, (t.group g).Lists e

theorem calDone_followed {s w t : State} {c : Chan} {e : Engine} {g : GroupId} {r : Slot} {kind : CalKind} {result : CalResult}
    (hw : ((s.calDone g r kind result).scanGroup g).setEngine c e = w) (hmark : e.resetMark = (s.engine c).resetMark)
    (hdeep : ∀ y ∈ (s.queue c).tasks, y.rank = r → y.kind ≠ .deepEnter) (ht : State.Continues c w t) : s.CalFollowed c g r kind result t := by
  have hframe := s.calDone_frame g r kind result
  have hgroup := fun h => s.calDone_group g h r kind result
  have hqueue := s.calDone_queue g r kind result c
  generalize hown : s.calDone g r kind result = own at *
  have hengine : own.engine c = s.engine c := by
    rw [hframe]
    rfl
  have hstart : State.Continues c (own.setEngine c e) t := by
    refine State.Continues.trans ?_ ht
    rw [← hw, ← State.scanGroup_setEngine own (hmark.trans (congrArg Engine.resetMark hengine.symm)) g]
    exact State.scanGroup_continues _ g
  have hrank : ∀ q, own.rank q = if q = r then s.calRank g r result else s.rank q := fun q => by
    rw [hframe]
    exact State.rank_setRank ..
  have hmem : ∀ y ∈ (own.queue c).tasks, y ∈ (s.queue c).tasks ∧ ((s.rank r).channel = some c → y.rank = r → y.kind.place ≠ .calibration) := by
    intro y hy
    rw [hqueue] at hy
    split at hy
    · obtain ⟨hy, hstays⟩ := List.mem_filter.mp hy
      exact ⟨hy, fun _ hyrank hplace => by simp [hyrank, hplace] at hstays⟩
    · next h => exact ⟨hy, fun h' => absurd h' h⟩
  have hnow : ∀ q, (t.rank q).state = (own.rank q).state ∧ (t.rank q).calStatus = (own.rank q).calStatus ∧
      (t.rank q).failures = (own.rank q).failures ∧ (t.rank q).calTemp = (own.rank q).calTemp := fun q => by
    rw [hstart.rank]
    exact ⟨rfl, rfl, rfl, rfl⟩
  have hself : ((own.setEngine c e).group g) =
      { state := .free, holder := none, heldEntry := none, waiting := s.calWaits g r kind result, tokenTimer := none, discard := false } := by
    rw [State.group_of_setEngine, hgroup, if_pos rfl]
  refine ⟨fun q hq => ?_, ?_, ?_, fun hsame hnone => ⟨fun hholder => ?_, fun hch hnowhere y hy hyrank => ?_⟩, fun a ha => ?_, fun a ha => ?_⟩
  · obtain ⟨hstate, hstatus, hfailures, -⟩ := hnow q
    rw [hrank, if_neg hq] at hstate hstatus hfailures
    exact ⟨hstate, hstatus, hfailures⟩
  · have hperiodic := hstart.periodic r fun y hy hyrank => hdeep y (hmem y hy).1 hyrank
    obtain ⟨hstate, hstatus, hfailures, htemp⟩ := hnow r
    rw [State.rank_of_setEngine] at hperiodic
    rw [hrank, if_pos rfl] at hstate hstatus hfailures htemp hperiodic
    exact ⟨hstate, hstatus, hfailures, htemp, hperiodic⟩
  · have hrecords := hstart.records
    have h : (own.setEngine c e).records = (s.calTold g r kind result).records := by
      rw [hframe]
      rfl
    rw [h] at hrecords
    exact hrecords
  · obtain h | ⟨a, ha, harank⟩ := hstart.holder g r hholder
    · rw [hself] at h
      cases h
    · rw [hself] at ha
      exact hnone a (hsame ▸ ha) harank
  · obtain ⟨z, hz, hzrank, hzkind⟩ | hnew := hstart.tasks y hy
    · have hplace := (hmem z hz).2 hch (hzrank.trans hyrank)
      rw [hzkind] at hplace
      exact ⟨fun h => hplace (by rw [h]; rfl), fun h => hplace (by rw [h]; rfl)⟩
    · obtain hkind | ⟨hkind, -⟩ | ⟨-, h, a, ha, harank⟩ := hnew
      · exact ⟨by simp [hkind], by simp [hkind]⟩
      · exact ⟨by simp [hkind], by simp [hkind]⟩
      · refine absurd (harank.trans hyrank) (hnowhere h a ?_)
        rw [State.group_of_setEngine, hgroup] at ha
        split at ha
        · next hh =>
          rw [hh, ← hsame]
          exact ha
        · exact ha
  · exact hstart.head g a (.inl (by rw [hself]; exact ha))
  · exact hstart.lists g a (.inl (by rw [hself]; exact ha))

theorem State.calDone_eq {s : State} {c : Chan} {g : GroupId} {r : Slot} (kind : CalKind) (result : CalResult) (hch : (s.rank r).channel = some c) :
    s.calDone g r kind result = (((s.calTold g r kind result).setRank r (s.calRank g r result)).setQueue c { s.queue c with
      tasks := (s.queue c).tasks.filter (fun y => !(y.rank == r && (y.kind == .calShort || y.kind == .calLong))) }).setGroup g
      { state := .free, holder := none, heldEntry := none, waiting := s.calWaits g r kind result, tokenTimer := none, discard := false } := by
  have hplace : (fun y : Task => !(y.rank == r && y.kind.place == .calibration)) =
      fun y => !(y.rank == r && (y.kind == .calShort || y.kind == .calLong)) := by
    funext y
    cases y.kind <;> rfl
  have hchannel : (((s.calTold g r kind result).setRank r (s.calRank g r result)).rank r).channel = some c := by
    rw [State.rank_setRank_self, State.calRank_eq]
    exact hch
  have hqueue : ((s.calTold g r kind result).setRank r (s.calRank g r result)).queue c = s.queue c := by
    rw [State.queue_of_setRank, State.calTold_frame]
    rfl
  have hremoved : ((s.calTold g r kind result).setRank r (s.calRank g r result)).removeCalTask r =
      ((s.calTold g r kind result).setRank r (s.calRank g r result)).setQueue c { s.queue c with
        tasks := (s.queue c).tasks.filter (fun y => !(y.rank == r && (y.kind == .calShort || y.kind == .calLong))) } := by
    simp only [State.removeCalTask, hchannel]
    rw [State.removeTasks, hqueue, ← hplace]
  rw [State.calDone, hremoved]

section
variable {s : State} {g : GroupId} {r : Slot} {kind : CalKind}

theorem State.calEnd_of_discard (h : (s.group g).discard = true) (result : CalResult) :
    s.calRank g r result = { s.rank r with calStatus := .stale, periodic := none } ∧ s.calTold g r kind result = s ∧
      s.calWaits g r kind result = (s.group g).waiting ++ [s.calAgain g r kind] := by
  simp only [State.calRank, State.calTold, State.calWaits, h, if_true, and_self]

theorem State.calEnd_of_ok (h : (s.group g).discard = false) : s.calRank g r .ok = { s.rank r with
      calStatus := .valid, failures := 0, calTemp := if (s.rank r).sensorStatus = .good then (s.rank r).lastTemp else none
      state := if (s.rank r).state = .faulted then .online else (s.rank r).state
      periodic := if s.timing.calPeriod = 0 then none else some (s.now + s.timing.calPeriod) } ∧
    s.calTold g r kind .ok = s.completeTag ((s.group g).heldEntry.bind Entry.tag) .done (.calibration kind .ok) ∧
    s.calWaits g r kind .ok = (s.group g).waiting := by
  simp only [State.calRank, State.calTold, State.calWaits, h, Bool.false_eq_true, if_false, if_true, and_self]

theorem State.calEnd_of_faulted (h : (s.group g).discard = false) (hfaulted : (s.rank r).state = .faulted) :
    s.calRank g r .fail = { s.rank r with failures := min 2 ((s.rank r).failures + 1) } ∧
    s.calTold g r kind .fail = (s.notice (.calFailed r g (min 2 ((s.rank r).failures + 1)))).completeTag
      ((s.group g).heldEntry.bind Entry.tag) .calFailed (.calibration kind .fail) ∧
    s.calWaits g r kind .fail = (s.group g).waiting := by
  simp only [State.calRank, State.calTold, State.calWaits, h, hfaulted, reduceCtorEq, Bool.false_eq_true, if_false, if_true, and_self]

theorem State.calEnd_of_first (h : (s.group g).discard = false) (hfaulted : (s.rank r).state ≠ .faulted)
    (hfirst : min 2 ((s.rank r).failures + 1) = 1) :
    s.calRank g r .fail = { s.rank r with failures := 1 } ∧ s.calTold g r kind .fail = s.notice (.calFailed r g 1) ∧
    s.calWaits g r kind .fail = s.calRetry g r :: (s.group g).waiting := by
  simp only [State.calRank, State.calTold, State.calWaits, h, hfaulted, hfirst, reduceCtorEq, Bool.false_eq_true, if_false, if_true, and_self]

theorem State.calEnd_of_second (h : (s.group g).discard = false) (hfaulted : (s.rank r).state ≠ .faulted)
    (hsecond : min 2 ((s.rank r).failures + 1) = 2) :
    s.calRank g r .fail = { s.rank r with failures := 2, state := .faulted, calStatus := .stale, periodic := none } ∧
    s.calTold g r kind .fail = ((s.notice (.calFailed r g 2)).notice (.rankFaulted r g kind)).completeTag
      ((s.group g).heldEntry.bind Entry.tag) .calFailed (.calibration kind .fail) ∧
    s.calWaits g r kind .fail = (s.group g).waiting := by
  simp only [State.calRank, State.calTold, State.calWaits, h, hfaulted, hsecond, reduceCtorEq, Bool.false_eq_true, if_false, OfNat.ofNat_ne_one,
    and_self]

end

theorem State.SameReports.completeTag {s t : State} (h : s.SameReports t) (tag : Option Tag) (st : Status) (d : Detail) :
    (s.completeTag tag st d).SameReports (t.completeTag tag st d) := by
  cases tag with
  | none => exact h
  | some tag => exact h.complete tag st d

/-- Settles O39: parts 1 to 3 give the state the statement writes out; what follows keeps of it what the statement says. -/
theorem completionOfCalibration : Obligations.CompletionOfCalibration := by
  intro s c lines f due kind g hreset hdue hflight hkind hsample hg hdeep hwaiting k result tag n u failed others waits retry again ending own still gone
  have hkind' : f.kind = .task (calTaskKind kind) := by
    rw [hkind]
    cases kind <;> rfl
  have hended := flightEnded_of_cal (s := s.reach due) (line := lines.result) hkind' hsample hg
  have hresult : ((s.reach due).engine c).sampled.getD lines.result = result := rfl
  rw [hresult] at hended
  have hending : ending = (((s.reach due).calTold g f.rank kind result).setRank f.rank ((s.reach due).calRank g f.rank result),
      (s.reach due).calWaits g f.rank kind result) := by
    have hgroup : (s.reach due).group g = s.group g := rfl
    have hrank : (s.reach due).rank f.rank = s.rank f.rank := rfl
    simp only [ending, State.calTold, State.calRank, State.calWaits, hgroup, hrank]
    split
    · rfl
    · split
      · rfl
      · split
        · rfl
        · split <;> rfl
  have hown : k.channel = some c → (s.reach due).calDone g f.rank kind result = own := by
    intro hch
    rw [State.calDone_eq (s := s.reach due) kind result hch]
    simp only [own]
    rw [hending]
    rfl
  have hframe := (s.reach due).calDone_frame g f.rank kind result
  have hkept : ∀ w, (((s.reach due).calDone g f.rank kind result).scanGroup g).setEngine c (s.engine c).ended = w →
      (w.pending = s.pending ∧ w.readData = s.readData ∧ w.monitor = s.monitor ∧ w.now = max s.now due) ∧ w.timing = s.timing ∧
      w.timestamp = s.timestamp ∧ w.outstanding = ((s.reach due).calTold g f.rank kind result).outstanding ∧
      w.records = ((s.reach due).calTold g f.rank kind result).records ∧ w.ranks = ((s.reach due).calDone g f.rank kind result).ranks := by
    rintro w rfl
    have hscan := ((s.reach due).calDone g f.rank kind result).scanGroup_frame g
    rw [hscan]
    have hranks : ((s.reach due).calDone g f.rank kind result).ranks = ((s.reach due).calDone g f.rank kind result).ranks := rfl
    generalize ((s.reach due).calDone g f.rank kind result) = v at *
    rw [hframe]
    exact ⟨⟨rfl, rfl, rfl, rfl⟩, rfl, rfl, rfl, rfl, rfl⟩
  have hfollowed := fun t => calDone_followed (s := s.reach due) (c := c) (t := t) (e := (s.engine c).ended) (g := g) (r := f.rank) (kind := kind)
    (result := result) rfl rfl hdeep
  have hentries := fun h => State.calTold_entries (s := s.reach due) (g := g) (r := f.rank) (kind := kind) (result := result) h
  have hstill : k.channel = some c → still = (((s.reach due).calDone g f.rank kind result).scanGroup g).setEngine c (s.engine c).ended := by
    intro hch
    rw [hown hch]
    rfl
  generalize hwdef : (((s.reach due).calDone g f.rank kind result).scanGroup g).setEngine c (s.engine c).ended = w at *
  have hw : (s.reach due).flightEnded c f lines.result = w := hended.trans hwdef
  obtain ⟨hkept, htiming, htime, hwout, hwrecords, hwranks⟩ := hkept w rfl
  have hfailed : ((s.reach due).notice (.calFailed f.rank g n)).records = failed.records := rfl
  clear_value still
  refine ⟨fun hdrain hothers hwaits => exec_taskCompletion_drained hreset hdue hflight hw hkept hdrain (fun d hd => ?_) hwaits, fun hstays => ?_,
    fun hch => ⟨fun hdrain hmark => ?_, fun hdrain hmark hwaits => ?_, fun hdrain hothers hmark hwaits => ?_⟩⟩
  · exact Option.not_isSome_iff_eq_none.mp fun h => hothers ⟨d, hd, h⟩
  · have hf := hfollowed _ ((w.afterReset_continues c).trans ((State.afterCompletion_continues _ c).trans (State.settle_continues _)))
    have hexec := exec_taskCompletion_of_stays hreset hdue hflight hw hstays
    generalize ((w.afterReset c).afterCompletion c).settle = t at hf hexec
    obtain ⟨hothersRank, ⟨hstate, hstatus, hfailures, htemp, hperiodic⟩, hrecords, hfree, hhead, hlists⟩ := hf
    have hsame : s.SameReports (s.reach due) := ⟨rfl, rfl, rfl, rfl⟩
    refine ⟨t, hexec, hothersRank, fun hdiscard hok => ?_, fun hdiscard hfail hfaulted hfirst => ?_, fun hdiscard hfail hfaulted hsecond => ?_,
      fun hdiscard hfail hfaulted => ?_, fun hdiscard => ?_⟩
    · obtain ⟨hrankEq, htold, hwaits⟩ := State.calEnd_of_ok (s := s.reach due) (r := f.rank) (kind := kind) hdiscard
      rw [hok, hrankEq] at hstate hstatus hfailures htemp hperiodic
      rw [hok] at hrecords hfree
      obtain ⟨hholder, hgone⟩ := hfree hwaits hwaiting
      rw [htold, (hsame.completeTag _ _ _).records] at hrecords
      exact ⟨hstatus, hfailures, htemp, hstate, hperiodic, hholder, hgone, hrecords⟩
    · obtain ⟨hrankEq, htold, hwaits⟩ := State.calEnd_of_first (s := s.reach due) (r := f.rank) (kind := kind) hdiscard hfaulted hfirst
      rw [hfail, hrankEq] at hstate hstatus hfailures htemp hperiodic
      rw [hfail] at hrecords hhead
      rw [hwaits] at hhead
      rw [htold] at hrecords
      refine ⟨hfailures, hstate, hstatus, htemp, hperiodic, ?_, (hhead _ rfl).imp id And.left⟩
      simp only [failed, hfirst]
      exact hrecords
    · obtain ⟨hrankEq, htold, hwaits⟩ := State.calEnd_of_second (s := s.reach due) (r := f.rank) (kind := kind) hdiscard hfaulted hsecond
      rw [hfail, hrankEq] at hstate hstatus hfailures htemp hperiodic
      rw [hfail] at hrecords hfree
      obtain ⟨hholder, hgone⟩ := hfree hwaits hwaiting
      rw [htold] at hrecords
      refine ⟨hfailures, hstate, hstatus, hperiodic, hholder, hgone, ?_⟩
      simp only [failed, hsecond]
      exact hrecords
    · obtain ⟨hrankEq, htold, hwaits⟩ := State.calEnd_of_faulted (s := s.reach due) (r := f.rank) (kind := kind) hdiscard hfaulted
      rw [hfail, hrankEq] at hstate hstatus hfailures htemp hperiodic
      rw [hfail] at hrecords hfree
      obtain ⟨hholder, hgone⟩ := hfree hwaits hwaiting
      rw [htold] at hrecords
      exact ⟨hfailures, hstate.trans hfaulted, hstatus, hholder, hgone, hrecords⟩
    · obtain ⟨hrankEq, htold, hwaits⟩ := State.calEnd_of_discard (s := s.reach due) (r := f.rank) (kind := kind) hdiscard result
      rw [hrankEq] at hstate hstatus hfailures htemp hperiodic
      rw [htold] at hrecords
      rw [hwaits] at hlists
      exact ⟨hstatus, hfailures, hperiodic, htemp, hstate, hrecords,
        (hlists _ (List.mem_append_right _ (List.mem_singleton.mpr rfl))).imp id And.left⟩
  · rw [hstill hch]
    exact exec_taskCompletion_windows hreset hdue hflight hw hkept.2.2.2 htiming hdrain hmark
  · have hends := w.resetEnds c
    have hexec := exec_taskCompletion_of_mark hreset hdue hflight hw hdrain hmark hwaits
    have hownRanks : own.ranks = w.ranks := by rw [hwranks, hown hch]
    have hownRecords : own.records = w.records := by rw [hwrecords, ← hown hch, hframe]
    have hchanged : ∀ r, (w.rank r).channel = (s.rank r).channel ∧ (w.rank r).balance = (s.rank r).balance := by
      intro r
      rw [State.rank, hwranks, hframe]
      show (((s.reach due).setRank f.rank ((s.reach due).calRank g f.rank result)).rank r).channel = _ ∧
        (((s.reach due).setRank f.rank ((s.reach due).calRank g f.rank result)).rank r).balance = _
      rw [State.rank_setRank]
      split
      · next h =>
        rw [State.calRank_eq, h]
        exact ⟨rfl, rfl⟩
      · exact ⟨rfl, rfl⟩
    generalize (w.endReset c).settle = t at hends hexec
    refine ⟨t, hexec, ?_, hends.ranks.trans hownRanks.symm, hends.monitor.trans hkept.2.2.1, hownRecords ▸ hends.records, fun r hr hserved hdebt => ?_,
      fun hnodup e he hekind hechannel htagNe => ?_⟩
    · rw [hstill hch]
      exact hends.engine
    · have hserved : (w.rank r).state.served = true := by
        rw [State.rank, ← hownRanks]
        exact hserved
      exact hends.debts r ((hchanged r).1.trans hr) hserved (by rw [(hchanged r).2]; exact hdebt)
    · obtain ⟨hnodup', hmem⟩ := hentries hnodup
      rw [← hwout] at hnodup' hmem
      have h := hends.told hnodup' e (hmem e he htagNe) hekind hechannel
      rw [htime] at h
      exact h
  · rw [hstill hch]
    exact exec_taskCompletion_of_drain hreset hdue hflight hw hdrain hothers hmark hwaits

end Sys2Proof.Machine
end

section
/-! SUPPORT and the proof of O17: the work a channel reset's end creates again, the tokens granted then, and the RESET_CHANNEL commands it answers
(R81, R83, R128, R167, R174). -/

namespace Sys2Proof.Machine

-- Proofs are elaborated one after the other, which bounds the memory a compile reserves.
set_option Elab.async false

/-! ### The tasks of granted tokens -/

/-- What grants add to the queues: a task for each entry that takes a token (R83). -/
structure State.Grants (s t : State) : Prop where
  rank : ∀ r, t.rank r = s.rank r
  queue : ∀ c, ExtendedBy (s.queue c).tasks (t.queue c).tasks (fun x => ∃ (e : Entry) (n : BitVec 16), x = { e.toTask with seq := n })
  granted : ∀ g e c, (t.group g).state = .held → (t.group g).heldEntry = some e → (s.rank e.rank).channel = some c →
    ((s.group g).state = .held ∧ (s.group g).heldEntry = some e) ∨ ∃ n, { e.toTask with seq := n } ∈ (t.queue c).tasks

namespace State.Grants

variable {s t u : State}

theorem refl (s : State) : s.Grants s := ⟨fun _ => rfl, fun _ => .refl _ _, fun _ _ _ hstate he _ => .inl ⟨hstate, he⟩⟩

theorem trans (h : s.Grants t) (h' : t.Grants u) : s.Grants u := by
  refine ⟨fun r => (h'.rank r).trans (h.rank r), fun c => (h.queue c).trans (h'.queue c), fun g e c hstate he hch => ?_⟩
  obtain ⟨hstate, he⟩ | hqueued := h'.granted g e c hstate he ((congrArg Rank.channel (h.rank e.rank)).trans hch)
  · obtain hheld | ⟨n, hn⟩ := h.granted g e c hstate he hch
    · exact .inl hheld
    · exact .inr ⟨n, (h'.queue c).subset hn⟩
  · exact .inr hqueued

end State.Grants

theorem State.scanGroup_grants (s : State) (g : GroupId) : s.Grants (s.scanGroup g) := by
  obtain hsame | ⟨e, -, -, -, -, hgrant⟩ := s.scanGroup_cases g
  · rw [hsame]
    exact .refl s
  · have hframe := s.scanGroup_frame g
    rw [hgrant] at hframe
    have hqueue : ∀ c, ((s.grant g e).queue c) = if (s.rank e.rank).channel = some c then (s.queue c).insert e.toTask else s.queue c := by
      intro c
      unfold State.grant
      cases hd : (s.rank e.rank).channel with
      | none => rfl
      | some d =>
        simp only [Option.some.injEq]
        rw [State.insertTask_eq, State.queue_setQueue]
        by_cases h : c = d
        · subst h
          rw [if_pos rfl, if_pos rfl]
          rfl
        · rw [if_neg h, if_neg fun h' => h h'.symm]
          rfl
    rw [hgrant]
    refine ⟨fun r => by rw [hframe]; rfl, fun c => ?_, fun h x c hstate hx hch => ?_⟩
    · rw [hqueue]
      split
      · exact ⟨_, rfl, fun x hx => ⟨e, (s.queue c).seq, List.mem_singleton.mp hx⟩⟩
      · exact .refl _ _
    · by_cases hg : h = g
      · subst hg
        rw [State.grant_group] at hx
        obtain rfl := Option.some.inj hx
        refine .inr ⟨(s.queue c).seq, ?_⟩
        rw [hqueue, if_pos hch]
        exact List.mem_append_right _ (List.mem_singleton.mpr rfl)
      · have hgroup : (s.grant g e).group h = s.group h := by rw [← hgrant, State.scanGroup_group_ne s hg]
        rw [hgroup] at hstate hx
        exact .inl ⟨hstate, hx⟩

theorem State.scanAll_grants (s : State) : s.Grants s.scanAll := by
  unfold State.scanAll
  generalize allGroups = l
  induction l generalizing s with
  | nil => exact .refl s
  | cons g l ih => exact (s.scanGroup_grants g).trans (ih _)

/-- A group's scan depends on who is eligible in its list alone. -/
theorem CalGroup.scanned_congr {x : CalGroup} {p q : Entry → Bool} (h : ∀ e ∈ x.waiting, p e = q e) (due : Nat) : x.scanned p due = x.scanned q due := by
  have hlist : ∀ l : List Entry, (∀ e ∈ l, p e = q e) → l.find? p = l.find? q ∧ l.any p = l.any q ∧ l.eraseP p = l.eraseP q := by
    intro l hl
    induction l with
    | nil => exact ⟨rfl, rfl, rfl⟩
    | cons e l ih =>
      obtain ⟨hfind, hany, herase⟩ := ih fun a ha => hl a (List.mem_cons_of_mem e ha)
      have he := hl e List.mem_cons_self
      simp [List.find?_cons, List.eraseP_cons, he, hfind, hany, herase]
  obtain ⟨hfind, hany, herase⟩ := hlist x.waiting h
  rw [CalGroup.scanned, CalGroup.scanned, hfind, hany, herase]

/-! ### The work created again -/

/-- The internal refresh task of a rank in debt (R29). -/
def State.debtTask (s : State) (r : Slot) : Task :=
  { seq := 0, rank := r, kind := .refresh, cls := if (s.rank r).urgent = true then .urgent else .routine, count := none, tag := none
    origin := .planner, executing := false }

/-- The debts of a channel that has no refresh task, taken in a row (R128). -/
theorem State.foldl_refreshAfterReset {c : Chan} (l : List Slot) (hl : l.Nodup) {s : State} (hmark : (s.engine c).resetMark = false)
    (hnone : ∀ r ∈ l, ∀ x ∈ (s.queue c).tasks, x.rank = r → x.kind ≠ .refresh) : l.foldl (fun s r => s.refreshAfterReset c r) s =
      s.setQueue c (((l.filter (fun r => decide ((s.rank r).channel = some c ∧ (s.rank r).state.served = true ∧ (s.rank r).balance < 0))).map
        s.debtTask).foldl Queue.insert (s.queue c)) := by
  induction l generalizing s with
  | nil => exact (State.setQueue_queue_same s c).symm
  | cons r l ih =>
    obtain ⟨hr, hl⟩ := List.nodup_cons.mp hl
    rw [List.foldl_cons, List.filter_cons]
    by_cases hdebt : (s.rank r).channel = some c ∧ (s.rank r).state.served = true ∧ (s.rank r).balance < 0
    · rw [if_pos (decide_eq_true hdebt)]
      obtain ⟨hch, hserved, hbalance⟩ := hdebt
      have htask : s.taskAt r .refresh = none := by
        rw [← Option.not_isSome_iff_eq_none, State.taskAt_isSome_iff hch]
        rintro ⟨x, hx, hrank, hplace⟩
        exact hnone r List.mem_cons_self x hx hrank (TaskKind.place_eq_refresh.mp hplace)
      have hfirst : s.refreshAfterReset c r = s.setQueue c ((s.queue c).insert (s.debtTask r)) := by
        rw [State.refreshAfterReset, if_pos ⟨hch, hserved⟩, State.ensureRefresh, if_pos hbalance]
        simp only [htask, hch, State.createRefresh]
        rw [if_neg (by rw [State.resetting, hmark]; decide), State.insertTask_eq]
        rfl
      have hrest := ih hl (s := s.setQueue c ((s.queue c).insert (s.debtTask r))) hmark fun q hq x hx hrank => by
        rw [State.queue_setQueue_self] at hx
        obtain hx | hx := List.mem_append.mp hx
        · exact hnone q (List.mem_cons_of_mem r hq) x hx hrank
        · rw [List.mem_singleton.mp hx] at hrank
          exact absurd (show r = q from hrank) fun h => hr (h ▸ hq)
      rw [State.queue_setQueue_self, State.setQueue_setQueue] at hrest
      rw [hfirst, hrest]
      rfl
    · rw [if_neg (by simpa using hdebt)]
      have hfirst : s.refreshAfterReset c r = s := by
        unfold State.refreshAfterReset
        split
        · next h =>
          rw [State.ensureRefresh, if_neg fun hbalance => hdebt ⟨h.1, h.2, hbalance⟩]
        · rfl
      rw [hfirst]
      exact ih hl hmark fun q hq => hnone q (List.mem_cons_of_mem r hq)

theorem State.foldl_notice_setQueue {α : Type} (b : α → Notice) (l : List α) (s : State) (c : Chan) (q : Queue) :
    l.foldl (fun u a => u.notice (b a)) (s.setQueue c q) = (l.foldl (fun u a => u.notice (b a)) s).setQueue c q := by
  induction l generalizing s with
  | nil => rfl
  | cons a l ih => rw [List.foldl_cons, List.foldl_cons, State.notice_setQueue, ih]

/-- The work of a channel whose queue the reset has emptied: its debts, then its exits with their notices (R128). -/
theorem State.restored_of_empty {s : State} {c : Chan} (hempty : (s.queue c).tasks = []) : s.restored c =
    ((allSlots.filter (fun r => decide ((s.rank r).channel = some c ∧ (s.rank r).state = .deep ∧ (s.rank r).band = 3))).foldl
      (fun u r => u.notice (.thermalExit r (some c) .reset)) (s.setEngine c { s.engine c with resetMark := false })).setQueue c
      (((allSlots.filter (fun r => decide ((s.rank r).channel = some c ∧ (s.rank r).state.served = true ∧ (s.rank r).balance < 0))).map
        s.debtTask ++ (allSlots.filter (fun r => decide ((s.rank r).channel = some c ∧ (s.rank r).state = .deep ∧ (s.rank r).band = 3))).map
        exitOf).foldl Queue.insert (s.queue c)) := by
  have hmark : ((s.setEngine c { s.engine c with resetMark := false }).engine c).resetMark = false := by rw [State.engine_setEngine_self]
  have hdebts := State.foldl_refreshAfterReset (c := c) allSlots (by decide) (s := s.setEngine c { s.engine c with resetMark := false }) hmark
    fun r _ x hx => by rw [State.queue_of_setEngine, hempty] at hx; cases hx
  rw [State.restored, hdebts]
  generalize hu : s.setEngine c { s.engine c with resetMark := false } = u at hmark
  have hrank : ∀ r, u.rank r = s.rank r := fun r => by rw [← hu]; rfl
  have hqueue : u.queue c = s.queue c := by rw [← hu]; rfl
  have htask : u.debtTask = s.debtTask := by
    funext r
    rw [State.debtTask, hrank]
    rfl
  simp only [hrank, hqueue, htask]
  generalize hl : ((allSlots.filter fun r => decide ((s.rank r).channel = some c ∧ (s.rank r).state.served = true ∧ (s.rank r).balance < 0)).map
    s.debtTask) = debts
  have hkinds : ∀ x ∈ (debts.foldl Queue.insert (s.queue c)).tasks, x.kind = .refresh := by
    obtain ⟨m, hm, hmap⟩ := Queue.foldl_insert_tasks debts (s.queue c)
    intro x hx
    rw [hm, hempty, List.nil_append] at hx
    have h : { x with seq := 0 } ∈ debts.map (fun x => { x with seq := 0 }) := hmap ▸ List.mem_map_of_mem hx
    obtain ⟨y, hy, hyx⟩ := List.mem_map.mp h
    rw [← hl] at hy
    obtain ⟨r, -, rfl⟩ := List.mem_map.mp hy
    exact (congrArg Task.kind hyx).symm
  have hexits := State.foldl_bringOut (ch := c) (cause := .reset) (f := fun s r => s.exitAfterReset c r)
    (P := fun r => decide ((s.rank r).channel = some c ∧ (s.rank r).state = .deep ∧ (s.rank r).band = 3)) allSlots (by decide)
    (s := u.setQueue c (debts.foldl Queue.insert (s.queue c))) (fun v hv r => by
      have hvrank : v.rank r = s.rank r := by
        rw [State.rank, hv]
        exact hrank r
      simp only [State.exitAfterReset, hvrank, decide_eq_true_eq]) hmark
    (fun r _ hr => by
      rw [State.rank_of_setQueue, hrank]
      exact (of_decide_eq_true hr).1)
    fun r _ hr => by
      have hch : ((u.setQueue c (debts.foldl Queue.insert (s.queue c))).rank r).channel = some c := by
        rw [State.rank_of_setQueue, hrank]
        exact (of_decide_eq_true hr).1
      rw [← Option.not_isSome_iff_eq_none, State.taskAt_isSome_iff hch]
      rintro ⟨x, hx, -, hplace⟩
      rw [State.queue_setQueue_self] at hx
      rw [hkinds x hx] at hplace
      exact TaskSlot.noConfusion hplace
  rw [hexits, State.foldl_createExit, State.foldl_notice_setQueue, State.setQueue_setQueue, State.queue_setQueue_self, List.foldl_append]

/-- The entries of a channel's ranks that can use a token once its reset has ended, with no DEEP_ENTER left in its queue (R80). -/
def State.eligibleInside (s : State) (c : Chan) (e : Entry) : Bool :=
  (s.rank e.rank).channel == some c && ((s.rank e.rank).state == .online || (s.rank e.rank).state == .nap ||
    ((s.rank e.rank).state == .faulted && e.origin == .host))

/-- Who is eligible when a channel reset has ended, from a state that agrees on the other channel. -/
theorem State.eligible_of_ended {s t : State} {c : Chan} (hrank : ∀ q, t.rank q = s.rank q)
    (hpower : ∀ q, (s.rank q).channel ≠ some c → t.taskAt q .power = s.taskAt q .power) (hothers : ∀ d, d ≠ c → t.nego d = s.nego d)
    (hengine : ∀ d, d ≠ c → t.engine d = s.engine d) (hmark : (t.engine c).resetMark = false) (hnego : (t.nego c).state ≠ .stalled)
    (hdeep : ∀ x ∈ (t.queue c).tasks, x.kind ≠ .deepEnter) : t.eligible = fun e => s.eligibleOutside c e || s.eligibleInside c e := by
  funext e
  unfold State.eligibleOutside State.eligibleInside
  cases hch : (s.rank e.rank).channel with
  | none =>
    rw [State.eligible_of_noChannel (by rw [hrank]; exact hch), State.eligible_of_noChannel hch]
    rfl
  | some d =>
    rw [State.eligible_of_channel (c := d) (by rw [hrank]; exact hch)]
    by_cases hd : d = c
    · subst hd
      have hdeep : t.deepEnterQueued e.rank = false := by
        unfold State.deepEnterQueued
        cases htask : t.taskAt e.rank .power with
        | none => rfl
        | some x => exact beq_eq_false_iff_ne.mpr (hdeep x (State.mem_of_taskAt (by rw [hrank]; exact hch) htask).1)
      simp [hmark, hnego, hdeep, hrank]
    · have hdeep : t.deepEnterQueued e.rank = s.deepEnterQueued e.rank := by
        rw [State.deepEnterQueued, hpower e.rank (by rw [hch]; simpa using hd)]
        rfl
      have houtside : (some d != some c) = true := bne_iff_ne.mpr fun h => hd (Option.some.inj h)
      have hinside : (some d == some c) = false := beq_eq_false_iff_ne.mpr fun h => hd (Option.some.inj h)
      rw [State.eligible_of_channel hch, hrank, hothers d hd, hengine d hd, hdeep, houtside, hinside, Bool.true_and, Bool.false_and, Bool.or_false]

/-! ### The commands a reset's end answers -/

theorem State.complete_outstanding_last {s : State} {tag tag' : Tag} {l : List OutEntry} {e : OutEntry} (hout : s.outstanding = l ++ [e])
    (he : e.tag = tag) (htag : tag' ≠ tag) (st : Status) (d : Detail) :
    ∃ l', (s.complete tag' st d).outstanding = l' ++ [e] ∧ l'.Sublist l := by
  unfold State.complete
  split
  · exact ⟨l, hout, List.Sublist.refl l⟩
  · refine ⟨l.eraseP (fun e => e.tag == tag'), ?_, List.eraseP_sublist⟩
    show s.outstanding.eraseP _ = _
    rw [hout, List.eraseP_append]
    split
    · rfl
    · next hany =>
      have hl : l.eraseP (fun e => e.tag == tag') = l := List.eraseP_of_forall_not fun x hx h => hany (List.any_eq_true.mpr ⟨x, hx, h⟩)
      rw [hl, List.eraseP_cons_of_neg (by simpa [he] using htag.symm)]
      rfl

/-- A RESET_CHANNEL accepted last completes last, with its count (R174, R175). -/
theorem State.answersResets_last {s : State} {c : Chan} {tag : Tag} {l : List OutEntry} {e : OutEntry} (hout : s.outstanding = l ++ [e])
    (he : e.tag = tag) (hl : ∀ x ∈ l, x.tag ≠ tag) (hkind : e.kind = .resetChannel) (hchannel : e.channel = .chan c) :
    s.records <+: (s.answersResets c).records ∧
    (s.answersResets c).records.getLast? = some (e.report .done (.count e.removed) s.timestamp) ∧
    ((∀ x ∈ l, x.kind = .resetChannel → x.channel ≠ .chan c) →
      (s.answersResets c).records = s.records ++ [e.report .done (.count e.removed) s.timestamp]) := by
  have hcommands : s.resetCommands c = l.filter (fun e => e.kind == .resetChannel && e.channel == .chan c) ++ [e] := by
    rw [State.resetCommands, hout, List.filter_append, List.filter_cons_of_pos (by simp [hkind, hchannel]), List.filter_nil]
  have hothers : ∀ x ∈ l.filter (fun e => e.kind == .resetChannel && e.channel == .chan c), x.tag ≠ tag := fun x hx => hl x (List.mem_of_mem_filter hx)
  have hentry : s.outEntry tag = some e := by
    rw [State.outEntry, hout, List.find?_append, List.find?_eq_none.mpr fun x hx => by simpa using hl x hx]
    simp [he]
  have hbefore := State.foldl_complete_entry OutEntry.tag .done (fun e => .count e.removed) _ hothers s
  have hframe := State.foldl_complete_frame OutEntry.tag .done (fun e => .count e.removed)
    (l.filter (fun e => e.kind == .resetChannel && e.channel == .chan c)) s
  have hrecords := State.foldl_complete_records OutEntry.tag .done (fun e => .count e.removed)
    (l.filter (fun e => e.kind == .resetChannel && e.channel == .chan c)) s
  have hnone : (∀ x ∈ l, x.kind = .resetChannel → x.channel ≠ .chan c) →
      l.filter (fun e => e.kind == .resetChannel && e.channel == .chan c) = [] := fun h =>
    List.filter_eq_nil_iff.mpr fun x hx => by simpa using h x hx
  rw [State.answersResets, hcommands, List.foldl_append, List.foldl_cons, List.foldl_nil, he]
  have hsame : (∀ x ∈ l, x.kind = .resetChannel → x.channel ≠ .chan c) → (l.filter (fun e => e.kind == .resetChannel && e.channel == .chan c)).foldl
      (fun u a => u.complete a.tag .done (.count a.removed)) s = s := fun h => by rw [hnone h]; rfl
  generalize (l.filter (fun e => e.kind == .resetChannel && e.channel == .chan c)).foldl (fun u a => u.complete a.tag .done (.count a.removed)) s = u
    at hbefore hframe hrecords hsame
  have htime : u.timestamp = s.timestamp := by rw [hframe]
  have hlast : (u.complete tag .done (.count e.removed)).records = u.records ++ [e.report .done (.count e.removed) s.timestamp] := by
    simp only [State.complete, hbefore.trans hentry, htime]
  rw [hlast]
  exact ⟨hrecords.trans (List.prefix_append _ _), List.getLast?_concat, fun h => by rw [hsame h]⟩

theorem State.abortTags_outstanding_last {s : State} {tag : Tag} {l : List OutEntry} {e : OutEntry} (hout : s.outstanding = l ++ [e])
    (he : e.tag = tag) (tags : List Tag) (htags : ∀ x ∈ tags, x ≠ tag) :
    ∃ l', (s.abortTags tags).outstanding = l' ++ [e] ∧ l'.Sublist l := by
  unfold State.abortTags
  induction tags generalizing s l with
  | nil => exact ⟨l, hout, List.Sublist.refl l⟩
  | cons x tags ih =>
    obtain ⟨l', hl', hsub⟩ := State.complete_outstanding_last hout he (htags x List.mem_cons_self) .aborted .none
    obtain ⟨m, hm, hmsub⟩ := ih hl' fun y hy => htags y (List.mem_cons_of_mem x hy)
    exact ⟨m, hm, hmsub.trans hsub⟩

theorem State.notice_noteRemoved (s : State) (tag : Tag) (n : Nat) (b : Notice) :
    (s.noteRemoved tag n).notice b = (s.notice b).noteRemoved tag n := by
  have hmargin : (s.noteRemoved tag n).margin = s.margin := by
    simp only [State.margin, State.noteRemoved, List.length_map]
  unfold State.notice
  rw [hmargin]
  split <;> rfl

theorem State.foldl_notice_noteRemoved {α : Type} (b : α → Notice) (l : List α) (s : State) (tag : Tag) (n : Nat) :
    l.foldl (fun u a => u.notice (b a)) (s.noteRemoved tag n) = (l.foldl (fun u a => u.notice (b a)) s).noteRemoved tag n := by
  induction l generalizing s with
  | nil => rfl
  | cons a l ih => rw [List.foldl_cons, List.foldl_cons, State.notice_noteRemoved, ih]

theorem State.SameReports.foldl_notice {s t : State} (h : s.SameReports t) {α : Type} (b : α → Notice) (l : List α) :
    (l.foldl (fun u a => u.notice (b a)) s).SameReports (l.foldl (fun u a => u.notice (b a)) t) := by
  induction l generalizing s t with
  | nil => exact h
  | cons a l ih => exact ih (h.notice (b a))

/-! ### A channel reset with no task in flight -/

/-- A group after a channel reset that ends as it begins: its token taken back, the scans during the reset, and those at its end. -/
theorem CalGroup.resetBy_of_other {x : CalGroup} {mine : Entry → Bool} (h : ∀ e, x.heldEntry = some e → mine e = false ∨ x.state = .free)
    (can : Entry → Bool) (due : Nat) : x.resetBy mine can due = x := by
  unfold CalGroup.resetBy
  cases he : x.heldEntry with
  | none => rfl
  | some e =>
    simp only
    obtain hmine | hfree := h e he
    · rw [if_neg (by rw [hmine]; exact Bool.false_ne_true)]
    · rw [hfree]
      split <;> rfl

/-- Entries of the other channel go before those of the channel that was resetting (R92, R128). -/
theorem CalGroup.scanned_then {x : CalGroup} (hfree : x.state = .free) (first second : Entry → Bool) (due : Nat) :
    (x.scanned first due).scanned (fun e => first e || second e) due =
      if x.waiting.any first then x.scanned first due else x.scanned second due := by
  cases hany : x.waiting.any first with
  | true =>
    rw [if_pos rfl]
    refine CalGroup.scanned_of_taken ?_ _ _
    rw [CalGroup.scanned_of_some hfree hany]
    exact GroupState.noConfusion
  | false =>
    have hnone : ∀ e ∈ x.waiting, first e = false := by
      rw [List.any_eq_false] at hany
      exact fun e he => by simpa using hany e he
    rw [if_neg Bool.false_ne_true, CalGroup.scanned_of_none hany]
    exact CalGroup.scanned_congr (fun e he => by rw [hnone e he, Bool.false_or]) due

/-- The token of a held group is not with an entry of a channel that has just taken its tokens back (R92). -/
theorem CalGroup.resetBy_held_not_mine {x : CalGroup} {mine can : Entry → Bool} {due : Nat} {e : Entry} (hcan : ∀ a, can a = true → mine a = false)
    (hstate : (x.resetBy mine can due).state = .held) (he : (x.resetBy mine can due).heldEntry = some e) : mine e = false := by
  unfold CalGroup.resetBy at hstate he
  split at hstate
  · next hnone =>
    simp only [hnone] at he
    cases he
  · next a ha =>
    simp only [ha] at he
    split at hstate
    · next hmine =>
      rw [if_pos hmine] at he
      split at hstate
      · next hheld =>
        simp only [hheld] at he
        rw [CalGroup.scanned_free] at hstate he
        exact hcan e (List.find?_some he)
      · next hcal => rw [hcal] at hstate; cases hstate
      · next hfree => rw [hfree] at hstate; cases hstate
    · next hmine =>
      rw [if_neg hmine, ha] at he
      obtain rfl := Option.some.inj he
      exact Bool.eq_false_iff.mpr hmine

theorem CalGroup.scanned_held_not_mine {x : CalGroup} {mine can : Entry → Bool} {due : Nat} {e : Entry} (hcan : ∀ a, can a = true → mine a = false)
    (hx : ∀ e, x.state = .held → x.heldEntry = some e → mine e = false) (hstate : (x.scanned can due).state = .held)
    (he : (x.scanned can due).heldEntry = some e) : mine e = false := by
  unfold CalGroup.scanned at hstate he
  split at hstate
  · next h =>
    rw [if_pos h] at he
    exact hcan e (List.find?_some he)
  · next h =>
    rw [if_neg h] at he
    exact hx e hstate he

theorem Queue.keepExecuting_of_idle {q : Queue} (h : ∀ x ∈ q.tasks, x.executing = false) :
    q.keepExecuting true = { tasks := [], seq := q.seq } ∧ (q.keepExecuting false).tasks = q.tasks := by
  have hnone : q.tasks.filter (fun t => t.executing == true) = [] := List.filter_eq_nil_iff.mpr fun x hx => by simp [h x hx]
  have hall : q.tasks.filter (fun t => t.executing == false) = q.tasks := List.filter_eq_self.mpr fun x hx => by simp [h x hx]
  exact ⟨by rw [Queue.keepExecuting, hnone], hall⟩

/-- The work of a channel that its reset creates again (R128). -/
def State.workAgain (s : State) (c : Chan) : List Task :=
  (allSlots.filter (fun r => decide ((s.rank r).channel = some c ∧ (s.rank r).state.served = true ∧ (s.rank r).balance < 0))).map s.debtTask ++
    (allSlots.filter (fun r => decide ((s.rank r).channel = some c ∧ (s.rank r).state = .deep ∧ (s.rank r).band = 3))).map exitOf

/-- The notices of the exits among them, after the ABORTED completions (R107, R126). -/
def State.resetTold (s : State) (c : Chan) : State :=
  (allSlots.filter (fun r => decide ((s.rank r).channel = some c ∧ (s.rank r).state = .deep ∧ (s.rank r).band = 3))).foldl
    (fun u r => u.notice (.thermalExit r (some c) .reset)) (s.abortTags (s.resetTags c))

/-- A channel reset with no task in flight when the channel's work is there again (R128 step 2). -/
structure State.WorkRecreated (u : State) (tag : Tag) (c : Chan) (x : State) : Prop where
  ranks : x.ranks = u.ranks
  monitor : x.monitor = u.monitor
  now : x.now = u.now
  timing : x.timing = u.timing
  timestamp : x.timestamp = u.timestamp
  engine : x.engine c = { u.engine c with state := .standby, resetMark := false, pointer := 0 }
  engines : ∀ d, d ≠ c → x.engine d = u.engine d
  nego : x.nego c = (u.nego c).dropped .reset (u.now + u.timing.releaseWait)
  negos : ∀ d, d ≠ c → x.nego d = u.nego d
  queue : x.queue c = (u.workAgain c).foldl Queue.insert { tasks := [], seq := (u.queue c).seq }
  others : ∀ d, d ≠ c → ExtendedBy (u.queue d).tasks (x.queue d).tasks (fun x => x.kind = .calShort ∨ x.kind = .calLong)
  group : ∀ g, x.group g = if (u.nego c).state = .stalled
    then ((u.group g).resetBy (u.entryOf c) (u.eligibleOutside c) (u.now + u.timing.tokenHold)).scanned (u.eligibleOutside c)
      (u.now + u.timing.tokenHold)
    else (u.group g).resetBy (u.entryOf c) (u.eligibleOutside c) (u.now + u.timing.tokenHold)
  records : x.records = (u.resetTold c).records
  lost : x.lost = (u.resetTold c).lost
  outstanding : x.outstanding = ((u.abortTags (u.resetTags c)).noteRemoved tag (u.queue c).tasks.length).outstanding

theorem State.ResetUnderWay.recreated {u v : State} {tag : Tag} {e : OutEntry} {c : Chan} (h : u.ResetUnderWay tag e c v)
    (hidle : ∀ x ∈ (u.queue c).tasks, x.executing = false) : u.WorkRecreated tag c ((v.standby c).restored c) := by
  obtain ⟨hnone, hall⟩ := Queue.keepExecuting_of_idle hidle
  have hrank : ∀ r, v.rank r = u.rank r := fun r => by rw [State.rank, h.ranks]; rfl
  have hqueue := h.queue
  rw [hnone] at hqueue
  have hout := h.outstanding
  rw [hall] at hout
  have hempty : ((v.standby c).queue c).tasks = [] := by
    rw [State.standby, State.queue_of_setEngine, hqueue]
  have hengine : v.engine c = { u.engine c with resetMark := true, pointer := 0 } := by rw [State.engine_of_set h.engines, if_pos rfl]
  have hrestored := State.restored_of_empty hempty
  have hdebt : (v.standby c).debtTask = u.debtTask := by
    funext r
    show v.debtTask r = _
    rw [State.debtTask, hrank]
    rfl
  have hstandby : ∀ r, (v.standby c).rank r = u.rank r := hrank
  simp only [hstandby, hdebt] at hrestored
  have hself : (v.standby c).queue c = { tasks := [], seq := (u.queue c).seq } := by rw [State.standby, State.queue_of_setEngine, hqueue]
  rw [hself] at hrestored
  have hsame : ((u.abortTags (u.resetTags c)).noteRemoved tag (u.queue c).tasks.length).SameReports
      ((v.standby c).setEngine c { (v.standby c).engine c with resetMark := false }) := by
    have habort := u.abortTags_frame (u.resetTags c)
    refine ⟨h.records, h.lost.trans ?_, hout, h.timestamp.trans ?_⟩
    · rw [State.noteRemoved, habort]
      rfl
    · rw [State.noteRemoved, habort]
      rfl
  obtain ⟨hrecords, hlost, -, -⟩ := hsame.foldl_notice (fun r => .thermalExit r (some c) .reset)
    (allSlots.filter fun r => decide ((u.rank r).channel = some c ∧ (u.rank r).state = .deep ∧ (u.rank r).band = 3))
  rw [State.foldl_notice_noteRemoved] at hrecords hlost
  have hfold := State.foldl_notice_frame (fun r => .thermalExit r (some c) .reset)
    (allSlots.filter fun r => decide ((u.rank r).channel = some c ∧ (u.rank r).state = .deep ∧ (u.rank r).band = 3))
    ((v.standby c).setEngine c { (v.standby c).engine c with resetMark := false })
  generalize (allSlots.filter fun r => decide ((u.rank r).channel = some c ∧ (u.rank r).state = .deep ∧ (u.rank r).band = 3)).foldl
    (fun u r => u.notice (.thermalExit r (some c) .reset)) ((v.standby c).setEngine c { (v.standby c).engine c with resetMark := false }) = y
    at hrestored hrecords hlost hfold
  have hengines : ∀ d, y.engine d = if d = c then { u.engine c with state := .standby, resetMark := false, pointer := 0 } else u.engine d := by
    intro d
    rw [hfold]
    show ((v.standby c).setEngine c { (v.standby c).engine c with resetMark := false }).engine d = _
    rw [State.engine_setEngine]
    split
    · rw [State.standby, State.engine_setEngine_self, hengine]
    · next hd => rw [State.standby, State.engine_setEngine_ne _ _ hd, State.engine_of_set h.engines, if_neg hd]
  rw [hrestored]
  exact
    { ranks := by rw [hfold]; exact h.ranks
      monitor := by rw [hfold]; exact h.monitor
      now := by rw [hfold]; exact h.now
      timing := by rw [hfold]; exact h.timing
      timestamp := by rw [hfold]; exact h.timestamp
      engine := (hengines c).trans (if_pos rfl)
      engines := fun d hd => (hengines d).trans (if_neg hd)
      nego := by rw [hfold]; exact (State.nego_of_set h.negotiators).trans (if_pos rfl)
      negos := fun d hd => by rw [hfold]; exact (State.nego_of_set h.negotiators).trans (if_neg hd)
      queue := State.queue_setQueue_self ..
      others := fun d hd => by rw [State.queue_setQueue_ne _ _ hd, hfold]; exact h.others d hd
      group := fun g => by rw [hfold]; exact h.group g
      records := hrecords
      lost := hlost
      outstanding := by rw [hfold]; exact hout }

theorem State.mem_workAgain {u : State} {c : Chan} {q : Queue} (hq : q.tasks = []) {x : Task}
    (h : x ∈ ((u.workAgain c).foldl Queue.insert q).tasks) : x.kind = .refresh ∨ x.kind = .deepExit := by
  obtain ⟨m, hm, hmap⟩ := Queue.foldl_insert_tasks (u.workAgain c) q
  rw [hm, hq, List.nil_append] at h
  have h : { x with seq := 0 } ∈ (u.workAgain c).map (fun x => { x with seq := 0 }) := hmap ▸ List.mem_map_of_mem h
  obtain ⟨y, hy, hyx⟩ := List.mem_map.mp h
  have hkind : x.kind = y.kind := (congrArg Task.kind hyx).symm
  rw [hkind]
  obtain hy | hy := List.mem_append.mp hy
  · obtain ⟨r, -, rfl⟩ := List.mem_map.mp hy
    exact .inl rfl
  · obtain ⟨r, -, rfl⟩ := List.mem_map.mp hy
    exact .inr rfl

theorem State.WorkRecreated.eligible {u x : State} {tag : Tag} {c : Chan} (h : u.WorkRecreated tag c x) :
    x.eligible = fun e => u.eligibleOutside c e || u.eligibleInside c e := by
  have hrank : ∀ r, x.rank r = u.rank r := fun r => by rw [State.rank, h.ranks]; rfl
  refine State.eligible_of_ended hrank (fun q hq => ?_) h.negos h.engines (by rw [h.engine]) ?_ fun y hy hkind => ?_
  · unfold State.taskAt
    rw [hrank]
    cases hd : (u.rank q).channel with
    | none => rfl
    | some d =>
      simp only
      obtain ⟨l, hl, hcal⟩ := h.others d fun hdc => hq (by rw [hd, hdc])
      have hnone : l.find? (fun t => t.rank == q && t.kind.place == .power) = none :=
        List.find?_eq_none.mpr fun y hy => by obtain hy | hy := hcal y hy <;> simp [hy, TaskKind.place]
      rw [hl, List.find?_append, hnone, Option.or_none]
  · rw [h.nego]
    obtain ⟨-, -, -, -, hstate⟩ := (u.nego c).dropped_lines .reset (u.now + u.timing.releaseWait)
    rw [hstate]
    split <;> exact NegState.noConfusion
  · rw [h.queue] at hy
    obtain hy | hy := State.mem_workAgain rfl hy
    · exact TaskKind.noConfusion (hkind.symm.trans hy)
    · exact TaskKind.noConfusion (hkind.symm.trans hy)

/-- The group of a channel reset that ends as it begins. -/
theorem State.WorkRecreated.scanned {u x : State} {tag : Tag} {c : Chan} (h : u.WorkRecreated tag c x) (g : GroupId) :
    x.scanAll.group g = (x.group g).scanned (fun e => u.eligibleOutside c e || u.eligibleInside c e) (u.now + u.timing.tokenHold) := by
  rw [State.scanAll_group, h.eligible, h.now, h.timing]

theorem State.eligibleOutside_not_mine {u : State} {c : Chan} (e : Entry) (h : u.eligibleOutside c e = true) : u.entryOf c e = false := by
  rw [State.eligibleOutside] at h
  rw [State.entryOf, decide_eq_false_iff_not]
  simpa using (Bool.and_eq_true_iff.mp h).1

section
variable {u x : State} {tag : Tag} {c : Chan} (h : u.WorkRecreated tag c x) {g : GroupId}
include h

/-- A token of the other channel's rank stays where it is (R92). -/
theorem State.WorkRecreated.group_of_other {e : Entry} (hstate : (u.group g).state = .held) (he : (u.group g).heldEntry = some e)
    (hch : (u.rank e.rank).channel ≠ some c) : x.scanAll.group g = u.group g := by
  have hmine : u.entryOf c e = false := decide_eq_false hch
  have hreset := CalGroup.resetBy_of_other (x := u.group g) (mine := u.entryOf c) (fun a ha => by
    obtain rfl := Option.some.inj (he.symm.trans ha)
    exact .inl hmine) (u.eligibleOutside c) (u.now + u.timing.tokenHold)
  have htaken : (u.group g).state ≠ .free := by rw [hstate]; exact GroupState.noConfusion
  rw [h.scanned, h.group, hreset, CalGroup.scanned_of_taken htaken, ite_self, CalGroup.scanned_of_taken htaken]

/-- A token of the channel's rank goes back, and on to the first entry that can use it (R92, R128). -/
theorem State.WorkRecreated.group_of_own {e : Entry} (hstate : (u.group g).state = .held) (he : (u.group g).heldEntry = some e)
    (hch : (u.rank e.rank).channel = some c) : x.scanAll.group g =
      if ((u.group g).waiting ++ [e]).any (u.eligibleOutside c) then CalGroup.scanned
        { state := .free, holder := none, heldEntry := none, waiting := (u.group g).waiting ++ [e], tokenTimer := none, discard := false }
        (u.eligibleOutside c) (u.now + u.timing.tokenHold)
      else CalGroup.scanned
        { state := .free, holder := none, heldEntry := none, waiting := (u.group g).waiting ++ [e], tokenTimer := none, discard := false }
        (u.eligibleInside c) (u.now + u.timing.tokenHold) := by
  have hmine : u.entryOf c e = true := decide_eq_true hch
  rw [h.scanned, h.group, CalGroup.resetBy_held hstate he hmine, CalGroup.scanned_scanned, ite_self]
  exact CalGroup.scanned_then rfl _ _ _

/-- A free group with no entry for the other channel grants to the channel's own (R128). -/
theorem State.WorkRecreated.group_of_free (hstate : (u.group g).state = .free) (hnone : ∀ e ∈ (u.group g).waiting, u.eligibleOutside c e = false) :
    x.scanAll.group g = (u.group g).scanned (u.eligibleInside c) (u.now + u.timing.tokenHold) := by
  have hany : (u.group g).waiting.any (u.eligibleOutside c) = false := List.any_eq_false.mpr fun e he => by rw [hnone e he]; exact Bool.false_ne_true
  rw [h.scanned, h.group, CalGroup.resetBy_of_other fun _ _ => .inr hstate, CalGroup.scanned_of_none hany, ite_self]
  exact CalGroup.scanned_congr (fun e he => by rw [hnone e he, Bool.false_or]) _

/-- A token with a rank of the channel was granted at the reset's end, with its task (R83, R92, R128). -/
theorem State.WorkRecreated.task_of_held {e : Entry} (hstate : (x.scanAll.group g).state = .held) (he : (x.scanAll.group g).heldEntry = some e)
    (hch : (u.rank e.rank).channel = some c) : ∃ y ∈ (x.scanAll.queue c).tasks, y.rank = e.rank ∧ y.kind = calTaskKind e.kind ∧ y.tag = e.tag := by
  have hmine : u.entryOf c e = true := decide_eq_true hch
  have hrank : x.rank e.rank = u.rank e.rank := by rw [State.rank, h.ranks]; rfl
  obtain ⟨hheld, hentry⟩ | ⟨n, hn⟩ := x.scanAll_grants.granted g e c hstate he (by rw [hrank]; exact hch)
  · have hbefore : ∀ a, ((u.group g).resetBy (u.entryOf c) (u.eligibleOutside c) (u.now + u.timing.tokenHold)).state = .held →
        ((u.group g).resetBy (u.entryOf c) (u.eligibleOutside c) (u.now + u.timing.tokenHold)).heldEntry = some a → u.entryOf c a = false :=
      fun a hastate ha => CalGroup.resetBy_held_not_mine State.eligibleOutside_not_mine hastate ha
    rw [h.group] at hheld hentry
    have hnot : u.entryOf c e = false := by
      split at hheld
      · next hs =>
        rw [if_pos hs] at hentry
        exact CalGroup.scanned_held_not_mine State.eligibleOutside_not_mine hbefore hheld hentry
      · next hs =>
        rw [if_neg hs] at hentry
        exact hbefore e hheld hentry
    rw [hmine] at hnot
    exact absurd hnot.symm Bool.false_ne_true
  · exact ⟨_, hn, rfl, rfl, rfl⟩

end

/-- A free group's scan, by whether an entry can use the token (R81). -/
theorem CalGroup.scanned_of_free {x : CalGroup} (hfree : x.state = .free) (next : Entry → Bool) (due : Nat) : x.scanned next due =
    if x.waiting.any next then { x with
      state := .held, holder := (x.waiting.find? next).map Entry.rank, heldEntry := x.waiting.find? next
      waiting := x.waiting.eraseP next, tokenTimer := some due } else x := by
  cases hany : x.waiting.any next with
  | true => rw [if_pos rfl, CalGroup.scanned_of_some hfree hany]
  | false => rw [if_neg Bool.false_ne_true, CalGroup.scanned_of_none hany]

/-- Settles O17: the work created again, the scans at the end, and the answer to the command itself. -/
theorem resetChannelIdle : Obligations.ResetChannelIdle := by
  intro s tag channel ch hadmits hfresh hch hflight hidle c n low dropped debts hot again told other own granted
  obtain ⟨v, hv, htake⟩ := takeCommand_resetChannel_underWay hadmits hfresh hch
  obtain ⟨-, -, hunused, -⟩ := id hadmits
  have hflight' : (v.engine ch).flight.isSome = false := by
    rw [State.engine_of_set hv.engines, if_pos rfl]
    exact Option.isSome_eq_false_iff.mpr (Option.isNone_iff_eq_none.mpr hflight)
  rw [if_neg (by rw [hflight']; exact Bool.false_ne_true), State.endReset_eq] at htake
  have hx := hv.recreated (by exact hidle)
  generalize (v.standby ch).restored ch = x at htake hx
  have hexec := exec_admitted hadmits htake
  have hother : (s.taken tag c).eligibleOutside ch = other := State.eligibleOutside_of_taken s tag c ch
  have hown : (s.taken tag c).eligibleInside ch = own := rfl
  have htags : (s.taken tag c).resetTags ch = (queueOrder ((s.queue ch).tasks.filter (fun x => x.kind == .refreshNow || (x.origin == .host &&
      (x.kind == .napEnter || x.kind == .napExit || x.kind == .deepEnter || x.kind == .deepExit))))).filterMap Task.tag := by
    rw [State.resetTags_eq, State.queue_of_taken, (Queue.keepExecuting_of_idle hidle).2, Task.hostOwned_eq]
  have htold : (s.taken tag c).resetTold ch = told := by
    rw [State.resetTold, htags]
    rfl
  have hagain : (s.taken tag c).workAgain ch = again := rfl
  obtain ⟨l, hout, hsub⟩ := State.abortTags_outstanding_last (s := s.taken tag c) (tag := tag) (l := s.outstanding)
    (e := outEntryOf tag c) rfl rfl ((s.taken tag c).resetTags ch) (fun y hy => State.Fresh.resetTags_ne (s := s.taken tag c) hfresh ch y hy)
  have hl : ∀ y ∈ l, y.tag ≠ tag := fun y hy => hunused y (hsub.subset hy)
  have hnoted : x.outstanding = l ++ [{ outEntryOf tag c with removed := (s.queue ch).tasks.length }] := by
    rw [hx.outstanding, State.noteRemoved]
    show ((s.taken tag c).abortTags ((s.taken tag c).resetTags ch)).outstanding.map _ = _
    rw [hout, List.map_append]
    have hkeep : l.map (fun e => if e.tag = tag then { e with removed := (s.queue ch).tasks.length } else e) = l := by
      refine (List.map_congr_left fun y hy => ?_).trans (List.map_id l)
      rw [if_neg (hl y hy)]
      rfl
    refine congrArg₂ (· ++ ·) hkeep ?_
    exact List.map_singleton.trans (congrArg (fun e => [e]) (if_pos rfl))
  have hnew : ∀ z : Task, (∃ (e : Entry) (n : BitVec 16), z = { e.toTask with seq := n }) →
      (z.kind = .calShort ∨ z.kind = .calLong) ∧ z.cls = .cal ∧ z.executing = false := by
    rintro z ⟨e, n, rfl⟩
    exact ⟨TaskKind.place_eq_calibration.mp (calTaskKind_place e.kind), rfl, rfl⟩
  have hreport : ({ outEntryOf tag c with removed := (s.queue ch).tasks.length } : OutEntry).report .done (.count (s.queue ch).tasks.length) s.timestamp =
      s.completionOf tag c .done (.count (s.queue ch).tasks.length) := rfl
  have hchannel : (outEntryOf tag c).channel = .chan ch := by
    show chanFieldOf (.resetChannel channel) = .chan ch
    simp only [chanFieldOf, hch]
  have hgrants := x.scanAll_grants
  have hscanFrame := x.scanAll_frame
  have hgroupOther := fun g e => hx.group_of_other (g := g) (e := e)
  have hgroupOwn := fun g e => hx.group_of_own (g := g) (e := e)
  have hgroupFree := fun g => hx.group_of_free (g := g)
  have hheld := fun g e => hx.task_of_held (g := g) (e := e)
  have hlast := State.answersResets_last (s := x.scanAll) (c := ch) (tag := tag) (l := l)
    (e := { outEntryOf tag c with removed := (s.queue ch).tasks.length }) (by rw [hscanFrame]; exact hnoted) rfl hl rfl hchannel
  have hanswerFrame := x.scanAll.answersResets_frame ch
  generalize x.scanAll = y at *
  generalize y.answersResets ch = a at *
  have hsettleFrame := a.settle_frame
  have hnego := fun d => a.nego_settle d
  have hurgency := a.urgencyCondition_settle
  have hrequest := a.requestCondition_settle
  generalize a.settle = t at *
  have hqueue : ∀ d, t.queue d = y.queue d := fun d => by rw [hsettleFrame, hanswerFrame]; rfl
  have hgroup : ∀ g, t.group g = y.group g := fun g => by rw [hsettleFrame, hanswerFrame]; rfl
  have hengine : ∀ d, t.engine d = x.engine d := fun d => by rw [hsettleFrame, hanswerFrame, hscanFrame]; rfl
  have hxnego : ∀ d, a.nego d = x.nego d := fun d => by rw [hanswerFrame, hscanFrame]; rfl
  have hnow : a.now = s.now := by rw [hanswerFrame, hscanFrame]; exact hx.now
  have htiming : a.timing = s.timing := by rw [hanswerFrame, hscanFrame]; exact hx.timing
  have hrecords : y.records = told.records := by rw [hscanFrame, ← htold]; exact hx.records
  have htime : y.timestamp = s.timestamp := by rw [hscanFrame]; exact hx.timestamp
  have htrecords : t.records = a.records := by rw [hsettleFrame]
  rw [hrecords, htime, hreport] at hlast
  obtain ⟨hprefix, hend, halone⟩ := hlast
  refine ⟨t, hexec, ?_, ?_, ?_, ?_, fun d hd => ⟨?_, ?_, ?_⟩, ?_, ?_, ?_, ?_, ?_, ?_, ?_, ?_⟩
  · rw [hsettleFrame, hanswerFrame, hscanFrame]
    exact hx.ranks
  · rw [hsettleFrame, hanswerFrame, hscanFrame]
    exact hx.monitor
  · rw [hengine]
    exact hx.engine
  · rw [hnego, hxnego, hx.nego, hnow, htiming, hurgency, hrequest]
    rfl
  · rw [hengine]
    exact hx.engines d hd
  · rw [hnego, hxnego, hx.negos d hd, hnow, htiming, hurgency, hrequest]
    rfl
  · rw [hqueue]
    exact (hx.others d hd).trans ((hgrants.queue d).mono fun z hz => (hnew z hz).1)
  · rw [hqueue]
    have hqueued := hgrants.queue ch
    rw [hx.queue, hagain] at hqueued
    exact hqueued.mono hnew
  · intro g e hstate he hechannel
    rw [hgroup] at hstate he
    rw [hqueue]
    exact hheld g e hstate he hechannel
  · intro g e hstate he
    rw [hgroup]
    refine ⟨hgroupOther g e hstate he, fun hechannel => ?_⟩
    have h := hgroupOwn g e hstate he hechannel
    rw [hother, hown, CalGroup.scanned_of_free rfl, CalGroup.scanned_of_free rfl] at h
    cases hany : ((s.group g).waiting ++ [e]).any other with
    | true => exact (h.trans ((if_pos hany).trans (if_pos hany))).trans (if_pos hany).symm
    | false => exact (h.trans (if_neg (Bool.eq_false_iff.mp hany))).trans (if_neg (Bool.eq_false_iff.mp hany)).symm
  · intro g hstate hnone
    have h := hgroupFree g hstate (by rw [hother]; exact hnone)
    rw [hown] at h
    rw [hgroup]
    exact h.trans (CalGroup.scanned_of_free hstate own _)
  · rw [htrecords]
    exact hprefix
  · rw [hsettleFrame, hanswerFrame, hscanFrame, ← htold]
    exact hx.lost
  · intro hnone
    rw [htrecords]
    exact halone fun y hy => hnone y (hsub.subset hy)
  · rw [htrecords]
    exact hend

end Sys2Proof.Machine
end

section
/-! SUPPORT for O58: the work of the machine rank by rank. A docket gathers what the queue, the engine and the group hold for one rank; the law of the
queues and groups (WorkLaw) says of each docket that it is sound and of each group that its fields agree. -/

namespace Sys2Proof.Machine

-- Proofs are elaborated one after the other, which bounds the memory a compile reserves.
set_option Elab.async false

/-! ### Dockets -/

/-- What a channel and a group hold for one rank, with the rank's own state, band and calibration status. -/
structure Docket where
  state : RankState
  band : Band
  calStatus : CalStatus
  tasks : List Task
  flight : Option FlightKind
  resetting : Bool
  held : Option Entry
  running : Bool
  waiting : List Entry

/-- The kind of the task in flight, where it is of this rank. -/
def Engine.flightOf (e : Engine) (r : Slot) : Option FlightKind := (e.flight.filter (fun f => f.rank == r)).map Flight.kind

/-- The entry that holds the token, where it is of this rank. -/
def CalGroup.heldOf (x : CalGroup) (r : Slot) : Option Entry := x.heldEntry.filter (fun e => e.rank == r)

/-- The waiting entries of a rank. -/
def CalGroup.waitingOf (x : CalGroup) (r : Slot) : List Entry := x.waiting.filter (fun e => e.rank == r)

/-- Whether the group is CALIBRATING for this rank. -/
def CalGroup.runningFor (x : CalGroup) (r : Slot) : Bool := (x.heldOf r).isSome && decide (x.state = .calibrating)

/-- The tasks of a rank. -/
def tasksOf (l : List Task) (r : Slot) : List Task := l.filter (fun x => x.rank == r)

/-- The docket of a rank on a channel and in a group. -/
def State.docket (s : State) (c : Chan) (g : GroupId) (r : Slot) : Docket where
  state := (s.rank r).state
  band := (s.rank r).band
  calStatus := (s.rank r).calStatus
  tasks := tasksOf (s.queue c).tasks r
  flight := (s.engine c).flightOf r
  resetting := (s.engine c).resetMark
  held := (s.group g).heldOf r
  running := (s.group g).runningFor r
  waiting := (s.group g).waitingOf r

/-- What may be out of order for a rank in the middle of an event: its band is written and not yet taken by the power logic, its exit is
missing, or its calibration task is gone while it still holds the token. -/
structure Waiver where
  band : Prop
  exit : Prop
  token : Prop

/-- Nothing waived. -/
def Waiver.none : Waiver := { band := False, exit := False, token := False }

/-- A waiver that allows all that another allows. -/
def Waiver.Le (a b : Waiver) : Prop := (a.band → b.band) ∧ (a.exit → b.exit) ∧ (a.token → b.token)

/-- A docket in order (R75, R85, R95, R100, R101, R107, R109, R113, R117, R121). -/
structure Docket.Sound (w : Waiver) (d : Docket) : Prop where
  places : d.tasks.Pairwise (fun x y => x.kind.place ≠ y.kind.place)
  leaving : ∀ x ∈ d.tasks, x.kind = .deepExit →
    d.state = .deep ∧ ((x.origin = .host ∧ (x.cls = .power ∨ x.cls = .urgent)) ∨ (x.origin = .thermal ∧ x.cls = .urgent))
  entering : ∀ x ∈ d.tasks, x.kind = .deepEnter → x.origin = .host ∧ x.cls = .power ∧ (d.state = .online ∨ d.state = .nap) ∧ d.held = none
  beside : ∀ x ∈ d.tasks, x.kind = .deepEnter → ∀ y ∈ d.tasks, y.kind ≠ .deepEnter → y.kind = .refresh ∧ x.executing = false
  fits : ∀ x ∈ d.tasks, d.state ≠ .settling ∧ (d.state = .deep → x.kind = .deepExit)
  runs : ∀ x ∈ d.tasks, x.executing = true → d.flight = some (.task x.kind)
  flies : ∀ k, d.flight = some k → k = .fill ∨ ∃ x ∈ d.tasks, x.executing = true ∧ k = .task x.kind
  calibrates : ∀ x ∈ d.tasks, x.kind.place = .calibration → d.held.isSome = true
  agrees : ∀ e, d.held = some e → ∀ x ∈ d.tasks, x.kind.place = .calibration →
    x.kind = calTaskKind e.kind ∧ x.cls = .cal ∧ x.tag = e.tag ∧ (x.executing = true ↔ d.running = true)
  single : (d.held.toList ++ d.waiting).length ≤ 1
  entries : ∀ e ∈ d.held.toList ++ d.waiting, d.state ≠ .offline ∧ e.revocations ≤ 2 ∧ (d.calStatus = .never → e.kind = .long)
  cool : ¬ w.band → ∀ x ∈ d.tasks, x.kind = .deepEnter → x.executing = false → d.band ≠ 3
  exits : ¬ w.band → ¬ w.exit → d.state = .deep → d.band = 3 → d.resetting = false →
    ∃ x ∈ d.tasks, x.kind = .deepExit ∧ (x.cls = .urgent ∨ x.executing = true)
  holds : (w.token → d.running = true) → ∀ e, d.held = some e → ∃ x ∈ d.tasks, x.kind.place = .calibration

/-- The fields of a group agree (R70, R71, R93). -/
structure CalGroup.Regular (x : CalGroup) : Prop where
  free : x.state = .free → x.holder = none ∧ x.heldEntry = none
  timer : x.tokenTimer.isSome = true ↔ x.state = .held
  discard : x.discard = true → x.state = .calibrating
  held : x.state ≠ .free → ∃ e, x.heldEntry = some e ∧ x.holder = some e.rank

/-- The queues and groups in order, but for what is waived. -/
structure State.Works (v : Slot → Waiver) (s : State) : Prop where
  groups : ∀ g, (s.group g).Regular
  home : ∀ g, ∀ e ∈ (s.group g).entries, (s.rank e.rank).group = some g
  sound : ∀ r c g, (s.rank r).channel = some c → (s.rank r).group = some g → (s.docket c g r).Sound (v r)

/-- Nothing waived for any rank. -/
def unwaived : Slot → Waiver := fun _ => .none

/-- The ranks in order and, where `w` holds, the work too. -/
def State.InOrder (w : Prop) (v : Slot → Waiver) (s : State) : Prop := s.RankLaw ∧ (w → s.Works v)

/-! ### What dockets hold -/

theorem mem_tasksOf {l : List Task} {r : Slot} {x : Task} : x ∈ tasksOf l r ↔ x ∈ l ∧ x.rank = r := by simp [tasksOf]

theorem Engine.flightOf_eq_some {e : Engine} {r : Slot} {k : FlightKind} : e.flightOf r = some k ↔ ∃ f, e.flight = some f ∧ f.rank = r ∧ f.kind = k := by
  simp [Engine.flightOf, Option.filter_eq_some_iff, and_assoc]

theorem CalGroup.heldOf_eq_some {x : CalGroup} {r : Slot} {e : Entry} : x.heldOf r = some e ↔ x.heldEntry = some e ∧ e.rank = r := by
  simp [CalGroup.heldOf, Option.filter_eq_some_iff]

theorem CalGroup.mem_waitingOf {x : CalGroup} {r : Slot} {e : Entry} : e ∈ x.waitingOf r ↔ e ∈ x.waiting ∧ e.rank = r := by simp [CalGroup.waitingOf]

theorem CalGroup.entriesOf_eq (x : CalGroup) (r : Slot) : (x.heldOf r).toList ++ x.waitingOf r = x.entries.filter (fun e => e.rank == r) := by
  rw [CalGroup.entries, List.filter_append]
  congr 1
  cases h : x.heldEntry with
  | none => simp [CalGroup.heldOf, h]
  | some e => by_cases he : e.rank = r <;> simp [CalGroup.heldOf, h, he]

theorem CalGroup.mem_entriesOf {x : CalGroup} {r : Slot} {e : Entry} : e ∈ (x.heldOf r).toList ++ x.waitingOf r ↔ e ∈ x.entries ∧ e.rank = r := by
  rw [CalGroup.entriesOf_eq, List.mem_filter, beq_iff_eq]

theorem CalGroup.Regular.entry_of_holder {x : CalGroup} (h : x.Regular) {r : Slot} (hholder : x.holder = some r) : ∃ e, x.heldOf r = some e := by
  have hstate : x.state ≠ .free := fun hfree => by simp [(h.free hfree).1] at hholder
  obtain ⟨e, he, hrank⟩ := h.held hstate
  exact ⟨e, CalGroup.heldOf_eq_some.mpr ⟨he, Option.some.inj (hrank.symm.trans hholder)⟩⟩

theorem CalGroup.Regular.holder_of_entry {x : CalGroup} (h : x.Regular) {e : Entry} (he : x.heldEntry = some e) :
    x.state ≠ .free ∧ x.holder = some e.rank := by
  have hstate : x.state ≠ .free := fun hfree => by simp [(h.free hfree).2] at he
  obtain ⟨e', he', hrank⟩ := h.held hstate
  rw [Option.some.inj (he.symm.trans he')]
  exact ⟨hstate, hrank⟩

/-- A relation holds of the pairs of a list where it holds of the pairs of each rank. -/
theorem pairwise_iff_tasksOf {l : List Task} {R : Task → Task → Prop} :
    l.Pairwise (fun x y => x.rank = y.rank → R x y) ↔ ∀ r, (tasksOf l r).Pairwise R := by
  have hmem : ∀ r, (tasksOf l r).Pairwise R ↔ l.Pairwise (fun x y => x.rank = r → y.rank = r → R x y) := fun r => by
    simp only [tasksOf, List.pairwise_filter, beq_iff_eq]
  simp only [hmem]
  refine ⟨fun h r => h.imp fun hxy hx hy => hxy (hx.trans hy.symm), fun h => ?_⟩
  simp only [List.pairwise_iff_getElem] at h ⊢
  exact fun i j hi hj hij hrank => h _ i j hi hj hij hrank rfl

theorem nodup_places_iff {l : List Task} : (l.map (fun x => (x.rank, x.kind.place))).Nodup ↔
    ∀ r, (tasksOf l r).Pairwise (fun x y => x.kind.place ≠ y.kind.place) := by
  rw [← pairwise_iff_tasksOf, List.Nodup, List.pairwise_map]
  simp only [ne_eq, Prod.mk.injEq, not_and]

/-- Four places for each of eight ranks (R117). -/
theorem length_le_of_nodup_places {l : List Task} (h : (l.map (fun x => (x.rank, x.kind.place))).Nodup) : l.length ≤ 32 := by
  have hcode : Function.Injective (fun p : TaskSlot => (match p with | .refresh => 0 | .calibration => 1 | .power => 2 | .pool => 3 : Fin 4)) := by
    intro p q
    cases p <;> cases q <;> simp
  have hnodup := (h.map (Function.Injective.prodMap Function.injective_id hcode)).length_le_card
  simpa using hnodup

/-! ### The law of the work, rank by rank -/

theorem State.RankLaw.group_of_channel {s : State} (h : s.RankLaw) {r : Slot} {c : Chan} (hch : (s.rank r).channel = some c) :
    ∃ g, (s.rank r).group = some g := by
  obtain ⟨-, -, -, hchannel, hgroup⟩ := h.1 r
  exact Option.ne_none_iff_exists'.mp fun hg => by simp [hchannel.mpr (hgroup.mp hg)] at hch

theorem State.RankLaw.channel_of_group {s : State} (h : s.RankLaw) {r : Slot} {g : GroupId} (hg : (s.rank r).group = some g) :
    ∃ c, (s.rank r).channel = some c := by
  obtain ⟨-, -, -, hchannel, hgroup⟩ := h.1 r
  exact Option.ne_none_iff_exists'.mp fun hc => by simp [hgroup.mpr (hchannel.mp hc)] at hg

theorem State.RankLaw.place {s : State} (h : s.RankLaw) (c : Chan) : s.PlaceLaw c := by
  cases c
  · exact h.2.1
  · exact h.2.2

theorem State.WorkLaw.queueLaw {s : State} (h : s.WorkLaw) (c : Chan) : s.QueueLaw c := by
  cases c
  · exact h.1
  · exact h.2.1

theorem State.works_of_workLaw {s : State} (h : s.WorkLaw) : s.Works unwaived := by
  have hgroups : ∀ g, (s.group g).Regular := by
    intro g
    obtain ⟨hfree, htimer, hdiscard, hheld, -, -⟩ := h.2.2.1 g
    refine ⟨hfree, htimer, hdiscard, fun hstate => ?_⟩
    obtain ⟨e, he, hholder, -⟩ := hheld hstate
    exact ⟨e, he, hholder⟩
  refine ⟨hgroups, fun g e he => ?_, fun r c g hch hg => ?_⟩
  · obtain ⟨-, -, -, -, -, hentries⟩ := h.2.2.1 g
    exact (hentries e he).1
  · obtain ⟨hnodup, -, hpower, hfits, hbeside, hruns, hflies, hexits⟩ := h.queueLaw c
    obtain ⟨-, -, -, hheld, hsingle, hentries⟩ := h.2.2.1 g
    have hpower : ∀ x ∈ tasksOf (s.queue c).tasks r, s.PowerTaskLaw x := fun x hx => hpower x (mem_tasksOf.mp hx).1
    have hcal : ∀ e, (s.group g).heldOf r = some e → ∃ x, (x ∈ (s.queue c).tasks ∧ x.rank = r) ∧ x.kind = calTaskKind e.kind ∧ x.cls = .cal ∧
        x.tag = e.tag ∧ (x.executing = true ↔ (s.group g).runningFor r = true) := fun e he => by
      have hrunning : (s.group g).runningFor r = true ↔ (s.group g).state = .calibrating := by
        rw [CalGroup.runningFor, he]
        simp
      obtain ⟨hentry, rfl⟩ := CalGroup.heldOf_eq_some.mp he
      obtain ⟨e', he', -, c', hc', x, hx, hrank, hkind, hcls, htag, hrun⟩ := hheld ((hgroups g).holder_of_entry hentry).1
      obtain rfl := Option.some.inj (hentry.symm.trans he')
      obtain rfl := Option.some.inj (hch.symm.trans hc')
      exact ⟨x, ⟨hx, hrank⟩, hkind, hcls, htag, hrun.trans hrunning.symm⟩
    refine ⟨nodup_places_iff.mp hnodup r, fun x hx hkind => ?_, fun x hx hkind => ?_, fun x hx hkind y hy hne => ?_, fun x hx => ?_,
      fun x hx hrun => ?_, fun k hk => ?_, fun x hx hplace => ?_, fun e he y hy hplace => ?_, ?_,
      fun e he => ?_, fun _ x hx hkind hwaits => ?_, fun _ _ hdeep hband hmark => ?_, fun _ e he => ?_⟩
    · obtain ⟨-, rfl⟩ := mem_tasksOf.mp hx
      exact (hpower x hx).1 hkind
    · obtain ⟨-, rfl⟩ := mem_tasksOf.mp hx
      obtain ⟨horigin, hcls, hstate, -, hholder⟩ := (hpower x hx).2 hkind
      refine ⟨horigin, hcls, hstate, Option.eq_none_iff_forall_ne_some.mpr fun e he => ?_⟩
      obtain ⟨he, hrank⟩ := CalGroup.heldOf_eq_some.mp he
      exact hholder g (((hgroups g).holder_of_entry he).2.trans (congrArg some hrank))
    · obtain ⟨hq, rfl⟩ := mem_tasksOf.mp hx
      obtain ⟨hy, hrank⟩ := mem_tasksOf.mp hy
      exact hbeside x hq hkind y hy hrank hne
    · obtain ⟨hq, rfl⟩ := mem_tasksOf.mp hx
      exact hfits x hq
    · obtain ⟨hq, rfl⟩ := mem_tasksOf.mp hx
      obtain ⟨f, hf, hrank, hkind⟩ := hruns x hq hrun
      exact Engine.flightOf_eq_some.mpr ⟨f, hf, hrank, hkind⟩
    · obtain ⟨f, hf, hrank, rfl⟩ := Engine.flightOf_eq_some.mp hk
      refine (hflies f hf).imp_right fun ⟨x, hx, hrun, hxrank, hkind⟩ => ?_
      exact ⟨x, mem_tasksOf.mpr ⟨hx, hxrank.trans hrank⟩, hrun, hkind⟩
    · obtain ⟨hq, rfl⟩ := mem_tasksOf.mp hx
      have hall : x ∈ (s.queue .a).tasks ++ (s.queue .b).tasks := by
        cases c
        · exact List.mem_append_left _ hq
        · exact List.mem_append_right _ hq
      obtain ⟨g', hg', hholder⟩ := h.2.2.2 x hall hplace
      obtain ⟨e, he⟩ := (hgroups g').entry_of_holder hholder
      rw [Option.some.inj (hg'.symm.trans hg)] at he
      exact Option.isSome_iff_exists.mpr ⟨e, he⟩
    · obtain ⟨x, hx, hrest⟩ := hcal e he
      have hcalPlace : x.kind.place = .calibration := by rw [hrest.1]; exact calTaskKind_place _
      obtain rfl := List.inj_on_of_nodup_map (f := fun x : Task => x.kind.place) (List.pairwise_map.mpr (nodup_places_iff.mp hnodup r)) hy
        (mem_tasksOf.mpr hx) (hplace.trans hcalPlace.symm)
      exact hrest
    · have hranks : (((s.group g).entries.filter (fun e => e.rank == r)).map Entry.rank).Nodup :=
        hsingle.sublist (List.filter_sublist.map _)
      have hall : ∀ q ∈ ((s.group g).entries.filter (fun e => e.rank == r)).map Entry.rank, r = q := fun q hq => by
        obtain ⟨e, he, rfl⟩ := List.mem_map.mp hq
        exact (beq_iff_eq.mp (List.mem_filter.mp he).2).symm
      have hone := List.nodup_iff_count_le_one.mp hranks r
      rw [List.count_eq_length.mpr hall, List.length_map, ← CalGroup.entriesOf_eq] at hone
      exact hone
    · obtain ⟨hlisted, rfl⟩ := CalGroup.mem_entriesOf.mp he
      exact (hentries e hlisted).2
    · obtain ⟨-, rfl⟩ := mem_tasksOf.mp hx
      exact ((hpower x hx).2 hkind).2.2.2.1 hwaits
    · obtain ⟨x, hx, hrank, hkind, hout⟩ := hexits r hch hdeep hband hmark
      exact ⟨x, mem_tasksOf.mpr ⟨hx, hrank⟩, hkind, hout⟩
    · obtain ⟨x, hx, hkind, -⟩ := hcal e he
      exact ⟨x, mem_tasksOf.mpr hx, by rw [hkind]; exact calTaskKind_place _⟩

/-- The docket of a task's rank. -/
theorem State.Works.docket_of_task {s : State} {v : Slot → Waiver} (h : s.Works v) (hr : s.RankLaw) {c : Chan} {x : Task} (hx : x ∈ (s.queue c).tasks) :
    ∃ g, (s.rank x.rank).group = some g ∧ (s.docket c g x.rank).Sound (v x.rank) := by
  obtain ⟨hch, -⟩ := (hr.place c).1 x hx
  obtain ⟨g, hg⟩ := hr.group_of_channel hch
  exact ⟨g, hg, h.sound _ c g hch hg⟩

theorem State.Works.queueLaw {s : State} (h : s.Works unwaived) (hr : s.RankLaw) (c : Chan) : s.QueueLaw c := by
  have hdocket : ∀ x ∈ (s.queue c).tasks, ∃ g, (s.rank x.rank).group = some g ∧ (s.docket c g x.rank).Sound .none :=
    fun x hx => h.docket_of_task hr hx
  have hmine : ∀ {x : Task}, x ∈ (s.queue c).tasks → x ∈ tasksOf (s.queue c).tasks x.rank := fun hx => mem_tasksOf.mpr ⟨hx, rfl⟩
  have hnodup : ((s.queue c).tasks.map (fun x => (x.rank, x.kind.place))).Nodup := by
    refine nodup_places_iff.mpr fun r => ?_
    cases hl : tasksOf (s.queue c).tasks r with
    | nil => exact .nil
    | cons x l =>
      obtain ⟨hx, rfl⟩ := mem_tasksOf.mp (hl ▸ List.mem_cons_self : x ∈ tasksOf (s.queue c).tasks r)
      obtain ⟨g, -, hd⟩ := hdocket x hx
      exact hl ▸ hd.places
  refine ⟨hnodup, length_le_of_nodup_places hnodup, fun x hx => ⟨fun hkind => ?_, fun hkind => ?_⟩, fun x hx => ?_,
    fun x hx hkind y hy hrank hne => ?_, fun x hx hrun => ?_, fun f hf => ?_, fun r hch hdeep hband hmark => ?_⟩
  · obtain ⟨g, -, hd⟩ := hdocket x hx
    exact hd.leaving x (hmine hx) hkind
  · obtain ⟨g, hg, hd⟩ := hdocket x hx
    obtain ⟨horigin, hcls, hstate, hheld⟩ := hd.entering x (hmine hx) hkind
    refine ⟨horigin, hcls, hstate, hd.cool id x (hmine hx) hkind, fun g' hholder => ?_⟩
    obtain ⟨e, he⟩ := (h.groups g').entry_of_holder hholder
    have hentry : e ∈ (s.group g').entries ∧ e.rank = x.rank := CalGroup.mem_entriesOf.mp (by simp [he])
    have hhome := h.home g' e hentry.1
    rw [hentry.2, hg] at hhome
    rw [← Option.some.inj hhome] at he
    exact Option.some_ne_none e (he.symm.trans hheld)
  · obtain ⟨g, -, hd⟩ := hdocket x hx
    exact hd.fits x (hmine hx)
  · obtain ⟨g, -, hd⟩ := hdocket x hx
    exact hd.beside x (hmine hx) hkind y (mem_tasksOf.mpr ⟨hy, hrank⟩) hne
  · obtain ⟨g, -, hd⟩ := hdocket x hx
    exact Engine.flightOf_eq_some.mp (hd.runs x (hmine hx) hrun)
  · have hch := ((hr.place c).2 f hf).1
    obtain ⟨g, hg⟩ := hr.group_of_channel hch
    refine ((h.sound _ c g hch hg).flies f.kind (Engine.flightOf_eq_some.mpr ⟨f, hf, rfl, rfl⟩)).imp_right fun ⟨x, hx, hrun, hkind⟩ => ?_
    obtain ⟨hx, hrank⟩ := mem_tasksOf.mp hx
    exact ⟨x, hx, hrun, hrank, hkind⟩
  · obtain ⟨g, hg⟩ := hr.group_of_channel hch
    obtain ⟨x, hx, hkind, hout⟩ := (h.sound r c g hch hg).exits id id hdeep hband hmark
    obtain ⟨hx, hrank⟩ := mem_tasksOf.mp hx
    exact ⟨x, hx, hrank, hkind, hout⟩

theorem State.Works.tokenLaw {s : State} (h : s.Works unwaived) (hr : s.RankLaw) (g : GroupId) : s.TokenLaw g := by
  have hdocket : ∀ e ∈ (s.group g).entries, ∃ c, (s.rank e.rank).channel = some c ∧ (s.docket c g e.rank).Sound .none := fun e he => by
    obtain ⟨c, hch⟩ := hr.channel_of_group (h.home g e he)
    exact ⟨c, hch, h.sound _ c g hch (h.home g e he)⟩
  have hregular := h.groups g
  refine ⟨hregular.free, hregular.timer, hregular.discard, fun hstate => ?_, ?_, fun e he => ?_⟩
  · obtain ⟨e, he, hholder⟩ := hregular.held hstate
    have hheld : (s.group g).heldOf e.rank = some e := CalGroup.heldOf_eq_some.mpr ⟨he, rfl⟩
    have hmem : e ∈ (s.group g).entries := (CalGroup.mem_entriesOf.mp (by rw [hheld]; simp : e ∈ ((s.group g).heldOf e.rank).toList ++ _)).1
    obtain ⟨c, hch, hd⟩ := hdocket e hmem
    obtain ⟨x, hx, hplace⟩ := hd.holds (fun h => h.elim) e hheld
    obtain ⟨hkind, hcls, htag, hrun⟩ := hd.agrees e hheld x hx hplace
    obtain ⟨hx, hrank⟩ := mem_tasksOf.mp hx
    have hrunning : (s.group g).runningFor e.rank = true ↔ (s.group g).state = .calibrating := by
      rw [CalGroup.runningFor, hheld]
      simp
    exact ⟨e, he, hholder, c, hch, x, hx, hrank, hkind, hcls, htag, hrun.trans hrunning⟩
  · rw [List.nodup_iff_count_le_one]
    intro r
    by_cases hr' : r ∈ (s.group g).entries.map Entry.rank
    · obtain ⟨e, he, rfl⟩ := List.mem_map.mp hr'
      obtain ⟨c, hch, hd⟩ := hdocket e he
      have hsingle : (((s.group g).heldOf e.rank).toList ++ (s.group g).waitingOf e.rank).length ≤ 1 := hd.single
      rw [CalGroup.entriesOf_eq, ← List.countP_eq_length_filter] at hsingle
      rw [List.count, List.countP_map]
      exact hsingle
    · rw [List.count_eq_zero_of_not_mem hr']
      exact Nat.zero_le 1
  · obtain ⟨c, hch, hd⟩ := hdocket e he
    exact ⟨h.home g e he, hd.entries e (CalGroup.mem_entriesOf.mpr ⟨he, rfl⟩)⟩

theorem State.Works.workLaw {s : State} (h : s.Works unwaived) (hr : s.RankLaw) : s.WorkLaw := by
  refine ⟨h.queueLaw hr .a, h.queueLaw hr .b, h.tokenLaw hr, fun x hx hplace => ?_⟩
  have hqueue : ∃ c, x ∈ (s.queue c).tasks := (List.mem_append.mp hx).elim (fun hx => ⟨.a, hx⟩) (fun hx => ⟨.b, hx⟩)
  obtain ⟨c, hx⟩ := hqueue
  obtain ⟨g, hg, hd⟩ := h.docket_of_task hr hx
  obtain ⟨e, he⟩ := Option.isSome_iff_exists.mp (hd.calibrates x (mem_tasksOf.mpr ⟨hx, rfl⟩) hplace)
  obtain ⟨he, hrank⟩ := CalGroup.heldOf_eq_some.mp he
  exact ⟨g, hg, by rw [((h.groups g).holder_of_entry he).2, hrank]⟩

/-! ### What an update leaves of a docket -/

theorem State.docket_setRank (s : State) (r q : Slot) (k : Rank) (c : Chan) (g : GroupId) : (s.setRank r k).docket c g q =
    if q = r then { s.docket c g r with state := k.state, band := k.band, calStatus := k.calStatus } else s.docket c g q := by
  unfold State.docket
  rw [State.rank_setRank]
  split
  · next h => rw [h]; rfl
  · rfl

theorem State.docket_setQueue (s : State) (c d : Chan) (l : Queue) (g : GroupId) (r : Slot) : (s.setQueue c l).docket d g r =
    if d = c then { s.docket c g r with tasks := tasksOf l.tasks r } else s.docket d g r := by
  unfold State.docket
  rw [State.queue_setQueue]
  split
  · next h => rw [h]; rfl
  · rfl

theorem State.docket_setEngine (s : State) (c d : Chan) (e : Engine) (g : GroupId) (r : Slot) : (s.setEngine c e).docket d g r =
    if d = c then { s.docket c g r with flight := e.flightOf r, resetting := e.resetMark } else s.docket d g r := by
  unfold State.docket
  rw [State.engine_setEngine]
  split
  · next h => rw [h]; rfl
  · rfl

theorem State.docket_setGroup (s : State) (c : Chan) (g h : GroupId) (x : CalGroup) (r : Slot) : (s.setGroup g x).docket c h r =
    if h = g then { s.docket c g r with held := x.heldOf r, running := x.runningFor r, waiting := x.waitingOf r } else s.docket c h r := by
  unfold State.docket
  rw [State.group_setGroup]
  split
  · rfl
  · rfl

theorem State.docket_congr {s t : State} {c : Chan} {g : GroupId} {r : Slot} (hrank : t.rank r = s.rank r)
    (htasks : tasksOf (t.queue c).tasks r = tasksOf (s.queue c).tasks r) (hflight : (t.engine c).flightOf r = (s.engine c).flightOf r)
    (hmark : (t.engine c).resetMark = (s.engine c).resetMark) (hheld : (t.group g).heldOf r = (s.group g).heldOf r)
    (hrunning : (t.group g).runningFor r = (s.group g).runningFor r) (hwaiting : (t.group g).waitingOf r = (s.group g).waitingOf r) :
    t.docket c g r = s.docket c g r := by
  rw [State.docket, State.docket, hrank, htasks, hflight, hmark, hheld, hrunning, hwaiting]

theorem tasksOf_append (l m : List Task) (r : Slot) : tasksOf (l ++ m) r = tasksOf l r ++ tasksOf m r := List.filter_append ..

theorem tasksOf_singleton (x : Task) (r : Slot) : tasksOf [x] r = if x.rank = r then [x] else [] := by
  by_cases h : x.rank = r <;> simp [tasksOf, h]

theorem tasksOf_filter (l : List Task) (p : Task → Bool) (r : Slot) : tasksOf (l.filter p) r = (tasksOf l r).filter p := by
  simp only [tasksOf, List.filter_filter, Bool.and_comm]

theorem tasksOf_filter_of_others {l : List Task} {p : Task → Bool} {r : Slot} (h : ∀ x ∈ l, x.rank = r → p x = true) :
    tasksOf (l.filter p) r = tasksOf l r := by
  rw [tasksOf_filter]
  exact List.filter_eq_self.mpr fun x hx => h x (mem_tasksOf.mp hx).1 (mem_tasksOf.mp hx).2

theorem tasksOf_map {l : List Task} {f : Task → Task} (h : ∀ x ∈ l, (f x).rank = x.rank) (r : Slot) : tasksOf (l.map f) r = (tasksOf l r).map f := by
  simp only [tasksOf, List.filter_map]
  congr 1
  exact List.filter_congr fun x hx => by simp [h x hx]

theorem tasksOf_map_of_others {l : List Task} {f : Task → Task} (h : ∀ x ∈ l, (f x).rank = x.rank) {r : Slot} (hr : ∀ x ∈ l, x.rank = r → f x = x) :
    tasksOf (l.map f) r = tasksOf l r := by
  rw [tasksOf_map h]
  refine List.map_congr_left (g := id) (fun x hx => ?_) |>.trans (List.map_id _)
  exact hr x (mem_tasksOf.mp hx).1 (mem_tasksOf.mp hx).2

/-! ### Sound dockets -/

namespace Docket.Sound

variable {w w' : Waiver} {d : Docket}

theorem weaken (h : d.Sound w) (hw : w.Le w') : d.Sound w' :=
  { h with
    cool := fun hband => h.cool fun hb => hband (hw.1 hb)
    exits := fun hband hexit => h.exits (fun hb => hband (hw.1 hb)) fun he => hexit (hw.2.1 he)
    holds := fun htoken => h.holds fun ht => htoken (hw.2.2 ht) }

/-- One task in a place. -/
theorem eq_of_place (h : d.Sound w) {x y : Task} (hx : x ∈ d.tasks) (hy : y ∈ d.tasks) (hplace : x.kind.place = y.kind.place) : x = y :=
  List.inj_on_of_nodup_map (f := fun x : Task => x.kind.place) (List.pairwise_map.mpr h.places) hx hy hplace

/-- A task joins the queue (R114, R121). -/
theorem insert (h : d.Sound w) {x : Task} (hwaits : x.executing = false) (hplace : ∀ y ∈ d.tasks, y.kind.place ≠ x.kind.place)
    (hleaving : x.kind = .deepExit → d.state = .deep ∧ ((x.origin = .host ∧ (x.cls = .power ∨ x.cls = .urgent)) ∨ (x.origin = .thermal ∧ x.cls = .urgent)))
    (hentering : x.kind = .deepEnter → x.origin = .host ∧ x.cls = .power ∧ (d.state = .online ∨ d.state = .nap) ∧ d.held = none ∧ d.band ≠ 3 ∧
      ∀ y ∈ d.tasks, y.kind = .refresh)
    (hbeside : x.kind ≠ .refresh → ∀ y ∈ d.tasks, y.kind ≠ .deepEnter) (hlater : ∀ y ∈ d.tasks, y.kind = .deepEnter → y.executing = false)
    (hfits : d.state ≠ .settling ∧ (d.state = .deep → x.kind = .deepExit)) 
    (hheld : x.kind.place = .calibration → ∃ e, d.held = some e ∧ x.kind = calTaskKind e.kind ∧ x.cls = .cal ∧ x.tag = e.tag ∧ d.running = false) :
    ({ d with tasks := d.tasks ++ [x] } : Docket).Sound w where
  places := List.pairwise_append.mpr ⟨h.places, List.pairwise_singleton _ _, fun y hy z hz => by rw [List.mem_singleton.mp hz]; exact hplace y hy⟩
  leaving y hy := (List.mem_append.mp hy).elim (h.leaving y) fun hy => by rw [List.mem_singleton.mp hy]; exact hleaving
  entering y hy := (List.mem_append.mp hy).elim (h.entering y) fun hy hkind => by
    rw [List.mem_singleton.mp hy] at hkind ⊢
    obtain ⟨horigin, hcls, hstate, hheld, -⟩ := hentering hkind
    exact ⟨horigin, hcls, hstate, hheld⟩
  beside y hy hkind z hz hne := by
    obtain hy | hy := List.mem_append.mp hy
    · obtain hz | hz := List.mem_append.mp hz
      · exact h.beside y hy hkind z hz hne
      · rw [List.mem_singleton.mp hz]
        exact ⟨by_contra fun hx => hbeside hx y hy hkind, hlater y hy hkind⟩
    · rw [List.mem_singleton.mp hy] at hkind ⊢
      obtain hz | hz := List.mem_append.mp hz
      · exact ⟨(hentering hkind).2.2.2.2.2 z hz, hwaits⟩
      · rw [List.mem_singleton.mp hz] at hne
        exact absurd hkind hne
  fits y hy := (List.mem_append.mp hy).elim (h.fits y) fun hy => by rw [List.mem_singleton.mp hy]; exact hfits
  runs y hy hrun := (List.mem_append.mp hy).elim (fun hy => h.runs y hy hrun) fun hy => by
    rw [List.mem_singleton.mp hy, hwaits] at hrun
    cases hrun
  flies k hk := (h.flies k hk).imp_right fun ⟨y, hy, hrest⟩ => ⟨y, List.mem_append_left _ hy, hrest⟩
  calibrates y hy := (List.mem_append.mp hy).elim (h.calibrates y) fun hy hplace => by
    rw [List.mem_singleton.mp hy] at hplace
    obtain ⟨e, he, -⟩ := hheld hplace
    exact Option.isSome_iff_exists.mpr ⟨e, he⟩
  agrees e he y hy := (List.mem_append.mp hy).elim (h.agrees e he y) fun hy hplace => by
    rw [List.mem_singleton.mp hy] at hplace ⊢
    obtain ⟨e', he', hkind, hcls, htag, hrunning⟩ := hheld hplace
    obtain rfl := Option.some.inj (he.symm.trans he')
    exact ⟨hkind, hcls, htag, by rw [hwaits, hrunning]⟩
  single := h.single
  entries := h.entries
  cool hw y hy := (List.mem_append.mp hy).elim (h.cool hw y) fun hy hkind _ => by
    rw [List.mem_singleton.mp hy] at hkind
    exact (hentering hkind).2.2.2.2.1
  exits hw hw' hdeep hband hmark := by
    obtain ⟨y, hy, hrest⟩ := h.exits hw hw' hdeep hband hmark
    exact ⟨y, List.mem_append_left _ hy, hrest⟩
  holds hw e he := by
    obtain ⟨y, hy, hrest⟩ := h.holds hw e he
    exact ⟨y, List.mem_append_left _ hy, hrest⟩

/-- Waiting tasks leave the queue (R109, R123). -/
theorem filter (h : d.Sound w) {p : Task → Bool} (hwaits : ∀ x ∈ d.tasks, x.executing = true → p x = true) (hband : w.band → w'.band)
    (hexit : w.exit → w'.exit)
    (hexits : ∀ x ∈ d.tasks, x.kind = .deepExit → p x = false → w'.exit ∨ d.resetting = true)
    (htoken : w.token ∨ (∃ x ∈ d.tasks, x.kind.place = .calibration ∧ p x = false) → w'.token) :
    ({ d with tasks := d.tasks.filter p } : Docket).Sound w' where
  places := h.places.filter p
  leaving x hx := h.leaving x (List.mem_of_mem_filter hx)
  entering x hx := h.entering x (List.mem_of_mem_filter hx)
  beside x hx hkind y hy := h.beside x (List.mem_of_mem_filter hx) hkind y (List.mem_of_mem_filter hy)
  fits x hx := h.fits x (List.mem_of_mem_filter hx)
  runs x hx := h.runs x (List.mem_of_mem_filter hx)
  flies k hk := (h.flies k hk).imp_right fun ⟨x, hx, hrun, hkind⟩ => ⟨x, List.mem_filter.mpr ⟨hx, hwaits x hx hrun⟩, hrun, hkind⟩
  calibrates x hx := h.calibrates x (List.mem_of_mem_filter hx)
  agrees e he x hx := h.agrees e he x (List.mem_of_mem_filter hx)
  single := h.single
  entries := h.entries
  cool hw x hx := h.cool (fun hb => hw (hband hb)) x (List.mem_of_mem_filter hx)
  exits hw hw' hdeep hband' hmark := by
    obtain ⟨x, hx, hkind, hout⟩ := h.exits (fun hb => hw (hband hb)) (fun he => hw' (hexit he)) hdeep hband' hmark
    refine ⟨x, List.mem_filter.mpr ⟨hx, ?_⟩, hkind, hout⟩
    by_contra hp
    exact (hexits x hx hkind (by simpa using hp)).elim hw' fun hreset => Bool.noConfusion (hreset.symm.trans hmark)
  holds hw e he := by
    obtain ⟨x, hx, hplace⟩ := h.holds (fun ht => hw (htoken (.inl ht))) e he
    refine ⟨x, List.mem_filter.mpr ⟨hx, ?_⟩, hplace⟩
    by_contra hp
    exact hp (hwaits x hx ((h.agrees e he x hx hplace).2.2.2.mpr (hw (htoken (.inr ⟨x, hx, hplace, by simpa using hp⟩)))))

/-- Tasks change in place, at most in the class of a refresh task or an exit raised (R30, R107). -/
theorem map (h : d.Sound w) {f : Task → Task} (hf : ∀ x ∈ d.tasks, (f x).kind = x.kind ∧ (f x).executing = x.executing ∧ (f x).origin = x.origin ∧
      (f x).tag = x.tag ∧ ((f x).cls = x.cls ∨ x.kind = .refresh ∨ (x.kind = .deepExit ∧ (f x).cls = .urgent))) :
    ({ d with tasks := d.tasks.map f } : Docket).Sound w where
  places := by
    refine List.pairwise_map.mpr (h.places.imp_of_mem fun {x y} hx hy hne => ?_)
    rw [(hf x hx).1, (hf y hy).1]
    exact hne
  leaving := List.forall_mem_map.mpr fun x hx hkind => by
    obtain ⟨hk, -, horigin, -, hcls⟩ := hf x hx
    obtain ⟨hdeep, hout⟩ := h.leaving x hx (hk ▸ hkind)
    refine ⟨hdeep, ?_⟩
    obtain hcls | hcls | ⟨-, hcls⟩ := hcls
    · rw [horigin, hcls]
      exact hout
    · rw [hk, hcls] at hkind
      cases hkind
    · rw [horigin, hcls]
      exact hout.imp (fun h => ⟨h.1, .inr rfl⟩) fun h => ⟨h.1, rfl⟩
  entering := List.forall_mem_map.mpr fun x hx hkind => by
    obtain ⟨hk, -, horigin, -, hcls⟩ := hf x hx
    rw [hk] at hkind
    rw [hkind] at hcls
    simp only [reduceCtorEq, false_and, or_false] at hcls
    rw [horigin, hcls]
    exact h.entering x hx hkind
  beside := List.forall_mem_map.mpr fun x hx hkind => List.forall_mem_map.mpr fun y hy hne => by
    rw [(hf x hx).1] at hkind
    rw [(hf y hy).1] at hne ⊢
    rw [(hf x hx).2.1]
    exact h.beside x hx hkind y hy hne
  fits := List.forall_mem_map.mpr fun x hx => by rw [(hf x hx).1]; exact h.fits x hx
  runs := List.forall_mem_map.mpr fun x hx hrun => by rw [(hf x hx).1]; exact h.runs x hx ((hf x hx).2.1.symm.trans hrun)
  flies k hk := (h.flies k hk).imp_right fun ⟨x, hx, hrun, hkind⟩ =>
    ⟨f x, List.mem_map_of_mem hx, (hf x hx).2.1.trans hrun, hkind.trans (congrArg FlightKind.task (hf x hx).1.symm)⟩
  calibrates := List.forall_mem_map.mpr fun x hx hplace => h.calibrates x hx (by rw [← (hf x hx).1]; exact hplace)
  agrees e he := List.forall_mem_map.mpr fun x hx hplace => by
    obtain ⟨hk, hrun', -, htag', hcls⟩ := hf x hx
    rw [hk] at hplace ⊢
    obtain ⟨hkind, hclass, htag, hrun⟩ := h.agrees e he x hx hplace
    refine ⟨hkind, ?_, htag'.trans htag, by rw [hrun']; exact hrun⟩
    obtain hcls | hcls | ⟨hcls, -⟩ := hcls
    · exact hcls.trans hclass
    all_goals
      rw [hcls] at hplace
      cases hplace
  single := h.single
  entries := h.entries
  cool hw := List.forall_mem_map.mpr fun x hx hkind hwaits => h.cool hw x hx ((hf x hx).1.symm.trans hkind) ((hf x hx).2.1.symm.trans hwaits)
  exits hw hw' hdeep hband hmark := by
    obtain ⟨x, hx, hkind, hout⟩ := h.exits hw hw' hdeep hband hmark
    obtain ⟨hk, hrun, -, -, hcls⟩ := hf x hx
    refine ⟨f x, List.mem_map_of_mem hx, hk.trans hkind, ?_⟩
    rw [hrun]
    obtain hcls | hcls | ⟨-, hcls⟩ := hcls
    · rw [hcls]
      exact hout
    · rw [hkind] at hcls
      cases hcls
    · exact .inl hcls
  holds hw e he := by
    obtain ⟨x, hx, hplace⟩ := h.holds hw e he
    exact ⟨f x, List.mem_map_of_mem hx, by rw [(hf x hx).1]; exact hplace⟩

end Docket.Sound

/-! ### The laws under one update -/

theorem State.rankLaw_iff {s : State} : s.RankLaw ↔ (∀ r, (s.rank r).TimerLaw) ∧ ∀ c, s.PlaceLaw c :=
  ⟨fun h => ⟨h.1, h.place⟩, fun h => ⟨h.1, h.2 .a, h.2 .b⟩⟩

theorem State.RankLaw.congr {s t : State} (h : s.RankLaw) (hranks : ∀ r, t.rank r = s.rank r) (hqueues : ∀ c, t.queue c = s.queue c)
    (hengines : ∀ c, (t.engine c).flight = (s.engine c).flight) : t.RankLaw := by
  refine State.rankLaw_iff.mpr ⟨fun r => by rw [hranks]; exact h.1 r, fun c => ?_⟩
  simp only [State.PlaceLaw, hranks, hqueues, hengines]
  exact h.place c

theorem State.RankLaw.setRank {s : State} (h : s.RankLaw) {r : Slot} {k : Rank} (hk : k.TimerLaw)
    (htasks : ∀ c, ∀ x ∈ (s.queue c).tasks, x.rank = r → k.channel = some c ∧ k.state ≠ .absent ∧ k.state ≠ .offline)
    (hflights : ∀ c, ∀ f ∈ (s.engine c).flight, f.rank = r → k.channel = some c ∧ k.FlightLaw f.kind) : (s.setRank r k).RankLaw := by
  refine State.rankLaw_iff.mpr ⟨fun q => ?_, fun c => ⟨fun x hx => ?_, fun f hf => ?_⟩⟩
  · rw [State.rank_setRank]
    split
    · exact hk
    · exact h.1 q
  · rw [State.rank_setRank]
    split
    · next hx' => exact htasks c x hx hx'
    · exact (h.place c).1 x hx
  · rw [State.rank_setRank]
    split
    · next hf' => exact hflights c f hf hf'
    · exact (h.place c).2 f hf

theorem State.RankLaw.setQueue {s : State} (h : s.RankLaw) {c : Chan} {l : Queue} (hl : ∀ x ∈ l.tasks, (∃ y ∈ (s.queue c).tasks, y.rank = x.rank) ∨
    ((s.rank x.rank).channel = some c ∧ (s.rank x.rank).state ≠ .absent ∧ (s.rank x.rank).state ≠ .offline)) : (s.setQueue c l).RankLaw := by
  refine State.rankLaw_iff.mpr ⟨h.1, fun d => ⟨fun x hx => ?_, (h.place d).2⟩⟩
  rw [State.queue_setQueue] at hx
  split at hx
  · next hd =>
    subst hd
    refine (hl x hx).elim (fun ⟨y, hy, hrank⟩ => ?_) id
    have hplace := (h.place d).1 y hy
    rw [hrank] at hplace
    exact hplace
  · exact (h.place d).1 x hx

theorem State.RankLaw.setEngine {s : State} (h : s.RankLaw) {c : Chan} {e : Engine}
    (he : ∀ f ∈ e.flight, (s.rank f.rank).channel = some c ∧ (s.rank f.rank).FlightLaw f.kind) : (s.setEngine c e).RankLaw := by
  refine State.rankLaw_iff.mpr ⟨h.1, fun d => ⟨(h.place d).1, fun f hf => ?_⟩⟩
  rw [State.engine_setEngine] at hf
  split at hf
  · next hd =>
    subst hd
    exact he f hf
  · exact (h.place d).2 f hf

/-- The work stays in order where one rank's docket changes to another in order. -/
theorem State.Works.step {s t : State} {v v' : Slot → Waiver} (h : s.Works v) (r : Slot) (hranks : ∀ q, q ≠ r → t.rank q = s.rank q)
    (hchannel : (t.rank r).channel = (s.rank r).channel) (hgroup : (t.rank r).group = (s.rank r).group) (hregular : ∀ g, (t.group g).Regular)
    (hhome : ∀ g, ∀ e ∈ (t.group g).entries, (∃ e' ∈ (s.group g).entries, e'.rank = e.rank) ∨ (e.rank = r ∧ (s.rank r).group = some g))
    (hothers : ∀ q, q ≠ r → ∀ c g, (s.rank q).channel = some c → (s.rank q).group = some g →
      (s.docket c g q).Sound (v q) → (t.docket c g q).Sound (v' q))
    (hmine : ∀ c g, (s.rank r).channel = some c → (s.rank r).group = some g → (s.docket c g r).Sound (v r) → (t.docket c g r).Sound (v' r)) :
    t.Works v' := by
  have hsame : ∀ q, (t.rank q).channel = (s.rank q).channel ∧ (t.rank q).group = (s.rank q).group := fun q => by
    by_cases hq : q = r
    · rw [hq]
      exact ⟨hchannel, hgroup⟩
    · rw [hranks q hq]
      exact ⟨rfl, rfl⟩
  refine ⟨hregular, fun g e he => ?_, fun q c g hch hg => ?_⟩
  · rw [(hsame _).2]
    obtain ⟨e', he', hrank⟩ | ⟨hrank, hg⟩ := hhome g e he
    · rw [← hrank]
      exact h.home g e' he'
    · rw [hrank]
      exact hg
  · rw [(hsame q).1] at hch
    rw [(hsame q).2] at hg
    have hd := h.sound q c g hch hg
    by_cases hq : q = r
    · subst hq
      exact hmine c g hch hg hd
    · exact hothers q hq c g hch hg hd

theorem State.Works.congr {s t : State} {v : Slot → Waiver} (h : s.Works v) (hranks : ∀ r, t.rank r = s.rank r) (hqueues : ∀ c, t.queue c = s.queue c)
    (hengines : ∀ c, (t.engine c).flight = (s.engine c).flight ∧ (t.engine c).resetMark = (s.engine c).resetMark)
    (hgroups : ∀ g, t.group g = s.group g) : t.Works v := by
  have hdocket : ∀ c g r, t.docket c g r = s.docket c g r := fun c g r => by
    rw [State.docket, State.docket, hranks, hqueues, hgroups, Engine.flightOf, (hengines c).1, (hengines c).2]
    rfl
  refine ⟨fun g => by rw [hgroups]; exact h.groups g, fun g e he => ?_, fun r c g hch hg => ?_⟩
  · rw [hgroups] at he
    rw [hranks]
    exact h.home g e he
  · rw [hranks] at hch hg
    rw [hdocket]
    exact h.sound r c g hch hg

theorem State.Works.weaken {s : State} {v v' : Slot → Waiver} (h : s.Works v) (hv : ∀ r, (v r).Le (v' r)) : s.Works v' :=
  ⟨h.groups, h.home, fun r c g hch hg => (h.sound r c g hch hg).weaken (hv r)⟩

/-! ### Order under one operation -/

/-- An operation that leaves the ranks, queues, engines and groups alone. -/
def State.SameWork (s t : State) : Prop := t.ranks = s.ranks ∧ t.queues = s.queues ∧ t.engines = s.engines ∧ t.groups = s.groups

namespace State.SameWork

variable {s t u : State}

theorem refl (s : State) : s.SameWork s := ⟨rfl, rfl, rfl, rfl⟩

theorem trans (h : s.SameWork t) (h' : t.SameWork u) : s.SameWork u :=
  ⟨h'.1.trans h.1, h'.2.1.trans h.2.1, h'.2.2.1.trans h.2.2.1, h'.2.2.2.trans h.2.2.2⟩

theorem foldl {α : Type} {f : State → α → State} (l : List α) (s : State) (h : ∀ (u : State) (a : α), u.SameWork (f u a)) : s.SameWork (l.foldl f s) := by
  induction l generalizing s with
  | nil => exact .refl s
  | cons a l ih => exact (h s a).trans (ih _)

theorem rank (h : s.SameWork t) (r : Slot) : t.rank r = s.rank r := by rw [State.rank, h.1]; rfl

theorem queue (h : s.SameWork t) (c : Chan) : t.queue c = s.queue c := by rw [State.queue, h.2.1]; rfl

theorem engine (h : s.SameWork t) (c : Chan) : t.engine c = s.engine c := by rw [State.engine, h.2.2.1]; rfl

theorem group (h : s.SameWork t) (g : GroupId) : t.group g = s.group g := by rw [State.group, h.2.2.2]; rfl

theorem notice (s : State) (b : Notice) : s.SameWork (s.notice b) := by
  rw [State.notice_frame]
  exact .refl s

theorem complete (s : State) (tag : Tag) (st : Status) (d : Detail) : s.SameWork (s.complete tag st d) := by
  rw [State.complete_frame]
  exact .refl s

theorem completeTag (s : State) (tag : Option Tag) (st : Status) (d : Detail) : s.SameWork (s.completeTag tag st d) := by
  rw [State.completeTag_frame]
  exact .refl s

theorem abortTasks (s : State) (l : List Task) : s.SameWork (s.abortTasks l) := by
  rw [State.abortTasks_frame]
  exact .refl s

theorem settle (s : State) : s.SameWork s.settle := by
  rw [State.settle_frame]
  exact .refl s

end State.SameWork

namespace State.InOrder

variable {w : Prop} {v v' : Slot → Waiver} {s t : State}

theorem same (h : s.InOrder w v) (ht : s.SameWork t) : t.InOrder w v :=
  ⟨h.1.congr ht.rank ht.queue fun c => by rw [ht.engine], fun hw => (h.2 hw).congr ht.rank ht.queue (fun c => by rw [ht.engine]; exact ⟨rfl, rfl⟩) ht.group⟩

theorem notice (h : s.InOrder w v) (b : Notice) : (s.notice b).InOrder w v := h.same (.notice s b)

theorem complete (h : s.InOrder w v) (tag : Tag) (st : Status) (d : Detail) : (s.complete tag st d).InOrder w v := h.same (.complete s tag st d)

theorem completeTag (h : s.InOrder w v) (tag : Option Tag) (st : Status) (d : Detail) : (s.completeTag tag st d).InOrder w v :=
  h.same (.completeTag s tag st d)

theorem abortTasks (h : s.InOrder w v) (l : List Task) : (s.abortTasks l).InOrder w v := h.same (.abortTasks s l)

theorem setNego (h : s.InOrder w v) (c : Chan) (n : Negotiator) : (s.setNego c n).InOrder w v := h.same ⟨rfl, rfl, rfl, rfl⟩

theorem setMonitor (h : s.InOrder w v) (m : Monitor) : (s.setMonitor m).InOrder w v := h.same ⟨rfl, rfl, rfl, rfl⟩

theorem reach (h : s.InOrder w v) (due : Nat) : (s.reach due).InOrder w v := h.same ⟨rfl, rfl, rfl, rfl⟩

theorem weaken (h : s.InOrder w v) (hv : ∀ r, (v r).Le (v' r)) : s.InOrder w v' := ⟨h.1, fun hw => (h.2 hw).weaken hv⟩

theorem foldl {α : Type} {f : State → α → State} (l : List α) (hs : s.InOrder w v) (h : ∀ u a, u.InOrder w v → (f u a).InOrder w v) :
    (l.foldl f s).InOrder w v := by
  induction l generalizing s with
  | nil => exact hs
  | cons a l ih => exact ih (h s a hs)

/-- The docket of a rank on its channel and in its group. -/
theorem sound (h : s.InOrder w v) (hw : w) {r : Slot} {c : Chan} {g : GroupId} (hch : (s.rank r).channel = some c) (hg : (s.rank r).group = some g) :
    (s.docket c g r).Sound (v r) := (h.2 hw).sound r c g hch hg

/-- A rank's record changes, and its docket stays sound. -/
theorem setRank (h : s.InOrder w v) {r : Slot} {k : Rank} (hk : k.TimerLaw) (hch : k.channel = (s.rank r).channel) (hg : k.group = (s.rank r).group)
    (hin : (s.rank r).state ≠ .absent → (s.rank r).state ≠ .offline → k.state ≠ .absent ∧ k.state ≠ .offline)
    (hflight : ∀ c, ∀ f ∈ (s.engine c).flight, f.rank = r → (s.rank r).FlightLaw f.kind → k.FlightLaw f.kind) (hv : ∀ q, q ≠ r → (v q).Le (v' q))
    (hd : w → ∀ c g, (s.rank r).channel = some c → (s.rank r).group = some g → (s.docket c g r).Sound (v r) →
      ({ s.docket c g r with state := k.state, band := k.band, calStatus := k.calStatus } : Docket).Sound (v' r)) : (s.setRank r k).InOrder w v' := by
  refine ⟨h.1.setRank hk (fun c x hx hxr => ?_) (fun c f hf hfr => ?_), fun hw => (h.2 hw).step r (fun q hq => State.rank_setRank_ne _ _ hq) ?_ ?_
    (h.2 hw).groups (fun g e he => .inl ⟨e, he, rfl⟩) (fun q hq c g _ _ hs => ?_) fun c g hc hg' hs => ?_⟩
  · obtain ⟨hxc, habsent, hoffline⟩ := (h.1.place c).1 x hx
    rw [hxr] at hxc habsent hoffline
    exact ⟨hch.trans hxc, hin habsent hoffline⟩
  · obtain ⟨hfc, hlaw⟩ := (h.1.place c).2 f hf
    rw [hfr] at hfc hlaw
    exact ⟨hch.trans hfc, hflight c f hf hfr hlaw⟩
  · rw [State.rank_setRank_self]
    exact hch
  · rw [State.rank_setRank_self]
    exact hg
  · rw [State.docket_setRank, if_neg hq]
    exact hs.weaken (hv q hq)
  · rw [State.docket_setRank, if_pos rfl]
    exact hd hw c g hc hg' hs

/-- A rank's record changes in fields its docket does not show. -/
theorem setRank_quiet (h : s.InOrder w v) {r : Slot} {k : Rank} (hk : k.TimerLaw) (hch : k.channel = (s.rank r).channel := by rfl)
    (hg : k.group = (s.rank r).group := by rfl) (hstate : k.state = (s.rank r).state := by rfl) (hband : k.band = (s.rank r).band := by rfl)
    (hcal : k.calStatus = (s.rank r).calStatus := by rfl) 
    (hflight : ∀ c, ∀ f ∈ (s.engine c).flight, f.rank = r → (s.rank r).FlightLaw f.kind → k.FlightLaw f.kind := by exact fun _ _ _ _ => id) :
    (s.setRank r k).InOrder w v := by
  refine h.setRank hk hch hg (fun h1 h2 => by rw [hstate]; exact ⟨h1, h2⟩) hflight (fun _ _ => ⟨id, id, id⟩) fun _ c g _ _ hs => ?_
  rw [hstate, hband, hcal]
  exact hs

/-- The dockets change through one queue. -/
theorem setQueue (h : s.InOrder w v) {c : Chan} {l : Queue} (hl : ∀ x ∈ l.tasks, (∃ y ∈ (s.queue c).tasks, y.rank = x.rank) ∨
      ((s.rank x.rank).channel = some c ∧ (s.rank x.rank).state ≠ .absent ∧ (s.rank x.rank).state ≠ .offline)) (hv : ∀ q, (s.rank q).channel ≠ some c → (v q).Le (v' q))
    (hd : w → ∀ r g, (s.rank r).channel = some c → (s.rank r).group = some g → (s.docket c g r).Sound (v r) →
      ({ s.docket c g r with tasks := tasksOf l.tasks r } : Docket).Sound (v' r)) : (s.setQueue c l).InOrder w v' := by
  refine ⟨h.1.setQueue hl, fun hw => ⟨(h.2 hw).groups, (h.2 hw).home, fun r d g hch hg => ?_⟩⟩
  rw [State.docket_setQueue]
  split
  · next hd' =>
    subst hd'
    exact hd hw r g hch hg (h.sound hw hch hg)
  · next hdc =>
    refine (h.sound hw hch hg).weaken (hv r ?_)
    exact fun hc => hdc (Option.some.inj (hch.symm.trans hc))

theorem insertTask (h : s.InOrder w v) {c : Chan} {x : Task} (hch : (s.rank x.rank).channel = some c) (habsent : (s.rank x.rank).state ≠ .absent)
    (hoffline : (s.rank x.rank).state ≠ .offline) (hv : ∀ q, q ≠ x.rank → v' q = v q)
    (hd : w → ∀ g, (s.rank x.rank).group = some g → ∀ n, (s.docket c g x.rank).Sound (v x.rank) →
      ({ s.docket c g x.rank with tasks := (s.docket c g x.rank).tasks ++ [{ x with seq := n }] } : Docket).Sound (v' x.rank)) :
    (s.insertTask c x).InOrder w v' := by
  refine h.setQueue (fun y hy => ?_) (fun q hq => ?_) fun hw r g hc hg hs => ?_
  · obtain hy | hy := List.mem_append.mp hy
    · exact .inl ⟨y, hy, rfl⟩
    · rw [List.mem_singleton.mp hy]
      exact .inr ⟨hch, habsent, hoffline⟩
  · rw [hv q fun hqx => hq (by rw [hqx]; exact hch)]
    exact ⟨id, id, id⟩
  · rw [tasksOf_append, tasksOf_singleton]
    by_cases hr : x.rank = r
    · subst hr
      rw [if_pos rfl]
      exact hd hw g hg _ hs
    · rw [if_neg hr, List.append_nil, hv r fun h => hr h.symm]
      exact hs

/-- Waiting tasks leave a queue (R109, R123). -/
theorem removeTasks (h : s.InOrder w v) (c : Chan) (gone : Task → Bool) (hwaits : w → ∀ x ∈ (s.queue c).tasks, gone x = true → x.executing = false)
    (hv : ∀ q, (v q).Le (v' q))
    (hexit : w → ∀ x ∈ (s.queue c).tasks, gone x = true → x.kind = .deepExit → (v' x.rank).exit ∨ (s.engine c).resetMark = true)
    (htoken : w → ∀ x ∈ (s.queue c).tasks, gone x = true → x.kind.place = .calibration → (v' x.rank).token) : (s.removeTasks c gone).InOrder w v' := by
  refine h.setQueue (fun x hx => .inl ⟨x, List.mem_of_mem_filter hx, rfl⟩) (fun q _ => hv q) fun hw r g hch hg hs => ?_
  rw [tasksOf_filter]
  refine hs.filter (fun x hx hrun => ?_) (hv r).1 (hv r).2.1 (fun x hx hkind hgone => ?_)
    fun ht => ht.elim (hv r).2.2 fun ⟨x, hx, hplace, hgone⟩ => ?_
  · rw [Bool.not_eq_true', ← Bool.not_eq_true]
    exact fun hgone => Bool.noConfusion (hrun.symm.trans (hwaits hw x (mem_tasksOf.mp hx).1 hgone))
  · obtain ⟨hq, rfl⟩ := mem_tasksOf.mp hx
    exact hexit hw x hq (by simpa using hgone) hkind
  · obtain ⟨hq, rfl⟩ := mem_tasksOf.mp hx
    exact htoken hw x hq (by simpa using hgone) hplace

/-- Waiting tasks that are neither calibrations nor exits leave a queue. -/
theorem removeTasks_plain (h : s.InOrder w v) (c : Chan) (gone : Task → Bool) (hwaits : ∀ x ∈ (s.queue c).tasks, gone x = true → x.executing = false)
    (hplain : ∀ x ∈ (s.queue c).tasks, gone x = true → x.kind ≠ .deepExit ∧ x.kind.place ≠ .calibration) : (s.removeTasks c gone).InOrder w v :=
  h.removeTasks c gone (fun _ => hwaits) (fun _ => ⟨id, id, id⟩) (fun _ x hx hgone hkind => absurd hkind (hplain x hx hgone).1)
    fun _ x hx hgone hplace => absurd hplace (hplain x hx hgone).2

theorem mapTasks (h : s.InOrder w v) (c : Chan) {f : Task → Task} (hf : ∀ x ∈ (s.queue c).tasks, (f x).rank = x.rank ∧ (f x).kind = x.kind ∧
      (f x).executing = x.executing ∧ (f x).origin = x.origin ∧ (f x).tag = x.tag ∧
        ((f x).cls = x.cls ∨ x.kind = .refresh ∨ (x.kind = .deepExit ∧ (f x).cls = .urgent))) : (s.mapTasks c f).InOrder w v := by
  refine h.setQueue (fun y hy => ?_) (fun _ _ => ⟨id, id, id⟩) fun hw r g hch hg hs => ?_
  · obtain ⟨x, hx, rfl⟩ := List.mem_map.mp hy
    exact .inl ⟨x, hx, (hf x hx).1.symm⟩
  · rw [tasksOf_map fun x hx => (hf x hx).1]
    exact hs.map fun x hx => (hf x (mem_tasksOf.mp hx).1).2

/-- The engine changes in what no docket shows. -/
theorem setEngine (h : s.InOrder w v) {c : Chan} {e : Engine} (hflight : e.flight = (s.engine c).flight := by rfl)
    (hmark : e.resetMark = (s.engine c).resetMark := by rfl) : (s.setEngine c e).InOrder w v := by
  have hsame : ∀ d, ((s.setEngine c e).engine d).flight = (s.engine d).flight ∧ ((s.setEngine c e).engine d).resetMark = (s.engine d).resetMark := by
    intro d
    rw [State.engine_setEngine]
    split
    · next hd => rw [hd]; exact ⟨hflight, hmark⟩
    · exact ⟨rfl, rfl⟩
  exact ⟨h.1.congr (fun _ => rfl) (fun _ => rfl) fun d => (hsame d).1, fun hw => (h.2 hw).congr (fun _ => rfl) (fun _ => rfl) hsame fun _ => rfl⟩

/-- One rank's record, tasks, flight and entries change. -/
theorem step (h : s.InOrder w v) (r : Slot) (hlaw : t.RankLaw) (hranks : ∀ q, q ≠ r → t.rank q = s.rank q)
    (hchannel : (t.rank r).channel = (s.rank r).channel) (hgroup : (t.rank r).group = (s.rank r).group) (hregular : w → ∀ g, (t.group g).Regular)
    (hhome : w → ∀ g, ∀ e ∈ (t.group g).entries, (∃ e' ∈ (s.group g).entries, e'.rank = e.rank) ∨ (e.rank = r ∧ (s.rank r).group = some g))
    (hothers : w → ∀ q, q ≠ r → ∀ c g, (s.rank q).channel = some c → (s.rank q).group = some g →
      (s.docket c g q).Sound (v q) → (t.docket c g q).Sound (v' q))
    (hmine : w → ∀ c g, (s.rank r).channel = some c → (s.rank r).group = some g → (s.docket c g r).Sound (v r) → (t.docket c g r).Sound (v' r)) :
    t.InOrder w v' :=
  ⟨hlaw, fun hw => (h.2 hw).step r hranks hchannel hgroup (hregular hw) (hhome hw) (hothers hw) (hmine hw)⟩

end State.InOrder

/-! ### Grants -/

theorem RankState.ne_of_served {x : RankState} (h : x.served = true) : x ≠ .absent ∧ x ≠ .offline ∧ x ≠ .deep ∧ x ≠ .settling := by
  cases x <;> simp [RankState.served] at h ⊢

namespace Docket.Sound

variable {w : Waiver} {d : Docket}

/-- The token taken, with the entry's task still to come (R83). -/
theorem hold (h : d.Sound w) {e : Entry} (hheld : d.held = none) (hwait : d.waiting = [e]) (hdeep : ∀ x ∈ d.tasks, x.kind ≠ .deepEnter) :
    ({ d with held := some e, running := false, waiting := [] } : Docket).Sound { w with token := True } :=
  { h with
    entering := fun x hx hkind => absurd hkind (hdeep x hx)
    calibrates := fun _ _ _ => rfl
    single := Nat.le_refl 1
    entries := by
      have hentries := h.entries
      rw [hheld, hwait] at hentries
      exact hentries
    agrees := fun _ _ x hx hplace => by
      have hsome := h.calibrates x hx hplace
      rw [hheld] at hsome
      cases hsome
    holds := fun htoken => absurd (htoken trivial) Bool.noConfusion }

/-- The task of the entry that has taken the token joins the queue (R83). -/
theorem insertCal (h : d.Sound { w with token := True }) {e : Entry} (hheld : d.held = some e) (hrunning : d.running = false)
    (hnone : ∀ x ∈ d.tasks, x.kind.place ≠ .calibration) (hserved : d.state.served = true) (n : BitVec 16) :
    ({ d with tasks := d.tasks ++ [{ e.toTask with seq := n }] } : Docket).Sound w := by
  have hplace : (calTaskKind e.kind).place = .calibration := by cases e.kind <;> rfl
  have hkind : ∀ k : TaskKind, k.place ≠ .calibration → calTaskKind e.kind ≠ k := fun k hk heq => hk (heq ▸ hplace)
  have hdeep : ∀ x ∈ d.tasks, x.kind ≠ .deepEnter := fun x hx hdeep => by
    have hheld' := (h.entering x hx hdeep).2.2.2
    rw [hheld] at hheld'
    cases hheld'
  have hinsert : ({ d with tasks := d.tasks ++ [{ e.toTask with seq := n }] } : Docket).Sound { w with token := True } :=
    h.insert rfl (fun y hy hy' => hnone y hy (hy'.trans hplace)) (fun hk => absurd hk (hkind _ (by decide))) (fun hk => absurd hk (hkind _ (by decide)))
      (fun _ => hdeep) (fun y hy hk => absurd hk (hdeep y hy)) ⟨(RankState.ne_of_served hserved).2.2.2, fun hs => absurd hs (RankState.ne_of_served hserved).2.2.1⟩
      fun _ => ⟨e, hheld, rfl, rfl, rfl, hrunning⟩
  refine { hinsert with holds := fun _ e' he' => ?_ }
  exact ⟨_, List.mem_append_right _ (List.mem_singleton_self _), hplace⟩

end Docket.Sound

/-- The waivers with the token of one rank waived too. -/
def waiveToken (v : Slot → Waiver) (r : Slot) : Slot → Waiver := fun q => if q = r then { v q with token := True } else v q

theorem waiveToken_self (v : Slot → Waiver) (r : Slot) : waiveToken v r r = { v r with token := True } := if_pos rfl

theorem waiveToken_of_ne (v : Slot → Waiver) {r q : Slot} (h : q ≠ r) : waiveToken v r q = v q := if_neg h

theorem State.Works.noDeepEnter {s : State} {v : Slot → Waiver} (h : s.Works v) {r : Slot} {c : Chan} {g : GroupId}
    (hch : (s.rank r).channel = some c) (hg : (s.rank r).group = some g) (hdeep : s.deepEnterQueued r = false) :
    ∀ x ∈ (s.docket c g r).tasks, x.kind ≠ .deepEnter := by
  have hd := h.sound r c g hch hg
  have hone : s.OneInPlace c r .power := fun x hx y hy hxr hyr hxp hyp =>
    hd.eq_of_place (mem_tasksOf.mpr ⟨hx, hxr⟩) (mem_tasksOf.mpr ⟨hy, hyr⟩) (hxp.trans hyp.symm)
  intro x hx
  obtain ⟨hx, hrank⟩ := mem_tasksOf.mp hx
  exact (State.deepEnterQueued_eq_false_iff hch hone).mp hdeep x hx hrank

theorem CalGroup.Regular.heldOf_eq_none {x : CalGroup} (h : x.Regular) (hfree : x.state = .free) (r : Slot) : x.heldOf r = none := by
  rw [CalGroup.heldOf, (h.free hfree).2]
  rfl

/-- A group whose token an entry has taken (R83). -/
def CalGroup.granted (x : CalGroup) (e : Entry) (rest : List Entry) (due : Nat) : CalGroup :=
  { x with state := .held, holder := some e.rank, heldEntry := some e, waiting := rest, tokenTimer := some due }

theorem CalGroup.granted_heldOf (x : CalGroup) (e : Entry) (rest : List Entry) (due : Nat) (r : Slot) :
    (x.granted e rest due).heldOf r = if e.rank = r then some e else none := by
  by_cases h : e.rank = r <;> simp [CalGroup.heldOf, CalGroup.granted, h]

theorem CalGroup.granted_runningFor (x : CalGroup) (e : Entry) (rest : List Entry) (due : Nat) (r : Slot) :
    (x.granted e rest due).runningFor r = false := Bool.and_false _

namespace State.InOrder

variable {w : Prop} {v v' : Slot → Waiver} {s t : State}

/-- A group changes in what it holds for one rank. -/
theorem setGroup (h : s.InOrder w v) {g : GroupId} {x : CalGroup} (r : Slot) (hregular : w → x.Regular)
    (hhome : w → ∀ e ∈ x.entries, (∃ e' ∈ (s.group g).entries, e'.rank = e.rank) ∨ (e.rank = r ∧ (s.rank r).group = some g))
    (hothers : w → ∀ q, q ≠ r → x.heldOf q = (s.group g).heldOf q ∧ x.runningFor q = (s.group g).runningFor q ∧ x.waitingOf q = (s.group g).waitingOf q)
    (hv : w → ∀ q, (s.rank q).group ≠ some g ∨ q ≠ r → (v q).Le (v' q))
    (hmine : w → ∀ c, (s.rank r).channel = some c → (s.rank r).group = some g → (s.docket c g r).Sound (v r) →
      ({ s.docket c g r with held := x.heldOf r, running := x.runningFor r, waiting := x.waitingOf r } : Docket).Sound (v' r)) :
    (s.setGroup g x).InOrder w v' := by
  refine h.step r (h.1.congr (fun _ => rfl) (fun _ => rfl) fun _ => rfl) (fun _ _ => rfl) rfl rfl (fun hw g' => ?_) (fun hw g' e he => ?_)
    (fun hw q hq c g' hch hg' hs => ?_) fun hw c g' hch hg' hs => ?_
  · rw [State.group_setGroup]
    split
    · exact hregular hw
    · exact (h.2 hw).groups g'
  · rw [State.group_setGroup] at he
    split at he
    · next hg' =>
      rw [hg']
      exact hhome hw e he
    · exact .inl ⟨e, he, rfl⟩
  · rw [State.docket_setGroup]
    split
    · next hgg =>
      obtain ⟨hheld, hrunning, hwaiting⟩ := hothers hw q hq
      rw [hheld, hrunning, hwaiting]
      rw [hgg] at hs
      exact hs.weaken (hv hw q (.inr hq))
    · exact hs.weaken (hv hw q (.inr hq))
  · rw [State.docket_setGroup]
    split
    · next hgg =>
      rw [hgg] at hg' hs
      exact hmine hw c hch hg' hs
    · next hgg => exact hs.weaken (hv hw r (.inl fun hg => hgg (Option.some.inj (hg'.symm.trans hg))))

/-- The token taken by the first entry that can use it, whose task is still to come (R83). -/
theorem holdToken (h : s.InOrder w v) {g : GroupId} {e : Entry} {c : Chan} {before after : List Entry} (hfree : (s.group g).state = .free)
    (hch : (s.rank e.rank).channel = some c) (hdeep : s.deepEnterQueued e.rank = false) (hwait : (s.group g).waiting = before ++ e :: after) (due : Nat) :
    (s.setGroup g ((s.group g).granted e (before ++ after) due)).InOrder w (waiveToken v e.rank) := by
  have hmem : e ∈ (s.group g).waiting := by rw [hwait]; simp
  refine h.setGroup e.rank (fun hw => ?_) (fun hw x hx => .inl ⟨x, ?_, rfl⟩) (fun hw q hq => ⟨?_, ?_, ?_⟩) (fun _ q hq => ?_) fun hw c' hc hg hs => ?_
  · refine ⟨fun hs => GroupState.noConfusion hs, by simp [CalGroup.granted], fun hdiscard => ?_, fun _ => ⟨e, rfl, rfl⟩⟩
    have hcal := ((h.2 hw).groups g).discard hdiscard
    rw [hfree] at hcal
    cases hcal
  · simp only [CalGroup.granted, CalGroup.entries, Option.toList_some, List.cons_append, List.nil_append, List.mem_cons, List.mem_append] at hx
    simp only [CalGroup.entries, hwait, List.mem_append, List.mem_cons]
    obtain rfl | hx | hx := hx
    · exact .inr (.inr (.inl rfl))
    · exact .inr (.inl hx)
    · exact .inr (.inr (.inr hx))
  · rw [((h.2 hw).groups g).heldOf_eq_none hfree q, CalGroup.granted_heldOf, if_neg (Ne.symm hq)]
  · rw [CalGroup.granted_runningFor, CalGroup.runningFor, hfree]
    exact (Bool.and_false _).symm
  · simp [CalGroup.waitingOf, CalGroup.granted, hwait, List.filter_append, Ne.symm hq]
  · by_cases hqe : q = e.rank
    · rw [hqe, waiveToken_self]
      exact ⟨id, id, fun _ => trivial⟩
    · rw [waiveToken_of_ne v hqe]
      exact ⟨id, id, id⟩
  · have hlisted : e ∈ (s.docket c' g e.rank).waiting := CalGroup.mem_waitingOf.mpr ⟨hmem, rfl⟩
    have hheld : (s.docket c' g e.rank).held = none := ((h.2 hw).groups g).heldOf_eq_none hfree e.rank
    have hone := hs.single
    rw [hheld, Option.toList_none, List.nil_append] at hone
    have hwaiting : (s.docket c' g e.rank).waiting = [e] := by
      obtain ⟨e', he'⟩ := List.length_eq_one_iff.mp (Nat.le_antisymm hone (List.length_pos_of_mem hlisted))
      rw [he'] at hlisted ⊢
      rw [List.mem_singleton.mp hlisted]
    have hrest : ((s.group g).granted e (before ++ after) due).waitingOf e.rank = [] := by
      have hlength := congrArg List.length (show (s.group g).waiting.filter (fun x => x.rank == e.rank) = [e] from hwaiting)
      rw [hwait, List.filter_append, List.filter_cons_of_pos (by simp)] at hlength
      simp only [List.length_append, List.length_cons, List.length_nil] at hlength
      rw [CalGroup.waitingOf, ← List.length_eq_zero_iff]
      simp only [CalGroup.granted, List.filter_append, List.length_append]
      omega
    rw [waiveToken_self, CalGroup.granted_heldOf, if_pos rfl, CalGroup.granted_runningFor, hrest]
    exact hs.hold hheld hwaiting ((h.2 hw).noDeepEnter hc hg hdeep)

theorem scanGroup (h : s.InOrder w v) (g : GroupId) : (s.scanGroup g).InOrder w v := by
  by_cases hfree : (s.group g).state = .free
  · cases hfind : (s.group g).waiting.find? s.eligible with
    | none => rw [State.scanGroup_of_none s g hfind]; exact h
    | some e =>
      obtain ⟨he, before, after, hwait, hbefore⟩ := List.find?_eq_some_iff_append.mp hfind
      have hbefore : ∀ x ∈ before, s.eligible x = false := fun x hx => by simpa using hbefore x hx
      obtain ⟨c, hch⟩ : ∃ c, (s.rank e.rank).channel = some c := Option.ne_none_iff_exists'.mp fun hch => by simp [State.eligible, hch] at he
      obtain ⟨hstate, hdeep, -, -⟩ := (State.eligible_iff hch).mp he
      have hserved : (s.rank e.rank).state.served = true := RankState.served_iff.mpr (hstate.imp_right fun hs => hs.imp_right And.left)
      have hmem : e ∈ (s.group g).waiting := by rw [hwait]; simp
      rw [State.scanGroup_of_some s g e hfree hfind, State.grant_of_first hwait hbefore he hch]
      refine InOrder.insertTask (x := e.toTask) (h.holdToken hfree hch hdeep hwait (s.now + s.timing.tokenHold)) hch (RankState.ne_of_served hserved).1
        (RankState.ne_of_served hserved).2.1 (fun q hq => (waiveToken_of_ne v hq).symm) fun hw g' hg' n hs => ?_
      obtain rfl : g' = g := Option.some.inj (hg'.symm.trans ((h.2 hw).home g e (List.mem_append_right _ hmem)))
      rw [show waiveToken v e.rank e.toTask.rank = { v e.rank with token := True } from waiveToken_self v e.rank] at hs
      rw [State.docket_setGroup, if_pos rfl] at hs ⊢
      have hheldNow : ((s.group g').granted e (before ++ after) (s.now + s.timing.tokenHold)).heldOf e.rank = some e :=
        CalGroup.heldOf_eq_some.mpr ⟨rfl, rfl⟩
      refine hs.insertCal (e := e) hheldNow (CalGroup.granted_runningFor ..) (fun x hx hplace => ?_) hserved n
      have hheld : ((s.group g').heldOf e.rank).isSome = true := (h.sound hw hch hg').calibrates x hx hplace
      rw [((h.2 hw).groups g').heldOf_eq_none hfree e.rank] at hheld
      cases hheld
  · rw [State.scanGroup_of_taken s g hfree]
    exact h

theorem scanAll (h : s.InOrder w v) : s.scanAll.InOrder w v := foldl allGroups h fun _ g hu => hu.scanGroup g

theorem scanRank (h : s.InOrder w v) (r : Slot) : (s.scanRank r).InOrder w v := by
  unfold State.scanRank
  split
  · exact h
  · exact h.scanGroup _

end State.InOrder

/-! ### Requests -/

namespace Docket.Sound

variable {w : Waiver} {d : Docket}

/-- An entry joins the list of a rank that has none (R73). -/
theorem join (h : d.Sound w) {e : Entry} (hheld : d.held = none) (hstate : d.state ≠ .offline) (hrevocations : e.revocations ≤ 2)
    (hkind : d.calStatus = .never → e.kind = .long) : ({ d with waiting := [e] } : Docket).Sound w :=
  { h with
    single := by
      show (d.held.toList ++ [e]).length ≤ 1
      rw [hheld]
      exact Nat.le_refl 1
    entries := by
      show ∀ e' ∈ d.held.toList ++ [e], _
      rw [hheld]
      exact fun e' he' => by rw [List.mem_singleton.mp he']; exact ⟨hstate, hrevocations, hkind⟩ }

/-- The waiting entry of a rank changes, its kind never lowered (R76). -/
theorem mergeWaiting (h : d.Sound w) {f : Entry → Entry} (hf : ∀ e ∈ d.waiting, (f e).revocations = e.revocations ∧ (e.kind = .long → (f e).kind = .long)) :
    ({ d with waiting := d.waiting.map f } : Docket).Sound w :=
  { h with
    single := by
      show (d.held.toList ++ d.waiting.map f).length ≤ 1
      rw [List.length_append, List.length_map, ← List.length_append]
      exact h.single
    entries := fun e he => by
      obtain he | he := List.mem_append.mp he
      · exact h.entries e (List.mem_append_left _ he)
      · obtain ⟨e', he', rfl⟩ := List.mem_map.mp he
        obtain ⟨hstate, hrevocations, hlong⟩ := h.entries e' (List.mem_append_right _ he')
        exact ⟨hstate, by rw [(hf e' he').1]; exact hrevocations, fun hnever => (hf e' he').2 (hlong hnever)⟩ }

/-- The held entry and its waiting task change together (R77). -/
theorem mergeHeld (h : d.Sound w) {e e1 : Entry} (he : d.held = some e) (hrunning : d.running = false)
    (hrevocations : e1.revocations = e.revocations) (hlong : e.kind = .long → e1.kind = .long) {f : Task → Task} {o : TaskOrigin}
    (hcal : ∀ x ∈ d.tasks, x.kind.place = .calibration → f x = { x with kind := calTaskKind e1.kind, tag := e1.tag, origin := o })
    (hplain : ∀ x ∈ d.tasks, x.kind.place ≠ .calibration → f x = x) : ({ d with held := some e1, tasks := d.tasks.map f } : Docket).Sound w := by
  have hplace : (calTaskKind e1.kind).place = .calibration := by cases e1.kind <;> rfl
  have hsame : ∀ x ∈ d.tasks, (f x).kind.place = x.kind.place := fun x hx => by
    by_cases hx' : x.kind.place = .calibration
    · rw [hcal x hx hx', hx']
      exact hplace
    · rw [hplain x hx hx']
  have hpower : ∀ x ∈ d.tasks, (f x).kind.place ≠ .calibration → f x = x := fun x hx hx' => hplain x hx (by rw [← hsame x hx]; exact hx')
  have hdeep : ∀ x ∈ d.tasks, x.kind ≠ .deepEnter := fun x hx hdeep => by
    have hheld := (h.entering x hx hdeep).2.2.2
    rw [he] at hheld
    cases hheld
  have hexecuting : ∀ x ∈ d.tasks, (f x).executing = x.executing := fun x hx => by
    by_cases hx' : x.kind.place = .calibration
    · rw [hcal x hx hx']
    · rw [hplain x hx hx']
  have hwaits : ∀ x ∈ d.tasks, x.executing = true → f x = x := fun x hx hrun => by
    refine hplain x hx fun hx' => ?_
    have hruns := (h.agrees e he x hx hx').2.2.2.mp hrun
    rw [hrunning] at hruns
    cases hruns
  refine ⟨?_, List.forall_mem_map.mpr fun x hx hkind => ?_, List.forall_mem_map.mpr fun x hx hkind => ?_, List.forall_mem_map.mpr fun x hx hkind => ?_,
    List.forall_mem_map.mpr fun x hx => ⟨(h.fits x hx).1, fun hdeep' => ?_⟩, List.forall_mem_map.mpr fun x hx hrun => ?_, fun k hk => ?_, fun _ _ _ => rfl,
    fun e' he' => List.forall_mem_map.mpr fun x hx hplace' => ?_, ?_,
    fun e' he' => ?_, fun _ => List.forall_mem_map.mpr fun x hx hkind => ?_, fun hband hexit hdeep' hhot hmark => ?_, fun htoken e' he' => ?_⟩
  · refine List.pairwise_map.mpr (h.places.imp_of_mem fun {x y} hx hy hne => ?_)
    rw [hsame x hx, hsame y hy]
    exact hne
  · have hx' := hpower x hx (by rw [hkind]; decide)
    rw [hx'] at hkind ⊢
    exact h.leaving x hx hkind
  · rw [hpower x hx (by rw [hkind]; decide)] at hkind
    exact absurd hkind (hdeep x hx)
  · rw [hpower x hx (by rw [hkind]; decide)] at hkind
    exact absurd hkind (hdeep x hx)
  · have hkind := (h.fits x hx).2 hdeep'
    rw [hplain x hx (by rw [hkind]; decide)]
    exact hkind
  · rw [hexecuting x hx] at hrun
    rw [hwaits x hx hrun]
    exact h.runs x hx hrun
  · refine (h.flies k hk).imp_right fun ⟨x, hx, hrun, hkind⟩ => ⟨f x, List.mem_map_of_mem hx, ?_⟩
    rw [hwaits x hx hrun]
    exact ⟨hrun, hkind⟩
  · obtain rfl := Option.some.inj he'
    have hx' : x.kind.place = .calibration := by rw [← hsame x hx]; exact hplace'
    obtain ⟨-, hcls, -, hrun⟩ := h.agrees e he x hx hx'
    rw [hcal x hx hx']
    exact ⟨rfl, hcls, rfl, hrun⟩
  · have hsingle := h.single
    rw [he] at hsingle
    exact hsingle
  · obtain he' | he' := List.mem_append.mp he'
    · obtain rfl := List.mem_singleton.mp he'
      obtain ⟨hstate, hrev, hnever⟩ := h.entries e (List.mem_append_left _ (by rw [he]; simp))
      exact ⟨hstate, by rw [hrevocations]; exact hrev, fun hn => hlong (hnever hn)⟩
    · exact h.entries e' (List.mem_append_right _ he')
  · rw [hpower x hx (by rw [hkind]; decide)] at hkind
    exact absurd hkind (hdeep x hx)
  · obtain ⟨x, hx, hkind, hout⟩ := h.exits hband hexit hdeep' hhot hmark
    refine ⟨f x, List.mem_map_of_mem hx, ?_⟩
    rw [hplain x hx (by rw [hkind]; decide)]
    exact ⟨hkind, hout⟩
  · obtain ⟨x, hx, hx'⟩ := h.holds (fun ht => htoken ht) e he
    exact ⟨f x, List.mem_map_of_mem hx, by rw [hsame x hx]; exact hx'⟩

end Docket.Sound

theorem Entry.merge_keeps (e : Entry) (kind : CalKind) (origin : CalOrigin) (tag : Option Tag) : (e.merge kind origin tag).rank = e.rank ∧
    (e.merge kind origin tag).revocations = e.revocations ∧ (e.kind = .long → (e.merge kind origin tag).kind = .long) := by
  unfold Entry.merge
  simp only
  split <;> exact ⟨rfl, rfl, fun hlong => by simp only [hlong]; rfl⟩

/-- A task as a merge with the entry that holds its rank's token leaves it (R77). -/
def Entry.mergedInto (e : Entry) (r : Slot) (x : Task) : Task :=
  if x.rank = r ∧ x.kind.place = .calibration then { x with kind := calTaskKind e.kind, tag := e.tag, origin := e.origin.task } else x

theorem Entry.mergedInto_rank (e : Entry) (r : Slot) (x : Task) : (e.mergedInto r x).rank = x.rank := by
  unfold Entry.mergedInto
  split <;> rfl

namespace State.InOrder

variable {w : Prop} {v : Slot → Waiver} {s : State}

/-- An entry of a rank that has none joins its group's list, at one end or the other (R73, R88). -/
theorem join (h : s.InOrder w v) {g : GroupId} {e : Entry} {l : List Entry} (hl : l = (s.group g).waiting ++ [e] ∨ l = e :: (s.group g).waiting)
    (hentry : w → (s.rank e.rank).group = some g ∧ (s.group g).heldOf e.rank = none ∧ (s.group g).waitingOf e.rank = [] ∧
      (s.rank e.rank).state ≠ .offline ∧ e.revocations ≤ 2 ∧ ((s.rank e.rank).calStatus = .never → e.kind = .long)) :
    (s.setGroup g { s.group g with waiting := l }).InOrder w v := by
  have hmem : ∀ x, x ∈ l → x ∈ (s.group g).waiting ∨ x = e := by
    rcases hl with rfl | rfl <;> simp [or_comm]
  refine h.setGroup e.rank (fun hw => ?_) (fun hw x hx => ?_) (fun hw q hq => ⟨rfl, rfl, ?_⟩) (fun _ _ _ => ⟨id, id, id⟩) fun hw c hc hg' hs => ?_
  · obtain ⟨hfree, htimer, hdiscard, hheld⟩ := (h.2 hw).groups g
    exact ⟨hfree, htimer, hdiscard, hheld⟩
  · obtain hx | hx := List.mem_append.mp hx
    · exact .inl ⟨x, List.mem_append_left _ hx, rfl⟩
    · exact (hmem x hx).imp (fun hx => ⟨x, List.mem_append_right _ hx, rfl⟩) fun hx => ⟨congrArg Entry.rank hx, (hentry hw).1⟩
  · unfold CalGroup.waitingOf
    rcases hl with rfl | rfl
    · simp [Ne.symm hq]
    · simp [Ne.symm hq]
  · obtain ⟨-, hheld, hwaiting, hstate, hrevocations, hkind⟩ := hentry hw
    have hnow : l.filter (fun x => x.rank == e.rank) = [e] := by
      rw [CalGroup.waitingOf] at hwaiting
      rcases hl with rfl | rfl
      · rw [List.filter_append, hwaiting]
        simp
      · rw [List.filter_cons_of_pos (by simp), hwaiting]
    show Docket.Sound (v e.rank) { s.docket c g e.rank with waiting := l.filter (fun x => x.rank == e.rank) }
    rw [hnow]
    exact hs.join hheld hstate hrevocations hkind

theorem mergeWaiting (h : s.InOrder w v) (g : GroupId) (r : Slot) (kind : CalKind) (origin : CalOrigin) (tag : Option Tag) :
    (s.mergeWaiting g r kind origin tag).InOrder w v := by
  have hrank : ∀ e : Entry, (if e.rank = r then e.merge kind origin tag else e).rank = e.rank := fun e => by
    split
    · exact (e.merge_keeps kind origin tag).1
    · rfl
  refine h.setGroup r (fun hw => ?_) (fun hw x hx => .inl ?_) (fun hw q hq => ⟨rfl, rfl, ?_⟩) (fun _ _ _ => ⟨id, id, id⟩) fun hw c hc hg hs => ?_
  · obtain ⟨hfree, htimer, hdiscard, hheld⟩ := (h.2 hw).groups g
    exact ⟨hfree, htimer, hdiscard, hheld⟩
  · obtain hx | hx := List.mem_append.mp hx
    · exact ⟨x, List.mem_append_left _ hx, rfl⟩
    · obtain ⟨e, he, rfl⟩ := List.mem_map.mp hx
      exact ⟨e, List.mem_append_right _ he, (hrank e).symm⟩
  · simp only [CalGroup.waitingOf, List.filter_map, Function.comp_def, hrank]
    refine (List.map_congr_left (g := id) fun e he => ?_).trans (List.map_id _)
    rw [if_neg fun her => hq ((beq_iff_eq.mp (List.mem_filter.mp he).2).symm.trans her)]
    rfl
  · have hnow : ∀ x : CalGroup, ({ x with waiting := x.waiting.map (fun e => if e.rank = r then e.merge kind origin tag else e) } : CalGroup).waitingOf r =
        (x.waitingOf r).map (fun e => if e.rank = r then e.merge kind origin tag else e) := fun x => by
      simp only [CalGroup.waitingOf, List.filter_map, Function.comp_def, hrank]
    rw [hnow]
    refine hs.mergeWaiting fun e _ => ?_
    split
    · exact (e.merge_keeps kind origin tag).2
    · exact ⟨rfl, id⟩

/-- The held entry and its waiting task replaced together (R77). -/
theorem setHeld (h : s.InOrder w v) {g : GroupId} {r : Slot} {c : Chan} {e e1 : Entry} (hheld : (s.group g).state = .held)
    (he : (s.group g).heldEntry = some e) (hch : (s.rank r).channel = some c) (hr : w → e.rank = r) (hrank : e1.rank = e.rank)
    (hrevocations : e1.revocations = e.revocations) (hlong : e.kind = .long → e1.kind = .long) :
    ((s.setGroup g { s.group g with heldEntry := some e1 }).setQueue c { s.queue c with
      tasks := (s.queue c).tasks.map (e1.mergedInto r) }).InOrder w v := by
  have hlaw : (s.setGroup g { s.group g with heldEntry := some e1 }).RankLaw := h.1.congr (fun _ => rfl) (fun _ => rfl) fun _ => rfl
  have hentry : ∀ q, q ≠ r → w → e.rank ≠ q := fun q hq hw her => hq (her.symm.trans (hr hw))
  refine h.step r (hlaw.setQueue fun y hy => .inl ?_) (fun _ _ => rfl) rfl rfl (fun hw g' => ?_) (fun hw g' x hx => .inl ?_)
    (fun hw q hq d g' hd hg' hs => ?_) fun hw d g' hd hg' hs => ?_
  · obtain ⟨x, hx, rfl⟩ := List.mem_map.mp hy
    exact ⟨x, hx, (e1.mergedInto_rank r x).symm⟩
  · rw [State.group_of_setQueue, State.group_setGroup]
    split
    · obtain ⟨-, htimer, hdiscard, -⟩ := (h.2 hw).groups g
      exact ⟨fun hs => absurd (hheld.symm.trans hs) (by decide), htimer, hdiscard, fun _ =>
        ⟨e1, rfl, (((h.2 hw).groups g).holder_of_entry he).2.trans (congrArg some hrank.symm)⟩⟩
    · exact (h.2 hw).groups g'
  · rw [State.group_of_setQueue, State.group_setGroup] at hx
    split at hx
    · next hgg =>
      rw [hgg]
      obtain hx | hx := List.mem_cons.mp hx
      · exact ⟨e, by simp [CalGroup.entries, he], by rw [hx]; exact hrank.symm⟩
      · exact ⟨x, List.mem_append_right _ hx, rfl⟩
    · exact ⟨x, hx, rfl⟩
  · rw [State.docket_congr (t := (s.setGroup g { s.group g with heldEntry := some e1 }).setQueue c _) (s := s) rfl ?_ rfl rfl ?_ ?_ ?_]
    · exact hs
    · rw [State.queue_setQueue]
      split
      · next hdc =>
        rw [hdc]
        exact tasksOf_map_of_others (fun x _ => e1.mergedInto_rank r x) fun x _ hx => if_neg fun hxr => hq (hx.symm.trans hxr.1)
      · rfl
    all_goals
      rw [State.group_of_setQueue, State.group_setGroup]
      split
      · next hgg => simp [hgg, CalGroup.heldOf, CalGroup.runningFor, CalGroup.waitingOf, he, hrank, Option.filter_some, hentry q hq hw]
      · rfl
  · obtain rfl := Option.some.inj (hd.symm.trans hch)
    have her := hr hw
    have hgg : g' = g := by
      rw [← her] at hg'
      exact Option.some.inj (hg'.symm.trans ((h.2 hw).home g e (by simp [CalGroup.entries, he])))
    subst hgg
    have hheldOf : ((s.group g').heldOf r) = some e := CalGroup.heldOf_eq_some.mpr ⟨he, her⟩
    have hrunning : (s.group g').runningFor r = false := by simp [CalGroup.runningFor, hheld]
    have hnow : ({ s.group g' with heldEntry := some e1 } : CalGroup).heldOf r = some e1 := CalGroup.heldOf_eq_some.mpr ⟨rfl, hrank.trans her⟩
    have hrunning' : ({ s.group g' with heldEntry := some e1 } : CalGroup).runningFor r = false := by simp [CalGroup.runningFor, hheld]
    rw [State.docket_setQueue, if_pos rfl, State.docket_setGroup, if_pos rfl, hnow, hrunning', tasksOf_map fun x _ => e1.mergedInto_rank r x]
    have hmerged := hs.mergeHeld (f := e1.mergedInto r) (show (s.docket d g' r).held = some e from hheldOf) hrunning hrevocations hlong
      (fun x hx hplace => if_pos ⟨(mem_tasksOf.mp hx).2, hplace⟩) fun x hx hplace => if_neg fun hx => hplace hx.2
    rw [show (s.docket d g' r).running = false from hrunning] at hmerged
    exact hmerged

theorem mergeHeld (h : s.InOrder w v) {g : GroupId} {r : Slot} (hholder : (s.group g).holder = some r)
    (hheld : (s.group g).state = .held) (kind : CalKind) (origin : CalOrigin) (tag : Option Tag) : (s.mergeHeld g r kind origin tag).InOrder w v := by
  unfold State.mergeHeld
  cases he : (s.group g).heldEntry with
  | none => exact h
  | some e =>
    obtain ⟨hrank, hrevocations, hlong⟩ := e.merge_keeps kind origin tag
    have hr : w → e.rank = r := fun hw => Option.some.inj ((((h.2 hw).groups g).holder_of_entry he).2.symm.trans hholder)
    cases hch : (s.rank r).channel with
    | none =>
      refine ⟨h.1.congr (fun _ => rfl) (fun _ => rfl) fun _ => rfl, fun hw => ?_⟩
      obtain ⟨c, hc⟩ := h.1.channel_of_group ((h.2 hw).home g e (by simp [CalGroup.entries, he]))
      rw [hr hw, hch] at hc
      cases hc
    | some c => exact h.setHeld hheld he hch hr hrank hrevocations hlong

/-- A request of a rank the M82 serves (R75 to R78). -/
theorem requestIn (h : s.InOrder w v) {g : GroupId} {r : Slot} (hg : (s.rank r).group = some g)
    (hserved : (s.rank r).state.served = true) (kind : CalKind) (origin : CalOrigin) (tag : Option Tag) :
    (s.requestIn g r kind origin tag).InOrder w v := by
  unfold State.requestIn
  simp only
  split
  · next hholder =>
    split
    · next hheld => exact h.mergeHeld hholder hheld _ origin tag
    · exact h
    · exact h
  · next hholder =>
    split
    · split
      · exact (h.mergeWaiting g r _ origin tag).scanGroup g
      · exact h.mergeWaiting g r _ origin tag
    · next hwaiting =>
      refine InOrder.scanGroup (h.join (e := { rank := r, kind := _, origin := origin, tag := tag, revocations := 0 }) (.inl rfl) fun hw =>
        ⟨hg, ?_, ?_, (RankState.ne_of_served hserved).2.1, Nat.zero_le 2, fun hnever => if_pos (.inl hnever)⟩) g
      · refine Option.eq_none_iff_forall_ne_some.mpr fun e he => hholder ?_
        obtain ⟨he, her⟩ := CalGroup.heldOf_eq_some.mp he
        rw [(((h.2 hw).groups g).holder_of_entry he).2, her]
      · refine List.filter_eq_nil_iff.mpr fun e he her => hwaiting (List.any_eq_true.mpr ⟨e, he, her⟩)

theorem request (h : s.InOrder w v) {r : Slot} (hserved : (s.rank r).state.served = true) (kind : CalKind) (origin : CalOrigin)
    (tag : Option Tag) : (s.request r kind origin tag).InOrder w v := by
  unfold State.request
  split
  · exact h
  · next hg => exact h.requestIn hg hserved kind origin tag

theorem internalRequest (h : s.InOrder w v) (r : Slot) (kind : CalKind) (origin : CalOrigin) :
    (s.internalRequest r kind origin).InOrder w v := by
  unfold State.internalRequest
  split
  · next hserved => exact h.request hserved kind origin none
  · exact h

theorem driftCheck (h : s.InOrder w v) (r : Slot) (t : Temp) : (s.driftCheck r t).InOrder w v := by
  unfold State.driftCheck
  simp only
  split
  · exact h
  · split
    · exact h.internalRequest r .short .drift
    · exact h

end State.InOrder

/-! ### The planner -/

theorem State.RankLaw.interval_of_flight {s : State} (h : s.RankLaw) {r : Slot} (hrunning : (s.rank r).interval.isSome = true) :
    (s.rank r).state.served = true ∧ ∀ c, ∀ f ∈ (s.engine c).flight, f.rank = r → f.kind ≠ .task .deepEnter := by
  refine ⟨(h.1 r).1 hrunning, fun c f hf hr hkind => ?_⟩
  obtain ⟨-, -, hstopped⟩ := (h.place c).2 f hf
  rw [hr] at hstopped
  rw [(hstopped hkind).1] at hrunning
  cases hrunning

namespace State.InOrder

variable {w : Prop} {v v' : Slot → Waiver} {s t : State}

theorem setRefreshClass (h : s.InOrder w v) (r : Slot) : (s.setRefreshClass r).InOrder w v := by
  unfold State.setRefreshClass
  split
  · exact h
  · next c _ =>
    refine h.mapTasks c fun x _ => ?_
    split
    · next hx => exact ⟨rfl, rfl, rfl, rfl, rfl, .inr (.inl hx.2)⟩
    · exact ⟨rfl, rfl, rfl, rfl, rfl, .inl rfl⟩

theorem reevaluate (h : s.InOrder w v) (r : Slot) : (s.reevaluate r).InOrder w v := by
  unfold State.reevaluate
  simp only
  split
  · refine InOrder.setRefreshClass ?_ r
    split
    · exact (h.setRank_quiet (by exact h.1.1 r)).notice _
    · exact h.setRank_quiet (by exact h.1.1 r)
  · exact h

theorem writeBalance (h : s.InOrder w v) (r : Slot) (b : Int) : (s.writeBalance r b).InOrder w v :=
  (h.setRank_quiet (by exact h.1.1 r)).reevaluate r

theorem debit (h : s.InOrder w v) (r : Slot) : (s.debit r).InOrder w v := by
  unfold State.debit
  simp only
  split
  · exact (h.setRank_quiet (by exact h.1.1 r)).notice _
  · exact h.setRank_quiet (by exact h.1.1 r)

theorem withdrawRefresh (h : s.InOrder w v) (r : Slot) : (s.withdrawRefresh r).InOrder w v := by
  unfold State.withdrawRefresh
  split
  · exact h
  · next c _ =>
    refine h.removeTasks_plain c _ (fun x _ hx => ?_) fun x _ hx => ?_
    · simp only [Bool.and_eq_true, Bool.not_eq_true'] at hx
      exact hx.2
    · simp only [Bool.and_eq_true, beq_iff_eq] at hx
      rw [hx.1.2]
      decide

theorem creditAhead (h : s.InOrder w v) (r : Slot) (n : Nat) : (s.creditAhead r n).InOrder w v := by
  unfold State.creditAhead
  simp only
  split
  · exact (h.writeBalance r _).withdrawRefresh r
  · exact h.writeBalance r _

/-- An interval set running for a rank that is served and has no DEEP_ENTER in flight (R24, R102). -/
theorem setInterval (h : s.InOrder w v) {r : Slot} (hserved : (s.rank r).state.served = true)
    (hflight : ∀ c, ∀ f ∈ (s.engine c).flight, f.rank = r → f.kind ≠ .task .deepEnter) (it : Interval) :
    (s.setRank r { s.rank r with interval := some it }).InOrder w v := by
  obtain ⟨-, hsettle, hperiodic, hchannel, hgroup⟩ := h.1.1 r
  exact h.setRank_quiet ⟨fun _ => hserved, hsettle, hperiodic, hchannel, hgroup⟩
    (hflight := fun c f hf hr hlaw => ⟨hlaw.1, fun hkind => absurd hkind (hflight c f hf hr)⟩)

theorem ensureRefresh (h : s.InOrder w v) {r : Slot} (hserved : (s.rank r).state.served = true)
    (hflight : w → ∀ c, ∀ f ∈ (s.engine c).flight, f.rank = r → f.kind ≠ .task .deepEnter) : (s.ensureRefresh r).InOrder w v := by
  have hne := RankState.ne_of_served hserved
  unfold State.ensureRefresh
  split
  · cases htask : s.taskAt r .refresh with
    | some x => exact h.setRefreshClass r
    | none =>
      cases hch : (s.rank r).channel with
      | none => exact h
      | some c =>
        simp only
        split
        · exact h
        · unfold State.createRefresh
          simp only [hch]
          refine h.insertTask hch hne.1 hne.2.1 (fun _ _ => rfl) fun hw g hg n hs => ?_
          refine hs.insert rfl (fun y hy hplace => ?_) (fun hk => nomatch hk) (fun hk => nomatch hk) (fun hk => absurd rfl hk) (fun y hy hdeep => ?_)
            ⟨hne.2.2.2, fun hdeep => absurd hdeep hne.2.2.1⟩ fun hplace => nomatch hplace
          · obtain ⟨hy, hyr⟩ := mem_tasksOf.mp hy
            have hsome : (s.taskAt r .refresh).isSome = true := (State.taskAt_isSome_iff hch).mpr ⟨y, hy, hyr, hplace⟩
            rw [htask] at hsome
            cases hsome
          · by_contra hrun
            obtain ⟨f, hf, hfr, hfk⟩ := Engine.flightOf_eq_some.mp (hs.runs y hy (by simpa using hrun))
            exact hflight hw c f hf hfr (hfk.trans (congrArg FlightKind.task hdeep))
  · exact h

theorem takeInterval (h : s.InOrder w v) {r : Slot} (hrunning : (s.rank r).interval.isSome = true) : (s.takeInterval r).InOrder w v := by
  obtain ⟨hserved, hflight⟩ := h.1.interval_of_flight hrunning
  have hdebit := s.debit_planned r
  have hrestarted : (s.debit r).Planned r ((s.debit r).startInterval r) := .setRank _ rfl
  have hplanned := hdebit.trans (hrestarted.trans (State.reevaluate_planned _ r))
  have hengine : ∀ {u : State}, s.Planned r u → ∀ c, u.engine c = s.engine c := fun hu c => by rw [hu.frame]; rfl
  have hstate : ∀ {u : State}, s.Planned r u → (u.rank r).state = (s.rank r).state := fun hu => by rw [hu.rank]
  have hstarted : ((s.debit r).startInterval r).InOrder w v := (h.debit r).setInterval (r := r) (by rw [hstate hdebit]; exact hserved) (fun c => by rw [hengine hdebit]; exact hflight c)
    { started := (s.debit r).now, full := intervalLength (s.debit r).timing ((s.debit r).rank r).band
      length := intervalLength (s.debit r).timing ((s.debit r).rank r).band }
  exact (hstarted.reevaluate r).ensureRefresh ((congrArg RankState.served (hstate hplanned)).trans hserved)
    fun _ c f hf => hflight c f (by rw [← hengine hplanned c]; exact hf)

theorem bandToPlanner (h : s.InOrder w v) (r : Slot) (old new : Band) : (s.bandToPlanner r old new).InOrder w v := by
  obtain hsame | ⟨it, hit, -, -, ⟨-, htaken⟩ | ⟨-, hcut⟩⟩ := s.bandToPlanner_cases r old new
  · rw [hsame]
    exact h
  · rw [htaken]
    exact h.takeInterval (by rw [hit]; rfl)
  · obtain ⟨hserved, hflight⟩ := h.1.interval_of_flight (r := r) (by rw [hit]; rfl)
    rw [hcut]
    exact h.setInterval hserved hflight _

/-! ### Bands -/

/-- Another waiver for one rank. -/
theorem rewaive (h : s.InOrder w v') (r : Slot) (hv : ∀ q, q ≠ r → (v' q).Le (v q))
    (hr : w → ∀ c g, (s.rank r).channel = some c → (s.rank r).group = some g → (s.docket c g r).Sound (v' r) → (s.docket c g r).Sound (v r)) :
    s.InOrder w v :=
  h.step r h.1 (fun _ _ => rfl) rfl rfl (fun hw => (h.2 hw).groups) (fun _ _ e he => .inl ⟨e, he, rfl⟩)
    (fun _ q hq _ _ _ _ hs => hs.weaken (hv q hq)) hr

end State.InOrder

/-- A rank in DEEP is in order but for its exit (R107). -/
theorem Docket.Sound.comesOut {w w' : Waiver} {d : Docket} (h : d.Sound w') (hdeep : d.state = .deep) (htoken : w'.token → w.token)
    (hexit : d.band = 3 → d.resetting = false → ∃ x ∈ d.tasks, x.kind = .deepExit ∧ (x.cls = .urgent ∨ x.executing = true)) : d.Sound w :=
  { h with
    cool := fun _ x hx hkind => by
      rw [(h.fits x hx).2 hdeep] at hkind
      cases hkind
    exits := fun _ _ _ => hexit
    holds := fun ht => h.holds fun h' => ht (htoken h') }

/-- A rank not in DEEP is in order but for its band, where no DEEP_ENTER waits (R107). -/
theorem Docket.Sound.staysOut {w w' : Waiver} {d : Docket} (h : d.Sound w') (hdeep : d.state ≠ .deep) (htoken : w'.token → w.token)
    (hwaits : ∀ x ∈ d.tasks, x.kind = .deepEnter → x.executing = true) : d.Sound w :=
  { h with
    cool := fun _ x hx hkind hrun => by
      rw [hwaits x hx hkind] at hrun
      cases hrun
    exits := fun _ _ hdeep' => absurd hdeep' hdeep
    holds := fun ht => h.holds fun h' => ht (htoken h') }

namespace State.InOrder

variable {w : Prop} {v v' : Slot → Waiver} {s t : State}

/-- A thermal exit joins the queue for a rank in DEEP without a power task (R107). -/
theorem insertExit (h : s.InOrder w v') {r : Slot} {c : Chan} (hch : (s.rank r).channel = some c) (hdeep : (s.rank r).state = .deep)
    (hv : ∀ q, q ≠ r → (v' q).Le (v q)) (htoken : (v' r).token → (v r).token)
    (hnone : ∀ y ∈ (s.queue c).tasks, y.rank = r → y.kind.place ≠ .power) : (s.insertTask c (exitOf r)).InOrder w v := by
  have hinserted : (s.insertTask c (exitOf r)).InOrder w v' := by
    refine h.insertTask (x := exitOf r) hch (by rw [exitOf, hdeep]; decide) (by rw [exitOf, hdeep]; decide) (fun _ _ => rfl) fun hw g hg n hs => ?_
    have hother : ∀ y ∈ (s.docket c g r).tasks, y.kind ≠ .deepEnter := fun y hy hkind => by
      rw [(hs.fits y hy).2 hdeep] at hkind
      cases hkind
    exact hs.insert rfl (fun y hy hplace => hnone y (mem_tasksOf.mp hy).1 (mem_tasksOf.mp hy).2 hplace) (fun _ => ⟨hdeep, .inr ⟨rfl, rfl⟩⟩)
      (fun hk => nomatch hk) (fun _ => hother) (fun y hy hkind => absurd hkind (hother y hy))
      ⟨fun hsettling => RankState.noConfusion (hdeep.symm.trans hsettling), fun _ => rfl⟩ fun hplace => nomatch hplace
  refine hinserted.rewaive r hv fun hw d g hd hg hs => hs.comesOut hdeep htoken fun _ _ => ?_
  obtain rfl := Option.some.inj (hch.symm.trans hd)
  refine ⟨{ exitOf r with seq := (s.queue c).seq }, mem_tasksOf.mpr ⟨?_, rfl⟩, rfl, .inl rfl⟩
  rw [State.insertTask_eq, State.queue_setQueue_self]
  exact List.mem_append_right _ (List.mem_singleton_self _)

/-- A rank in DEEP and band 3 is brought out, whatever was waived of its band and its exit (R95, R107). -/
theorem bringOut (h : s.InOrder w v') {r : Slot} (hdeep : (s.rank r).state = .deep) (hv : ∀ q, q ≠ r → (v' q).Le (v q))
    (htoken : (v' r).token → (v r).token) (cause : ExitCause) : (s.bringOut r cause).InOrder w v := by
  have hready : ∀ {u : State}, u.InOrder w v' → (∀ q, u.rank q = s.rank q) → (w → ∀ c g, (s.rank r).channel = some c → (s.rank r).group = some g →
      (u.docket c g r).resetting = false → ∃ x ∈ (u.docket c g r).tasks, x.kind = .deepExit ∧ (x.cls = .urgent ∨ x.executing = true)) →
      u.InOrder w v := fun hu hranks hexit => hu.rewaive r hv fun hw c g hch hg hs => by
    rw [hranks] at hch hg
    exact hs.comesOut ((congrArg Rank.state (hranks r)).trans hdeep) htoken fun _ => hexit hw c g hch hg
  cases hch : (s.rank r).channel with
  | none =>
    rw [show s.bringOut r cause = s by unfold State.bringOut; rw [hch]]
    refine hready h (fun _ => rfl) fun _ c g hc => ?_
    rw [hch] at hc
    cases hc
  | some c =>
    have hmine : ∀ {d}, some c = some d → d = c := fun hd => (Option.some.inj hd).symm
    by_cases hmark : (s.engine c).resetMark = true
    · rw [State.bringOut_of_mark hch hmark]
      refine hready h (fun _ => rfl) fun _ d g hd _ hreset => ?_
      obtain rfl := hmine (hch.symm.trans hd)
      exact absurd (hmark.symm.trans hreset) (by decide)
    · have hmark : (s.engine c).resetMark = false := by simpa using hmark
      cases htask : s.taskAt r .power with
      | none =>
        rw [State.bringOut_of_none hch hmark htask]
        have hnone : ∀ y ∈ (s.queue c).tasks, y.rank = r → y.kind.place ≠ .power := fun y hy hyr hplace => by
          have hsome := (State.taskAt_isSome_iff hch).mpr ⟨y, hy, hyr, hplace⟩
          rw [htask] at hsome
          cases hsome
        exact (h.insertExit hch hdeep hv htoken hnone).notice _
      | some x =>
        obtain ⟨hx, hxr, hplace⟩ := State.mem_of_taskAt hch htask
        rw [State.bringOut_of_some hch hmark htask]
        split
        · next hwaits =>
          have hraised : (s.raiseExit c r).InOrder w v' := InOrder.notice (h.mapTasks c fun y _ => by
            split
            · next hy => exact ⟨rfl, rfl, rfl, rfl, rfl, .inr (.inr ⟨hy.2, rfl⟩)⟩
            · exact ⟨rfl, rfl, rfl, rfl, rfl, .inl rfl⟩) _
          refine hready hraised (fun q => by rw [State.raiseExit_frame]; rfl) fun _ d g hd _ _ => ?_
          obtain rfl := hmine (hch.symm.trans hd)
          refine ⟨{ x with cls := .urgent }, mem_tasksOf.mpr ⟨?_, hxr⟩, hwaits.1, .inl rfl⟩
          rw [State.raiseExit, (State.SameWork.notice _ _).queue, State.mapTasks, State.queue_setQueue_self]
          exact List.mem_map.mpr ⟨x, hx, if_pos ⟨hxr, hwaits.1⟩⟩
        · next hout =>
          refine hready h (fun _ => rfl) fun hw d g hd hg _ => ?_
          obtain rfl := hmine (hch.symm.trans hd)
          have hs := h.sound hw hd hg
          have hmem : x ∈ (s.docket d g r).tasks := mem_tasksOf.mpr ⟨hx, hxr⟩
          have hkind := (hs.fits x hmem).2 hdeep
          refine ⟨x, hmem, hkind, ?_⟩
          cases hrun : x.executing with
          | true => exact .inr rfl
          | false =>
            obtain ⟨-, ⟨-, hpower | hurgent⟩ | ⟨-, hurgent⟩⟩ := hs.leaving x hmem hkind
            · exact absurd ⟨hkind, hrun, hpower⟩ hout
            · exact .inl hurgent
            · exact .inl hurgent

/-- A rank not in DEEP whose band is 3 loses its waiting DEEP_ENTER, whatever was waived of its band (R107). -/
theorem removeDeepEnter (h : s.InOrder w v') {r : Slot} (hdeep : (s.rank r).state ≠ .deep) (hv : ∀ q, q ≠ r → (v' q).Le (v q))
    (htoken : (v' r).token → (v r).token) : (s.removeDeepEnter r).InOrder w v := by
  have hready : ∀ {u : State}, u.InOrder w v' → (∀ q, u.rank q = s.rank q) → (w → ∀ c g, (s.rank r).channel = some c → (s.rank r).group = some g →
      ∀ x ∈ (u.docket c g r).tasks, x.kind = .deepEnter → x.executing = true) → u.InOrder w v :=
    fun hu hranks hwaits => hu.rewaive r hv fun hw c g hch hg hs => by
      rw [hranks] at hch hg
      exact hs.staysOut (fun hd => hdeep ((congrArg Rank.state (hranks r)).symm.trans hd)) htoken (hwaits hw c g hch hg)
  have hfound : ∀ {x c g}, w → s.taskAt r .power = x → (s.rank r).channel = some c → (s.rank r).group = some g → ∀ y ∈ (s.docket c g r).tasks,
      y.kind = .deepEnter → x = some y := by
    intro x c g hw htask hch hg y hy hkind
    obtain ⟨hyq, hyr⟩ := mem_tasksOf.mp hy
    obtain ⟨z, hz⟩ := Option.isSome_iff_exists.mp ((State.taskAt_isSome_iff (p := .power) hch).mpr ⟨y, hyq, hyr, by rw [hkind]; rfl⟩)
    obtain ⟨hzq, hzr, hzplace⟩ := State.mem_of_taskAt hch hz
    rw [← htask, hz, (h.sound hw hch hg).eq_of_place (mem_tasksOf.mpr ⟨hzq, hzr⟩) hy (by rw [hzplace, hkind]; rfl)]
  cases hch : (s.rank r).channel with
  | none =>
    rw [show s.removeDeepEnter r = s by unfold State.removeDeepEnter; rw [hch]]
    refine hready h (fun _ => rfl) fun _ c g hc => ?_
    rw [hch] at hc
    cases hc
  | some c =>
    cases htask : s.taskAt r .power with
    | none =>
      rw [State.removeDeepEnter_of_other fun x hx => by rw [htask] at hx; cases hx]
      exact hready h (fun _ => rfl) fun hw d g hd hg x hx hkind => nomatch hfound hw htask hd hg x hx hkind
    | some x =>
      by_cases hwaits : x.kind = .deepEnter ∧ x.executing = false
      · rw [State.removeDeepEnter_of_waiting hch htask hwaits.1 hwaits.2]
        refine InOrder.scanRank (InOrder.completeTag (hready (h.removeTasks_plain c _ (fun y _ hy => ?_) fun y _ hy => ?_) (fun _ => rfl)
          fun hw d g hd hg y hy hkind => ?_) _ _ _) r
        · simp only [Bool.and_eq_true, Bool.not_eq_true'] at hy
          exact hy.2
        · simp only [Bool.and_eq_true, beq_iff_eq] at hy
          rw [hy.1.2]
          decide
        · obtain rfl := Option.some.inj (hch.symm.trans hd)
          obtain ⟨hyq, hyr⟩ := mem_tasksOf.mp hy
          rw [State.removeTasks, State.queue_setQueue_self] at hyq
          simpa [hyr, hkind] using (List.mem_filter.mp hyq).2
      · rw [State.removeDeepEnter_of_other fun y hy hkind => ?_]
        · refine hready h (fun _ => rfl) fun hw d g hd hg y hy hkind => ?_
          have hxy := Option.some.inj (hfound hw htask hd hg y hy hkind)
          rw [hxy] at hwaits
          simpa [hkind] using hwaits
        · rw [htask] at hy
          rw [Option.some.inj hy] at hwaits
          simpa [hkind] using hwaits

theorem criticalBand (h : s.InOrder w v') (r : Slot) (hv : ∀ q, q ≠ r → (v' q).Le (v q)) (htoken : (v' r).token → (v r).token) :
    (s.criticalBand r).InOrder w v := by
  unfold State.criticalBand
  split
  · next hdeep => exact h.bringOut hdeep hv htoken .deep
  · next hdeep => exact h.removeDeepEnter hdeep hv htoken

end State.InOrder

/-- The waivers with the band of one rank waived too, where `p` holds. -/
def waiveBand (v : Slot → Waiver) (r : Slot) (p : Prop) : Slot → Waiver := fun q => { v q with band := (v q).band ∨ (q = r ∧ p) }

namespace State.InOrder

variable {w : Prop} {v v' : Slot → Waiver} {s t : State}

/-- A band change is handed on (R65). -/
theorem handBand {r : Slot} {old new : Band} (h : s.InOrder w (waiveBand v r (old ≠ new ∧ new = 3))) : (s.handBand r old new).InOrder w v := by
  have hcalm : ∀ {u : State}, ¬ (old ≠ new ∧ new = 3) → u.InOrder w (waiveBand v r (old ≠ new ∧ new = 3)) → u.InOrder w v :=
    fun hnot hu => hu.weaken fun q => ⟨fun hb => hb.elim id fun hb => absurd hb.2 hnot, id, id⟩
  unfold State.handBand
  split
  · next hsame => exact hcalm (fun hn => hn.1 hsame) h
  · simp only
    split
    · exact (h.bandToPlanner r old new).criticalBand r (fun q hq => ⟨fun hb => hb.elim id fun hb => absurd hb.1 hq, id, id⟩) id
    · next hcritical => exact hcalm (fun hn => hcritical hn.2) (h.bandToPlanner r old new)

/-- A rank's record changes in its band, and what its docket does not show. -/
theorem setRank_band (h : s.InOrder w v) {r : Slot} {k : Rank} (hk : k.TimerLaw) (hch : k.channel = (s.rank r).channel := by rfl)
    (hg : k.group = (s.rank r).group := by rfl) (hstate : k.state = (s.rank r).state := by rfl)
    (hcal : k.calStatus = (s.rank r).calStatus := by rfl)
    (hflight : ∀ c, ∀ f ∈ (s.engine c).flight, f.rank = r → (s.rank r).FlightLaw f.kind → k.FlightLaw f.kind := by exact fun _ _ _ _ => id) :
    (s.setRank r k).InOrder w (waiveBand v r ((s.rank r).band ≠ k.band ∧ k.band = 3)) := by
  refine h.setRank hk hch hg (fun h1 h2 => by rw [hstate]; exact ⟨h1, h2⟩) hflight (fun _ _ => ⟨.inl, id, id⟩) fun _ c g _ _ hs => ?_
  rw [hstate, hcal]
  by_cases hband : k.band = (s.rank r).band
  · rw [hband]
    exact hs.weaken ⟨.inl, id, id⟩
  · have hw' : ∀ {p : Prop}, (¬ (waiveBand v r ((s.rank r).band ≠ k.band ∧ k.band = 3) r).band → k.band = 3 → p) := fun hb h3 =>
      absurd (.inr ⟨rfl, Ne.symm hband, h3⟩) hb
    exact { hs with
      cool := fun hb x hx hkind hrun h3 => hw' hb h3
      exits := fun hb _ _ h3 => hw' hb h3
      holds := fun ht => hs.holds ht }

theorem changeBand (h : s.InOrder w v) (r : Slot) (b : Band) : (s.changeBand r b).InOrder w v :=
  (h.setRank_band (k := { s.rank r with band := b }) (by exact h.1.1 r)).handBand

/-- A rank whose exit may be missing is brought out, if it is in DEEP and band 3 (R109). -/
theorem replaceExit (h : s.InOrder w v') (r : Slot) (hv : ∀ q, q ≠ r → (v' q).Le (v q)) (htoken : (v' r).token → (v r).token)
    (hband : (v' r).band → (v r).band) : (s.replaceExit r).InOrder w v := by
  unfold State.replaceExit
  split
  · next hout => exact h.bringOut hout.1 hv htoken .replaced
  · next hout => exact h.rewaive r hv fun _ c g _ _ hs => { hs with
      cool := fun hb => hs.cool fun hb' => hb (hband hb')
      exits := fun _ _ hdeep h3 => absurd ⟨hdeep, h3⟩ hout
      holds := fun ht => hs.holds fun ht' => ht (htoken ht') }

/-- A rank of a channel whose reset has ended is brought out, if it is in DEEP and band 3 (R111, R128). -/
theorem exitAfterReset (h : s.InOrder w v') (c : Chan) (r : Slot) (hv : ∀ q, q ≠ r → (v' q).Le (v q)) (htoken : (v' r).token → (v r).token)
    (hband : (v' r).band → (v r).band) (hother : (s.rank r).channel ≠ some c → (v' r).exit → (v r).exit) : (s.exitAfterReset c r).InOrder w v := by
  unfold State.exitAfterReset
  split
  · next hout => exact h.bringOut hout.2.1 hv htoken .reset
  · next hout =>
    by_cases hch : (s.rank r).channel = some c
    · exact h.rewaive r hv fun _ d g _ _ hs => { hs with
        cool := fun hb => hs.cool fun hb' => hb (hband hb')
        exits := fun _ _ hdeep h3 => absurd ⟨hch, hdeep, h3⟩ hout
        holds := fun ht => hs.holds fun ht' => ht (htoken ht') }
    · exact h.rewaive r hv fun _ d g _ _ hs => hs.weaken ⟨hband, hother hch, htoken⟩

end State.InOrder

/-! ### Ranks that enter and leave service -/

/-- The docket of a rank without tasks takes another state, band and calibration status. -/
theorem Docket.Sound.restate {w : Waiver} {d : Docket} (h : d.Sound w) (hidle : d.tasks = []) {st : RankState} {b : Band} {cs : CalStatus}
    (hdeep : st ≠ .deep) (hentries : ∀ e ∈ d.held.toList ++ d.waiting, st ≠ .offline ∧ (cs = .never → e.kind = .long)) :
    ({ d with state := st, band := b, calStatus := cs } : Docket).Sound w := by
  have hnone : ∀ {x} {p : Prop}, x ∈ d.tasks → p := fun hx => by
    rw [hidle] at hx
    cases hx
  exact { h with
    leaving := fun x hx => hnone hx
    entering := fun x hx => hnone hx
    fits := fun x hx => hnone hx
    agrees := fun _ _ x hx => hnone hx
    entries := fun e he => ⟨(hentries e he).1, (h.entries e he).2.1, (hentries e he).2⟩
    cool := fun _ x hx => hnone hx
    exits := fun _ _ hdeep' => absurd hdeep' hdeep }

/-- The docket of a rank for which nothing is held. -/
theorem Docket.Sound.empty {w : Waiver} {d : Docket} (htasks : d.tasks = []) (hflight : d.flight = none) (hheld : d.held = none)
    (hwaiting : d.waiting = []) (hdeep : d.state ≠ .deep) : d.Sound w := by
  obtain ⟨st, b, cs, tasks, flight, reset, held, running, waiting⟩ := d
  simp only at htasks hflight hheld hwaiting hdeep
  subst htasks hflight hheld hwaiting
  exact ⟨.nil, (fun _ h => nomatch h), (fun _ h => nomatch h), (fun _ h => nomatch h), (fun _ h => nomatch h), (fun _ h => nomatch h),
    (fun _ h => nomatch h), (fun _ h => nomatch h), (fun _ h => nomatch h), Nat.zero_le 1, (fun _ h => nomatch h), (fun _ _ h => nomatch h), fun _ _ h => absurd h hdeep,
    (fun _ _ h => nomatch h)⟩

theorem FlightKind.fits_served_or_deep {k : FlightKind} {st : RankState} (h : k.fits st = true) : st.served = true ∨ st = .deep := by
  cases k with
  | fill => exact .inl h
  | task k => cases k <;> cases st <;> simp [FlightKind.fits, RankState.served] at h ⊢

/-- No task in flight is of a rank that is neither served nor in DEEP (R153, R164). -/
theorem State.RankLaw.no_flight {s : State} (h : s.RankLaw) {r : Slot} (hserved : (s.rank r).state.served = false) (hdeep : (s.rank r).state ≠ .deep) :
    ∀ c, ∀ f ∈ (s.engine c).flight, f.rank ≠ r := fun c f hf hr => by
  obtain ⟨-, hfits, -⟩ := (h.place c).2 f hf
  rw [hr] at hfits
  exact (FlightKind.fits_served_or_deep hfits).elim (fun hs => Bool.noConfusion (hserved.symm.trans hs)) hdeep

theorem Engine.flightOf_eq_none {e : Engine} {r : Slot} (h : ∀ f ∈ e.flight, f.rank ≠ r) : e.flightOf r = none :=
  Option.eq_none_iff_forall_ne_some.mpr fun k hk => by
    obtain ⟨f, hf, hr, -⟩ := Engine.flightOf_eq_some.mp hk
    exact h f hf hr

theorem tasksOf_eq_nil {l : List Task} {r : Slot} (h : ∀ x ∈ l, x.rank ≠ r) : tasksOf l r = [] :=
  List.eq_nil_iff_forall_not_mem.mpr fun x hx => h x (mem_tasksOf.mp hx).1 (mem_tasksOf.mp hx).2

namespace State.InOrder

variable {w : Prop} {v v' : Slot → Waiver} {s t : State}

/-- No entry is of a rank that is out of service. -/
theorem no_entry (h : s.InOrder w v) (hw : w) {r : Slot} (hout : (s.rank r).state = .absent ∨ (s.rank r).state = .offline) :
    ∀ g, ∀ e ∈ (s.group g).entries, e.rank ≠ r := fun g e he hr => by
  have hg := (h.2 hw).home g e he
  obtain ⟨c, hch⟩ := h.1.channel_of_group hg
  rw [hr] at hch hg
  obtain hout | hout := hout
  · rw [(h.1.1 r).2.2.2.1.mpr hout] at hch
    cases hch
  · exact ((h.sound hw hch hg).entries e (CalGroup.mem_entriesOf.mpr ⟨he, hr⟩)).1 hout

/-- The record of a rank out of service is replaced by another such record (R7, R9). -/
theorem reconfigure (h : s.InOrder w v) {r : Slot} {k : Rank} (hout : (s.rank r).state = .absent ∨ (s.rank r).state = .offline)
    (hk : k.TimerLaw) (hkout : k.state = .absent ∨ k.state = .offline) : (s.setRank r k).InOrder w v := by
  have hserved : (s.rank r).state.served = false := by rcases hout with hs | hs <;> rw [hs] <;> rfl
  have hdeep : (s.rank r).state ≠ .deep := by rcases hout with hs | hs <;> rw [hs] <;> decide
  have hkdeep : k.state ≠ .deep := by rcases hkout with hs | hs <;> rw [hs] <;> decide
  have htasks := h.1.no_task hout
  have hflights := h.1.no_flight hserved hdeep
  refine ⟨h.1.setRank hk (fun c x hx hr => absurd hr (htasks c x hx)) (fun c f hf hr => absurd hr (hflights c f hf)), fun hw =>
    ⟨(h.2 hw).groups, fun g e he => ?_, fun q c g hch hg => ?_⟩⟩
  · rw [State.rank_setRank_ne _ _ (h.no_entry hw hout g e he)]
    exact (h.2 hw).home g e he
  · rw [State.docket_setRank]
    split
    · next hq =>
      have hentries : ((s.group g).heldOf r).toList ++ (s.group g).waitingOf r = [] :=
        List.eq_nil_iff_forall_not_mem.mpr fun e he => h.no_entry hw hout g e (CalGroup.mem_entriesOf.mp he).1 (CalGroup.mem_entriesOf.mp he).2
      obtain ⟨hheld, hwaiting⟩ := List.append_eq_nil_iff.mp hentries
      exact .empty (tasksOf_eq_nil (htasks c)) (Engine.flightOf_eq_none (hflights c)) (Option.toList_eq_nil_iff.mp hheld) hwaiting hkdeep
    · next hq =>
      rw [State.rank_setRank_ne _ _ hq] at hch hg
      exact h.sound hw hch hg

theorem openAccount (h : s.InOrder w v) {r : Slot} (hserved : (s.rank r).state.served = true)
    (hflight : ∀ c, ∀ f ∈ (s.engine c).flight, f.rank = r → f.kind ≠ .task .deepEnter) : (s.openAccount r).InOrder w v :=
  (h.setRank_quiet (k := { s.rank r with balance := 0, urgent := false }) (by exact h.1.1 r)).setInterval
    (by rw [State.rank_setRank_self]; exact hserved) hflight _

/-- A rank that is not yet served enters ONLINE, its account is opened and it asks for a calibration (R10, R42, R106). -/
theorem enterOnline (h : s.InOrder w v) {r : Slot} {k : Rank} (hch : k.channel = (s.rank r).channel)
    (hg : k.group = (s.rank r).group) (hk : k.TimerLaw) (honline : k.state = .online)
    (hold : (s.rank r).state = .offline ∨ (s.rank r).state = .settling) (hcal : (s.rank r).state = .settling → k.calStatus = (s.rank r).calStatus)
    (kind : CalKind) (origin : CalOrigin) :
    ((((s.setRank r k).openAccount r).internalRequest r kind origin).scanRank r).InOrder w v := by
  have hserved : (s.rank r).state.served = false := by rcases hold with hs | hs <;> rw [hs] <;> rfl
  have hdeep : (s.rank r).state ≠ .deep := by rcases hold with hs | hs <;> rw [hs] <;> decide
  have hflights := h.1.no_flight hserved hdeep
  have hin : (s.setRank r k).InOrder w v := by
    refine h.setRank hk hch hg (fun _ _ => by rw [honline]; decide) (fun c f hf hr => absurd hr (hflights c f hf)) (fun _ _ => ⟨id, id, id⟩)
      fun _ c g hc hg' hs => hs.restate ?_ (by rw [honline]; decide) fun e he => ?_
    · rcases hold with hold | hold
      · exact tasksOf_eq_nil (h.1.no_task (.inr hold) c)
      · exact List.eq_nil_iff_forall_not_mem.mpr fun x hx => (hs.fits x hx).1 hold
    · rcases hold with hold | hold
      · exact absurd hold (hs.entries e he).1
      · rw [honline, hcal hold]
        exact ⟨by decide, (hs.entries e he).2.2⟩
  refine InOrder.scanRank (InOrder.internalRequest (hin.openAccount ?_ fun c f hf hr => absurd hr (hflights c f hf)) r kind origin) r
  rw [State.rank_setRank_self, honline]
  rfl

theorem endSettle (h : s.InOrder w v) {r : Slot} (hsettle : (s.rank r).settle.isSome = true) : (s.endSettle r).InOrder w v := by
  obtain ⟨hinterval, hsettling, hperiodic, hchannel, hgroup⟩ := h.1.1 r
  have hold := hsettling.mp hsettle
  refine h.enterOnline (k := { s.rank r with state := .online, settle := none }) rfl rfl ⟨fun _ => rfl, ?_, fun hp => ?_, ?_, ?_⟩ rfl (.inr hold)
    (fun _ => rfl) .short .exit
  · exact ⟨(fun hs => nomatch hs), (fun hs => nomatch hs)⟩
  · exact ⟨(hperiodic hp).1, .inl rfl⟩
  · simp only [hchannel, hold, reduceCtorEq]
  · simp only [hgroup, hold, reduceCtorEq]

theorem bringOnline (h : s.InOrder w v) {r : Slot} (hold : (s.rank r).state = .offline) : (s.bringOnline r).InOrder w v := by
  obtain ⟨hinterval, hsettling, hperiodic, hchannel, hgroup⟩ := h.1.1 r
  refine h.enterOnline (k := { s.rank r with state := .online, calStatus := .never, failures := 0, calTemp := none }) rfl rfl
    ⟨fun _ => rfl, ?_, fun hp => ?_, ?_, ?_⟩ rfl (.inl hold) (fun hs => ?_) .long .online
  · simp only [hsettling, hold, reduceCtorEq]
  · have hstate := (hperiodic hp).2
    rw [hold] at hstate
    exact absurd hstate (by decide)
  · simp only [hchannel, hold, reduceCtorEq]
  · simp only [hgroup, hold, reduceCtorEq]
  · rw [hold] at hs
    cases hs

theorem stoppedPeriodic (h : s.InOrder w v) (r : Slot) : (s.setRank r { s.rank r with periodic := none }).InOrder w v := by
  obtain ⟨hinterval, hsettling, -, hchannel, hgroup⟩ := h.1.1 r
  exact h.setRank_quiet (k := { s.rank r with periodic := none }) ⟨hinterval, hsettling, (fun hp => nomatch hp), hchannel, hgroup⟩
    (hflight := fun _ _ _ _ hlaw => ⟨hlaw.1, fun hkind => ⟨(hlaw.2 hkind).1, rfl⟩⟩)

theorem makeStale (h : s.InOrder w v) (r : Slot) : (s.makeStale r).InOrder w v := by
  obtain ⟨hinterval, hsettling, -, hchannel, hgroup⟩ := h.1.1 r
  refine h.setRank (k := { s.rank r with calStatus := .stale, periodic := none }) ⟨hinterval, hsettling, (fun hp => nomatch hp), hchannel, hgroup⟩ rfl rfl
    (fun h1 h2 => ⟨h1, h2⟩) (fun _ _ _ _ hlaw => ⟨hlaw.1, fun hkind => ⟨(hlaw.2 hkind).1, rfl⟩⟩) (fun _ _ => ⟨id, id, id⟩) fun _ c g _ _ hs => ?_
  exact { hs with entries := fun e he => ⟨(hs.entries e he).1, (hs.entries e he).2.1, fun hnever => nomatch hnever⟩ }

/-- CONFIGURE_RANK (R6 to R8). -/
theorem configure (h : s.InOrder w v) {r : Slot} (hout : (s.rank r).state = .absent ∨ (s.rank r).state = .offline) {c : Option Chan} {g : Option GroupId}
    (hc : c.isSome = true) (hg : g.isSome = true) (a : Option (BitVec 7)) : (s.configure r c g a).InOrder w v := by
  obtain ⟨hinterval, hsettling, hperiodic, -, -⟩ := h.1.1 r
  have hset : (s.setRank r { s.rank r with state := .offline, channel := c, group := g }).InOrder w v := by
    refine h.reconfigure hout ⟨fun hi => ?_, ?_, fun hp => ?_, ?_, ?_⟩ (.inr rfl)
    · have hserved := hinterval hi
      rcases hout with hs | hs <;> rw [hs] at hserved <;> cases hserved
    · have hnone : (s.rank r).state ≠ .settling := by rcases hout with hs | hs <;> rw [hs] <;> decide
      exact ⟨fun hs => absurd (hsettling.mp hs) hnone, fun hs => nomatch hs⟩
    · have hstate := (hperiodic hp).2
      rcases hout with hs | hs <;> rw [hs] at hstate <;> exact absurd hstate (by decide)
    · exact ⟨fun hnone => absurd hnone (Option.isSome_iff_ne_none.mp hc), fun hs => nomatch hs⟩
    · exact ⟨fun hnone => absurd hnone (Option.isSome_iff_ne_none.mp hg), fun hs => nomatch hs⟩
  unfold State.configure State.configureSensor
  generalize s.setRank r { s.rank r with state := .offline, channel := c, group := g } = u at hset
  have hread : (u.discardRead r).InOrder w v := by
    unfold State.discardRead
    split
    · exact hset.setMonitor _
    · exact hset
  generalize u.discardRead r = u at hread
  cases a with
  | none => exact hread.setRank_quiet (by exact hread.1.1 r)
  | some a => exact InOrder.changeBand (hread.setRank_quiet (by exact hread.1.1 r)) r _

theorem removeRank (h : s.InOrder w v) {r : Slot} (hout : (s.rank r).state = .offline) : ((s.discardRead r).setRank r Rank.initial).InOrder w v := by
  have hread : (s.discardRead r).InOrder w v ∧ ((s.discardRead r).rank r).state = .offline := by
    unfold State.discardRead
    split
    · exact ⟨h.setMonitor _, hout⟩
    · exact ⟨h, hout⟩
  exact hread.1.reconfigure (.inr hread.2) (by decide) (.inl rfl)

end State.InOrder

theorem State.RankLaw.no_flight_of_idle {s : State} (h : s.RankLaw) {r : Slot} {c : Chan} (hch : (s.rank r).channel = some c)
    (hidle : s.executingFor r = none) : ∀ d, ∀ f ∈ (s.engine d).flight, f.rank ≠ r := fun d f hf hr => by
  have hd := ((h.place d).2 f hf).1
  rw [hr, hch] at hd
  rw [← Option.some.inj hd] at hf
  simp [State.executingFor, hch, Option.mem_def.mp hf, hr] at hidle

/-- A group that holds nothing for a rank any more (R13). -/
theorem CalGroup.Regular.without {x : CalGroup} (h : x.Regular) (r : Slot) : (x.without r).Regular := by
  unfold CalGroup.without
  simp only
  split
  · exact ⟨fun _ => ⟨rfl, rfl⟩, by simp, (fun hd => nomatch hd), fun hf => absurd rfl hf⟩
  · exact ⟨h.free, h.timer, h.discard, h.held⟩

theorem CalGroup.without_entries (x : CalGroup) (r : Slot) : ∀ e ∈ (x.without r).entries, e ∈ x.entries := by
  intro e he
  unfold CalGroup.without at he
  simp only at he
  split at he
  · exact List.mem_append_right _ (List.mem_of_mem_filter ((List.mem_append.mp he).elim (fun he => nomatch he) id))
  · obtain he | he := List.mem_append.mp he
    · exact List.mem_append_left _ he
    · exact List.mem_append_right _ (List.mem_of_mem_filter he)

theorem CalGroup.Regular.without_others {x : CalGroup} (h : x.Regular) {r q : Slot} (hq : q ≠ r) :
    (x.without r).heldOf q = x.heldOf q ∧ (x.without r).runningFor q = x.runningFor q ∧ (x.without r).waitingOf q = x.waitingOf q := by
  have hwaiting : (x.waiting.filter (fun e => e.rank != r)).filter (fun e => e.rank == q) = x.waiting.filter (fun e => e.rank == q) := by
    rw [List.filter_filter]
    refine List.filter_congr fun e _ => ?_
    by_cases he : e.rank = q
    · simp [he, hq]
    · simp [he]
  unfold CalGroup.without
  simp only
  split
  · next hfreed =>
    have hheld : x.heldOf q = none := Option.eq_none_iff_forall_ne_some.mpr fun e he => by
      obtain ⟨he, her⟩ := CalGroup.heldOf_eq_some.mp he
      have hholder := (h.holder_of_entry he).2
      rw [hfreed.1, her] at hholder
      exact hq (Option.some.inj hholder).symm
    refine ⟨hheld.symm, ?_, hwaiting⟩
    rw [CalGroup.runningFor, CalGroup.runningFor, hheld]
    rfl
  · exact ⟨rfl, rfl, hwaiting⟩

theorem CalGroup.without_waitingOf (x : CalGroup) (r : Slot) : (x.without r).waitingOf r = [] := by
  refine List.filter_eq_nil_iff.mpr fun e he her => ?_
  have hne : (e.rank != r) = true := by
    unfold CalGroup.without at he
    simp only at he
    split at he
    · exact (List.mem_filter.mp he).2
    · exact (List.mem_filter.mp he).2
  simp [beq_iff_eq.mp her] at hne

namespace State.InOrder

variable {w : Prop} {v v' : Slot → Waiver} {s t : State}

/-- A rank without a task in flight that is taken offline (R12 to R14). -/
theorem retired (h : s.InOrder w v) {r : Slot} {c : Chan} {g : GroupId} (hch : (s.rank r).channel = some c) (hg : (s.rank r).group = some g)
    (hsettling : (s.rank r).state ≠ .settling) (hidle : s.executingFor r = none) : (s.retired r c g).InOrder w v := by
  have hflights := h.1.no_flight_of_idle hch hidle
  have hplace : ∀ d, ∀ x ∈ (s.queue d).tasks, (s.rank x.rank).channel = some d := fun d x hx => ((h.1.place d).1 x hx).1
  have htasks : ∀ d, ((s.retired r c g).queue d).tasks = (s.queue d).tasks.filter (fun x => x.rank ≠ r) := fun d => State.retired_tasks g hplace hch
  have hgroup : ∀ g', (s.retired r c g).group g' = if g' = g then (s.group g).without r else s.group g' := fun g' => State.group_setGroup ..
  have hrank : (s.retired r c g).rank r = { s.rank r with state := .offline, interval := none, periodic := none } := State.rank_setRank_self ..
  refine h.step r ?_ (fun q hq => State.rank_setRank_ne _ _ hq) (by rw [hrank]) (by rw [hrank]) (fun hw g' => ?_) (fun hw g' e he => .inl ?_)
    (fun hw q hq d g' hd hg' hs => ?_) fun hw d g' hd hg' hs => ?_
  · obtain ⟨-, hsettle, -, hchannel, hgroup'⟩ := h.1.1 r
    have habsent : (s.rank r).state ≠ .absent := fun hs => by rw [hchannel.mpr hs] at hch; cases hch
    have hremoved : (s.removeTasks c (fun t => t.rank == r)).RankLaw := h.1.setQueue fun x hx => .inl ⟨x, List.mem_of_mem_filter hx, rfl⟩
    refine State.RankLaw.setRank (s := (s.removeTasks c (fun t => t.rank == r)).setGroup g ((s.group g).without r))
      (hremoved.congr (fun _ => rfl) (fun _ => rfl) fun _ => rfl) ⟨(fun hi => nomatch hi), ?_, (fun hp => nomatch hp), ?_, ?_⟩ (fun d x hx hr => ?_)
      fun d f hf hr => absurd hr (hflights d f hf)
    · simp only [hsettle, hsettling, reduceCtorEq]
    · simp only [hchannel, habsent, reduceCtorEq]
    · simp only [hgroup', habsent, reduceCtorEq]
    · have hx : x ∈ ((s.retired r c g).queue d).tasks := hx
      rw [htasks] at hx
      exact absurd hr (by simpa using (List.mem_filter.mp hx).2)
  · rw [hgroup]
    split
    · exact ((h.2 hw).groups g).without r
    · exact (h.2 hw).groups g'
  · rw [hgroup] at he
    split at he
    · next hgg =>
      rw [hgg]
      exact ⟨e, CalGroup.without_entries _ _ e he, rfl⟩
    · exact ⟨e, he, rfl⟩
  · have hsame : (s.retired r c g).docket d g' q = s.docket d g' q := by
      have hothers : ((s.retired r c g).group g').heldOf q = (s.group g').heldOf q ∧ ((s.retired r c g).group g').runningFor q = (s.group g').runningFor q ∧
          ((s.retired r c g).group g').waitingOf q = (s.group g').waitingOf q := by
        rw [hgroup]
        split
        · next hgg =>
          rw [hgg]
          exact ((h.2 hw).groups g).without_others hq
        · exact ⟨rfl, rfl, rfl⟩
      refine State.docket_congr (State.rank_setRank_ne _ _ hq) ?_ rfl rfl hothers.1 hothers.2.1 hothers.2.2
      rw [htasks]
      exact tasksOf_filter_of_others fun x _ hxq => by simpa [hxq] using hq
    rw [hsame]
    exact hs
  · obtain rfl := Option.some.inj (hch.symm.trans hd)
    obtain rfl := Option.some.inj (hg.symm.trans hg')
    have hflight : (s.engine c).flightOf r = none := Engine.flightOf_eq_none (hflights c)
    refine .empty (tasksOf_eq_nil fun x hx => ?_) hflight ?_ ?_ ?_
    · rw [htasks] at hx
      simpa using (List.mem_filter.mp hx).2
    · show ((s.retired r c g).group g).heldOf r = none
      rw [hgroup, if_pos rfl]
      refine Option.eq_none_iff_forall_ne_some.mpr fun e he => ?_
      unfold CalGroup.without at he
      simp only at he
      split at he
      · cases he
      · next hnot =>
        have he : (s.group g).heldOf r = some e := he
        obtain ⟨hentry, her⟩ := CalGroup.heldOf_eq_some.mp he
        obtain ⟨hstate, hholder⟩ := ((h.2 hw).groups g).holder_of_entry hentry
        have hcal : (s.group g).state = .calibrating := by
          cases hstage : (s.group g).state with
          | free => exact absurd hstage hstate
          | held => exact absurd ⟨hholder.trans (congrArg some her), hstage⟩ hnot
          | calibrating => rfl
        have hrunning : (s.docket c g r).running = true := by
          show (s.group g).runningFor r = true
          rw [CalGroup.runningFor, he, hcal]
          rfl
        obtain ⟨x, hx, hplace⟩ := hs.holds (fun _ => hrunning) e he
        have hrun := (hs.agrees e he x hx hplace).2.2.2
        have hflies : (s.engine c).flightOf r = some (.task x.kind) := hs.runs x hx (hrun.mpr hrunning)
        rw [hflight] at hflies
        cases hflies
    · show ((s.retired r c g).group g).waitingOf r = []
      rw [hgroup, if_pos rfl]
      exact CalGroup.without_waitingOf _ _
    · rw [show ((s.retired r c g).docket c g r).state = .offline from congrArg Rank.state hrank]
      decide

theorem takeOffline (h : s.InOrder w v) {r : Slot} {c : Chan} (hch : (s.rank r).channel = some c)
    (hsettling : (s.rank r).state ≠ .settling) (hidle : s.executingFor r = none) : (s.takeOffline r).InOrder w v := by
  obtain ⟨g, hg⟩ := h.1.group_of_channel hch
  rw [State.takeOffline_eq hch hg]
  exact ((h.retired hch hg hsettling hidle).scanGroup g).same ⟨rfl, rfl, rfl, rfl⟩

end State.InOrder

end Sys2Proof.Machine
end

section
/-! SUPPORT for O58: what the operations of the events keep of the work: tokens given back, flushes, channel resets, starts, completions, the
sensors, the window and the commands. -/

namespace Sys2Proof.Machine

-- Proofs are elaborated one after the other, which bounds the memory a compile reserves.
set_option Elab.async false

/-! ### Tokens that are given back -/

/-- The token given back, where the rank has no calibration task (R71). -/
theorem Docket.Sound.release {w w' : Waiver} {d : Docket} (h : d.Sound w') (hnone : ∀ x ∈ d.tasks, x.kind.place ≠ .calibration)
    (hband : w'.band → w.band) (hexit : w'.exit → w.exit) : ({ d with held := none, running := false } : Docket).Sound w :=
  { h with
    entering := fun x hx hkind => by
      obtain ⟨horigin, hcls, hstate, -⟩ := h.entering x hx hkind
      exact ⟨horigin, hcls, hstate, rfl⟩
    calibrates := fun x hx hplace => absurd hplace (hnone x hx)
    agrees := fun _ he => nomatch he
    single := by
      have hsingle := h.single
      rw [List.length_append] at hsingle
      exact Nat.le_trans (Nat.le_add_left ..) hsingle
    entries := fun e he => h.entries e (List.mem_append_right _ he)
    cool := fun hb => h.cool fun hb' => hb (hband hb')
    exits := fun hb he => h.exits (fun hb' => hb (hband hb')) fun he' => he (hexit he')
    holds := fun _ _ he => nomatch he }

theorem CalGroup.Regular.heldOf_of_ne {x : CalGroup} {e : Entry} (he : x.heldEntry = some e) {q : Slot} (hq : q ≠ e.rank) :
    x.heldOf q = none ∧ x.runningFor q = false := by
  have hheld : x.heldOf q = none := by simp [CalGroup.heldOf, he, Option.filter_some, Ne.symm hq]
  refine ⟨hheld, ?_⟩
  rw [CalGroup.runningFor, hheld]
  rfl

namespace State.InOrder

variable {w : Prop} {v v' : Slot → Waiver} {s t : State}

/-- The token of an entry whose task is gone is given back (R71). -/
theorem freeGroup {g : GroupId} {e : Entry} (h : s.InOrder w (waiveToken v e.rank)) (he : (s.group g).heldEntry = some e)
    (hnone : w → ∀ c, (s.rank e.rank).channel = some c → ∀ x ∈ (s.queue c).tasks, x.rank = e.rank → x.kind.place ≠ .calibration) :
    (s.freeGroup g).InOrder w v := by
  refine h.setGroup e.rank (fun hw => ?_) (fun hw x hx => .inl ⟨x, List.mem_append_right _ ?_, rfl⟩) (fun hw q hq => ?_) (fun hw q hq => ?_)
    fun hw c hch hg hs => ?_
  · exact ⟨fun _ => ⟨rfl, rfl⟩, by simp, (fun hd => nomatch hd), fun hf => absurd rfl hf⟩
  · exact (List.mem_append.mp hx).elim (fun hx => nomatch hx) id
  · obtain ⟨hheld, hrunning⟩ := CalGroup.Regular.heldOf_of_ne he hq
    exact ⟨hheld.symm, hrunning.symm, rfl⟩
  · rcases hq with hq | hq
    · have hne : q ≠ e.rank := fun hqe => hq (by rw [hqe]; exact (h.2 hw).home g e (by simp [CalGroup.entries, he]))
      rw [waiveToken_of_ne v hne]
      exact ⟨id, id, id⟩
    · rw [waiveToken_of_ne v hq]
      exact ⟨id, id, id⟩
  · rw [waiveToken_self] at hs
    exact hs.release (fun x hx => hnone hw c hch x (mem_tasksOf.mp hx).1 (mem_tasksOf.mp hx).2) id id

/-- A waiting calibration task leaves its queue (R85). -/
theorem removeCalTask (h : s.InOrder w v) {r : Slot} (hwaits : w → ∀ c, (s.rank r).channel = some c → ∀ x ∈ (s.queue c).tasks, x.rank = r →
    x.kind.place = .calibration → x.executing = false) : (s.removeCalTask r).InOrder w (waiveToken v r) := by
  have hv : ∀ q, (v q).Le (waiveToken v r q) := fun q => by
    by_cases hq : q = r
    · rw [hq, waiveToken_self]
      exact ⟨id, id, fun _ => trivial⟩
    · rw [waiveToken_of_ne v hq]
      exact ⟨id, id, id⟩
  unfold State.removeCalTask
  split
  · exact h.weaken hv
  · next c hch =>
    have htaken : ∀ {x : Task}, (x.rank == r && x.kind.place == .calibration) = true → x.rank = r ∧ x.kind.place = .calibration := fun hx => by
      simpa using hx
    refine h.removeTasks c _ (fun hw x hx hgone => ?_) hv (fun hw x hx hgone hkind => ?_) fun hw x hx hgone hplace => ?_
    · exact hwaits hw c hch x hx (htaken hgone).1 (htaken hgone).2
    · have hplace := (htaken hgone).2
      rw [hkind] at hplace
      cases hplace
    · rw [(htaken hgone).1, waiveToken_self]
      trivial

theorem removeCalTask_none {c : Chan} {r : Slot} (hch : (s.rank r).channel = some c) :
    ∀ x ∈ ((s.removeCalTask r).queue c).tasks, x.rank = r → x.kind.place ≠ .calibration := by
  intro x hx hr hplace
  rw [State.removeCalTask, hch] at hx
  simp only [State.removeTasks, State.queue_setQueue_self] at hx
  simpa [hr, hplace] using (List.mem_filter.mp hx).2

/-- What the holder of a token says of its entry. -/
theorem holder_entry (h : s.InOrder w v) (hw : w) {g : GroupId} {e : Entry} (he : (s.group g).heldEntry = some e) :
    (s.rank e.rank).group = some g ∧ (s.group g).waitingOf e.rank = [] ∧ (s.rank e.rank).state ≠ .offline ∧ e.revocations ≤ 2 ∧
      ((s.rank e.rank).calStatus = .never → e.kind = .long) := by
  have hg : (s.rank e.rank).group = some g := (h.2 hw).home g e (by simp [CalGroup.entries, he])
  obtain ⟨c, hch⟩ := h.1.channel_of_group hg
  have hs := h.sound hw hch hg
  have hheld : (s.docket c g e.rank).held = some e := CalGroup.heldOf_eq_some.mpr ⟨he, rfl⟩
  have hsingle := hs.single
  rw [hheld, List.length_append] at hsingle
  have hwaiting : (s.docket c g e.rank).waiting = [] := List.length_eq_zero_iff.mp (by simpa using hsingle)
  exact ⟨hg, hwaiting, hs.entries e (by rw [hheld]; simp)⟩

/-- The calibration task of an entry that waits for its start does not execute (R84). -/
theorem held_waits (h : s.InOrder w v) (hw : w) {g : GroupId} {e : Entry} {c : Chan} (he : (s.group g).heldEntry = some e)
    (hstate : (s.group g).state = .held) (hch : (s.rank e.rank).channel = some c) :
    ∀ x ∈ (s.queue c).tasks, x.rank = e.rank → x.kind.place = .calibration → x.executing = false := fun x hx hr hplace => by
  have hheld : (s.docket c g e.rank).held = some e := CalGroup.heldOf_eq_some.mpr ⟨he, rfl⟩
  have hrun := ((h.sound hw hch (h.holder_entry hw he).1).agrees e hheld x (mem_tasksOf.mpr ⟨hx, hr⟩) hplace).2.2.2
  have hrunning : (s.docket c g e.rank).running = false := by
    show (s.group g).runningFor e.rank = false
    simp [CalGroup.runningFor, hstate]
  rw [hrunning] at hrun
  simpa using hrun

/-- A revoked entry rejoins the list or is dropped (R85, R86). -/
theorem requeueOrStarve (h : s.InOrder w v) {g : GroupId} {e : Entry} (hentry : w → (s.rank e.rank).group = some g ∧
      (s.group g).heldOf e.rank = none ∧ (s.group g).waitingOf e.rank = [] ∧ (s.rank e.rank).state ≠ .offline ∧
      ((s.rank e.rank).calStatus = .never → e.kind = .long)) : (s.requeueOrStarve g e).InOrder w v := by
  unfold State.requeueOrStarve
  split
  · next hrev =>
    refine h.join (e := { e with revocations := e.revocations + 1 }) (.inl rfl) fun hw => ?_
    obtain ⟨hg, hheld, hwaiting, hstate, hkind⟩ := hentry hw
    exact ⟨hg, hheld, hwaiting, hstate, hrev, hkind⟩
  · exact ((h.makeStale e.rank).notice _).completeTag _ _ _

/-- A token-hold expiry (R85, R86). -/
theorem revoke (h : s.InOrder w v) {g : GroupId} (htimer : (s.group g).tokenTimer.isSome = true) : (s.revoke g).InOrder w v := by
  have hstate : w → (s.group g).state = .held := fun hw => ((h.2 hw).groups g).timer.mp htimer
  unfold State.revoke
  cases he : (s.group g).heldEntry with
  | none =>
    have hfreed : (s.freeGroup g).InOrder w v := by
      refine ⟨h.1.congr (fun _ => rfl) (fun _ => rfl) fun _ => rfl, fun hw => ?_⟩
      obtain ⟨e, he', -⟩ := ((h.2 hw).groups g).held (by rw [hstate hw]; decide)
      rw [he] at he'
      cases he'
    exact hfreed.scanGroup g
  | some e =>
    have hremoved := h.removeCalTask (r := e.rank) fun hw c hch => h.held_waits hw he (hstate hw) hch
    have hsame : (s.removeCalTask e.rank).ranks = s.ranks ∧ (s.removeCalTask e.rank).groups = s.groups := by
      unfold State.removeCalTask
      split <;> exact ⟨rfl, rfl⟩
    have hrank : ∀ r, (s.removeCalTask e.rank).rank r = s.rank r := fun r => by rw [State.rank, hsame.1]; rfl
    have hgroup : ∀ g', (s.removeCalTask e.rank).group g' = s.group g' := fun g' => by rw [State.group, hsame.2]; rfl
    refine InOrder.scanGroup (InOrder.requeueOrStarve (hremoved.freeGroup (by rw [hgroup]; exact he) fun _ c hch => ?_) fun hw => ?_) g
    · rw [hrank] at hch
      exact removeCalTask_none hch
    · obtain ⟨hg, hwaiting, hoffline, -, hkind⟩ := h.holder_entry hw he
      have hrank' : ((s.removeCalTask e.rank).freeGroup g).rank e.rank = s.rank e.rank := hrank _
      rw [hrank']
      refine ⟨hg, ?_, ?_, hoffline, hkind⟩
      · rw [State.freeGroup, State.group_setGroup, if_pos rfl]
        rfl
      · rw [State.freeGroup, State.group_setGroup, if_pos rfl, hgroup]
        exact hwaiting

end State.InOrder

/-! ### Exits that are replaced -/

/-- The waivers with the exits of the ranks of `p` waived too. -/
def waiveExit (v : Slot → Waiver) (p : Slot → Prop) : Slot → Waiver := fun q => { v q with exit := (v q).exit ∨ p q }

theorem waiveExit_le (v : Slot → Waiver) {p p' : Slot → Prop} {q : Slot} (h : p q → p' q) : (waiveExit v p q).Le (waiveExit v p' q) :=
  ⟨id, fun he => he.imp_right h, id⟩

theorem le_waiveExit (v : Slot → Waiver) (p : Slot → Prop) (q : Slot) : (v q).Le (waiveExit v p q) := ⟨id, .inl, id⟩

theorem waiveExit_of_not (v : Slot → Waiver) {p : Slot → Prop} {q : Slot} (h : ¬ p q) : (waiveExit v p q).Le (v q) :=
  ⟨id, fun he => he.elim id fun hp => absurd hp h, id⟩

namespace State.InOrder

variable {w : Prop} {v v' : Slot → Waiver} {s t : State}

/-- The exits of a list of slots come back one by one. -/
theorem foldl_exits {f : State → Slot → State} {p : Slot → Prop} (keeps : State → Prop)
    (hf : ∀ u r l, keeps u → u.InOrder w (waiveExit v (fun q => p q ∧ q ∈ r :: l)) → keeps (f u r) ∧ (f u r).InOrder w (waiveExit v (fun q => p q ∧ q ∈ l)))
    (l : List Slot) (hs : keeps s) (h : s.InOrder w (waiveExit v (fun q => p q ∧ q ∈ l))) : (l.foldl f s).InOrder w v := by
  induction l generalizing s with
  | nil => exact h.weaken fun q => waiveExit_of_not v fun hp => nomatch hp.2
  | cons r l ih =>
    obtain ⟨hkeeps, hnext⟩ := hf s r l hs h
    exact ih hkeeps hnext

/-- FLUSH_HOST (R109, R124, R125). -/
theorem flush (h : s.InOrder w v) (c : Chan) : (s.flush c).InOrder w v := by
  have hflushed : ∀ x : Task, x.flushed = true → x.executing = false ∧ x.kind.place ≠ .calibration := fun x hx => by
    simp only [Task.flushed, Task.hostOwned, Bool.and_eq_true, Bool.not_eq_true', Bool.or_eq_true, beq_iff_eq] at hx
    refine ⟨hx.1, fun hplace => hx.2.elim (fun hk => ?_) fun hk => ?_⟩
    · rw [hk] at hplace
      cases hplace
    · exact absurd (hplace.symm.trans hk.1) (by decide)
  have hremoved : ((s.removeTasks c Task.flushed).abortTasks ((s.queue c).tasks.filter Task.flushed)).InOrder w (waiveExit v (fun q =>
      ((s.queue c).tasks.filter Task.flushed).any (fun t => t.rank == q && t.kind == .deepExit) = true ∧ q ∈ allSlots)) := by
    refine (h.removeTasks c Task.flushed (fun _ x _ hx => (hflushed x hx).1) (fun q => le_waiveExit v _ q) (fun _ x hx hgone hkind => .inl (.inr ⟨?_, ?_⟩))
      fun _ x _ hx hplace => absurd hplace (hflushed x hx).2).abortTasks _
    · exact List.any_eq_true.mpr ⟨x, List.mem_filter.mpr ⟨hx, hgone⟩, by simp [hkind]⟩
    · exact mem_allSlots x.rank
  unfold State.flush
  refine InOrder.foldl _ (InOrder.foldl_exits (keeps := fun _ => True) (fun u r l _ hu => ⟨trivial, ?_⟩) allSlots trivial hremoved) fun u g hu => ?_
  · split
    · exact hu.replaceExit r (fun q hq => waiveExit_le v fun hp => ⟨hp.1, (List.mem_cons.mp hp.2).resolve_left hq⟩) id id
    · next hnot =>
      refine hu.weaken fun q => waiveExit_le v fun hp => ⟨hp.1, (List.mem_cons.mp hp.2).resolve_left fun hq => hnot ?_⟩
      rw [← hq]
      exact hp.1
  · split
    · exact hu.scanGroup g
    · exact hu

/-! ### The end of a channel reset -/

/-- The mark of a channel reset cleared: the exits of its ranks come due (R107, R166). -/
theorem clearMark (h : s.InOrder w v) (c : Chan) :
    (s.setEngine c { s.engine c with resetMark := false }).InOrder w (waiveExit v (fun q => (s.rank q).channel = some c)) := by
  refine ⟨h.1.setEngine (h.1.place c).2, fun hw => ⟨(h.2 hw).groups, (h.2 hw).home, fun r d g hch hg => ?_⟩⟩
  have hs := h.sound hw hch hg
  rw [State.docket_setEngine]
  split
  · next hd =>
    subst hd
    exact { hs with exits := fun _ he => absurd (.inr hch) he, holds := fun ht => hs.holds ht, cool := fun hb => hs.cool hb }
  · exact hs.weaken (le_waiveExit v _ r)

theorem refreshAfterReset (h : s.InOrder w v) {c : Chan} (hidle : (s.engine c).flight = none) (r : Slot) : (s.refreshAfterReset c r).InOrder w v := by
  unfold State.refreshAfterReset
  split
  · next hr =>
    refine h.ensureRefresh hr.2 fun _ d f hf hfr => ?_
    have hd := ((h.1.place d).2 f hf).1
    rw [hfr, hr.1] at hd
    rw [← Option.some.inj hd, hidle] at hf
    cases hf
  · exact h

theorem foldl_debts {c : Chan} (l : List Slot) (h : s.InOrder w v) (hidle : (s.engine c).flight = none) :
    (l.foldl (fun u r => u.refreshAfterReset c r) s).InOrder w v := by
  induction l generalizing s with
  | nil => exact h
  | cons r l ih => exact ih (s := s.refreshAfterReset c r) (h.refreshAfterReset hidle r) (by rw [s.refreshAfterReset_work c r]; exact hidle)

theorem restored (h : s.InOrder w v) {c : Chan} (hidle : (s.engine c).flight = none) : (s.restored c).InOrder w v := by
  have hflight : ((s.setEngine c { s.engine c with resetMark := false }).engine c).flight = none := by
    rw [State.engine_setEngine_self]
    exact hidle
  have hcleared := h.clearMark c
  have hranks : (s.setEngine c { s.engine c with resetMark := false }).ranks = s.ranks := rfl
  unfold State.restored
  generalize s.setEngine c { s.engine c with resetMark := false } = u at hflight hcleared hranks
  have hlisted : u.InOrder w (waiveExit v (fun q => (s.rank q).channel = some c ∧ q ∈ allSlots)) :=
    hcleared.weaken fun q => waiveExit_le v fun hq => ⟨hq, mem_allSlots q⟩
  have hdebts := hlisted.foldl_debts allSlots hflight
  have hsame := u.foldl_frame_queues (fun u r => u.refreshAfterReset_work c r) allSlots
  refine foldl_exits (p := fun q => (s.rank q).channel = some c) (keeps := fun t => t.ranks = s.ranks) (fun t r l ht hin => ⟨?_, ?_⟩) allSlots (by rw [hsame]; exact hranks) hdebts
  · rw [t.exitAfterReset_work c r]
    exact ht
  · refine hin.exitAfterReset c r (fun q hq => waiveExit_le v fun hp => ⟨hp.1, (List.mem_cons.mp hp.2).resolve_left hq⟩) id id fun hother he => ?_
    have hrank : t.rank r = s.rank r := by rw [State.rank, ht]; rfl
    exact he.imp_right fun hp => absurd hp.1 (by rw [← hrank]; exact hother)

theorem endReset (h : s.InOrder w v) {c : Chan} (hidle : (s.engine c).flight = none) : (s.endReset c).InOrder w v := by
  rw [State.endReset_eq]
  exact InOrder.foldl _ (h.restored hidle).scanAll fun u e hu => hu.complete _ _ _

end State.InOrder

/-! ### The start of a channel reset -/

/-- The waivers with the tokens of the ranks of `p` waived too. -/
def waiveTokens (v : Slot → Waiver) (p : Slot → Prop) : Slot → Waiver := fun q => { v q with token := (v q).token ∨ p q }

/-- A channel resets, and of its work only what is executing is left (R126, R166). -/
def State.Emptied (s : State) (c : Chan) : Prop := (s.engine c).resetMark = true ∧ ∀ x ∈ (s.queue c).tasks, x.executing = true

theorem State.Emptied.scanGroup {s : State} {c : Chan} (h : s.Emptied c) (g : GroupId) : (s.scanGroup g).Emptied c := by
  refine ⟨by rw [s.scanGroup_frame g]; exact h.1, fun x hx => ?_⟩
  obtain hx | ⟨e, -, he, hch, -⟩ := State.mem_scanGroup hx
  · exact h.2 x hx
  · obtain ⟨-, -, -, hmark⟩ := (State.eligible_iff hch).mp he
    rw [h.1] at hmark
    cases hmark

theorem State.Emptied.resetGroup {s : State} {c : Chan} (h : s.Emptied c) (g : GroupId) : (s.resetGroup c g).Emptied c := by
  unfold State.resetGroup
  simp only
  split
  · exact h
  · split
    · split
      · exact State.Emptied.scanGroup (s := (s.freeGroup g).joinTail g _) h g
      · exact h
      · exact h
    · exact h

theorem State.resetGroup_of_held {s : State} {c : Chan} {g : GroupId} {e : Entry} (he : (s.group g).heldEntry = some e)
    (hch : (s.rank e.rank).channel = some c) (hstate : (s.group g).state = .held) :
    s.resetGroup c g = ((s.freeGroup g).joinTail g e).scanGroup g := by
  simp only [State.resetGroup, he, if_pos hch, hstate]

theorem State.resetGroup_of_calibrating {s : State} {c : Chan} {g : GroupId} {e : Entry} (he : (s.group g).heldEntry = some e)
    (hch : (s.rank e.rank).channel = some c) (hstate : (s.group g).state = .calibrating) :
    s.resetGroup c g = s.setGroup g { s.group g with discard := true } := by
  simp [State.resetGroup, he, hch, hstate]

theorem State.resetGroup_of_other {s : State} {c : Chan} {g : GroupId} (h : ∀ e, (s.group g).heldEntry = some e →
    (s.rank e.rank).channel = some c → (s.group g).state = .free) : s.resetGroup c g = s := by
  cases he : (s.group g).heldEntry with
  | none => simp only [State.resetGroup, he]
  | some e =>
    by_cases hch : (s.rank e.rank).channel = some c
    · simp only [State.resetGroup, he, if_pos hch, h e he hch]
    · simp only [State.resetGroup, he, if_neg hch]

namespace State.InOrder

variable {w : Prop} {v v' : Slot → Waiver} {s t : State}

/-- Waived tokens that need no waiver: of ranks that hold none, or whose calibration runs. -/
theorem retoken (h : s.InOrder w v') (hband : ∀ q, (v' q).band → (v q).band) (hexit : ∀ q, (v' q).exit → (v q).exit)
    (htoken : w → ∀ q c g, (s.rank q).channel = some c → (s.rank q).group = some g → (v' q).token →
      (v q).token ∨ (s.group g).heldOf q = none ∨ (s.group g).runningFor q = true) : s.InOrder w v :=
  ⟨h.1, fun hw => ⟨(h.2 hw).groups, (h.2 hw).home, fun r c g hch hg =>
    have hs := h.sound hw hch hg
    { hs with
      cool := fun hb => hs.cool fun hb' => hb (hband r hb')
      exits := fun hb he => hs.exits (fun hb' => hb (hband r hb')) fun he' => he (hexit r he')
      holds := fun ht e he => hs.holds (fun ht' => by
        obtain hv | hnone | hrunning := htoken hw r c g hch hg ht'
        · exact ht hv
        · exact absurd (he.symm.trans hnone) (by simp)
        · exact hrunning) e he }⟩⟩

theorem setMark (h : s.InOrder w v) (c : Chan) (start : Slot) :
    (s.setEngine c { s.engine c with resetMark := true, pointer := start }).InOrder w v := by
  refine ⟨h.1.setEngine (h.1.place c).2, fun hw => ⟨(h.2 hw).groups, (h.2 hw).home, fun r d g hch hg => ?_⟩⟩
  have hs := h.sound hw hch hg
  rw [State.docket_setEngine]
  split
  · next hd =>
    subst hd
    exact { hs with exits := (fun _ _ _ _ hm => nomatch hm), holds := fun ht => hs.holds ht, cool := fun hb => hs.cool hb }
  · exact hs

/-- The queue's part in a channel reset (R126). -/
theorem emptyQueue (h : s.InOrder w v) {c : Chan} (hmark : (s.engine c).resetMark = true) :
    (s.emptyQueue c).InOrder w (waiveTokens v (fun q => (s.rank q).channel = some c)) := by
  have hremoved := h.removeTasks (v' := waiveTokens v (fun q => (s.rank q).channel = some c)) c (fun t => !t.executing)
    (fun _ x _ hx => by simpa using hx) (fun q => ⟨id, id, Or.inl⟩) (fun _ _ _ _ _ => .inr hmark) fun _ x hx _ _ => Or.inr ((h.1.place c).1 x hx).1
  exact hremoved.abortTasks _

/-- The arbiter's part in a channel reset for one group (R92, R93). -/
theorem resetGroup (h : s.InOrder w v') {c : Chan} (hempty : s.Emptied c) (g : GroupId) (hband : ∀ q, (v' q).band → (v q).band)
    (hexit : ∀ q, (v' q).exit → (v q).exit)
    (htoken : ∀ q, (v' q).token → (v q).token ∨ ((s.rank q).channel = some c ∧ (s.rank q).group = some g)) : (s.resetGroup c g).InOrder w v := by
  have hready : ∀ {u : State}, u.InOrder w v' → (∀ q, u.rank q = s.rank q) → (w → ∀ q, (s.rank q).channel = some c → (s.rank q).group = some g →
      (u.group g).heldOf q = none ∨ (u.group g).runningFor q = true) → u.InOrder w v := fun hu hranks hheld =>
    hu.retoken hband hexit fun hw q d g' _ hg' ht => (htoken q ht).imp_right fun ⟨hch, hg⟩ => by
      rw [hranks] at hg'
      rw [Option.some.inj (hg'.symm.trans hg)]
      exact hheld hw q hch hg
  by_cases hother : ∀ e, (s.group g).heldEntry = some e → (s.rank e.rank).channel = some c → (s.group g).state = .free
  · rw [State.resetGroup_of_other hother]
    refine hready h (fun _ => rfl) fun hw q hq _ => .inl (Option.eq_none_iff_forall_ne_some.mpr fun e he => ?_)
    obtain ⟨he, hr⟩ := CalGroup.heldOf_eq_some.mp he
    exact (((h.2 hw).groups g).holder_of_entry he).1 (hother e he (by rw [hr]; exact hq))
  · obtain ⟨e, he, hch, hstate⟩ : ∃ e, (s.group g).heldEntry = some e ∧ (s.rank e.rank).channel = some c ∧ (s.group g).state ≠ .free := by
      simpa using hother
    by_cases hcal : (s.group g).state = .calibrating
    · rw [State.resetGroup_of_calibrating he hch hcal]
      have hmarked : (s.setGroup g { s.group g with discard := true }).InOrder w v' := by
        refine h.setGroup e.rank (fun hw => ?_) (fun _ x hx => .inl ⟨x, hx, rfl⟩) (fun _ _ _ => ⟨rfl, rfl, rfl⟩) (fun _ _ _ => ⟨id, id, id⟩)
          fun _ _ _ _ hs => hs
        obtain ⟨hfree, htimer, -, hheld⟩ := (h.2 hw).groups g
        exact ⟨hfree, htimer, fun _ => hcal, hheld⟩
      refine hready hmarked (fun _ => rfl) fun _ q _ _ => ?_
      rw [State.group_setGroup, if_pos rfl]
      by_cases hq : q = e.rank
      · refine .inr ?_
        simp [CalGroup.runningFor, CalGroup.heldOf, he, hcal, hq]
      · exact .inl (CalGroup.Regular.heldOf_of_ne (x := { s.group g with discard := true }) he hq).1
    · have hheldNow : (s.group g).state = .held := by
        cases hstage : (s.group g).state with
        | free => exact absurd hstage hstate
        | held => rfl
        | calibrating => exact absurd hstage hcal
      rw [State.resetGroup_of_held he hch hheldNow]
      have hwaived : s.InOrder w (waiveToken v e.rank) := by
        refine h.retoken (fun q hb => ?_) (fun q hb => ?_) fun hw q d g' _ hg' ht => ?_
        all_goals by_cases hq : q = e.rank
        · rw [hq, waiveToken_self]
          rw [hq] at hb
          exact hband _ hb
        · rw [waiveToken_of_ne v hq]
          exact hband q hb
        · rw [hq, waiveToken_self]
          rw [hq] at hb
          exact hexit _ hb
        · rw [waiveToken_of_ne v hq]
          exact hexit q hb
        · rw [hq, waiveToken_self]
          exact .inl trivial
        · rw [waiveToken_of_ne v hq]
          refine (htoken q ht).imp_right fun ⟨_, hg⟩ => .inl ?_
          rw [Option.some.inj (hg'.symm.trans hg)]
          exact (CalGroup.Regular.heldOf_of_ne he hq).1
      refine InOrder.scanGroup (InOrder.join (s := s.freeGroup g) (e := e) (l := ((s.freeGroup g).group g).waiting ++ [e])
        (hwaived.freeGroup he fun hw d hd x hx hr hplace => ?_) (.inl rfl) fun hw => ?_) g
      · obtain rfl := Option.some.inj (hch.symm.trans hd)
        have hwaits := h.held_waits hw he hheldNow hch x hx hr hplace
        rw [hempty.2 x hx] at hwaits
        cases hwaits
      · obtain ⟨hg, hwaiting, hoffline, hrev, hkind⟩ := h.holder_entry hw he
        refine ⟨hg, ?_, ?_, hoffline, hrev, hkind⟩
        · rw [State.freeGroup, State.group_setGroup, if_pos rfl]
          rfl
        · rw [State.freeGroup, State.group_setGroup, if_pos rfl]
          exact hwaiting

theorem resetGroup_ranks (s : State) (c : Chan) (g : GroupId) : (s.resetGroup c g).ranks = s.ranks := by
  unfold State.resetGroup
  simp only
  split
  · rfl
  · split
    · split
      · rw [State.scanGroup_frame]
        rfl
      · rfl
      · rfl
    · rfl

theorem foldl_resetGroup {c : Chan} (l : List GroupId) {k : Vector Rank 8} (hk : s.ranks = k) (hempty : s.Emptied c)
    (h : s.InOrder w (waiveTokens v (fun q => (k[q]).channel = some c ∧ ∃ g ∈ l, (k[q]).group = some g))) :
    (l.foldl (fun s g => s.resetGroup c g) s).InOrder w v := by
  induction l generalizing s with
  | nil => exact h.weaken fun q => ⟨id, id, fun ht => ht.elim id fun ht => nomatch ht.2⟩
  | cons g l ih =>
    refine ih ((resetGroup_ranks s c g).trans hk) (hempty.resetGroup g) (h.resetGroup hempty g (fun _ => id) (fun _ => id) fun q ht => ?_)
    obtain ht | ⟨hch, g', hg', hq⟩ := ht
    · exact .inl (.inl ht)
    · obtain rfl | hg' := List.mem_cons.mp hg'
      · refine .inr ?_
        rw [State.rank, hk]
        exact ⟨hch, hq⟩
      · exact .inl (.inr ⟨hch, g', hg', hq⟩)

theorem dropRequest (h : s.InOrder w v) (c : Chan) (cause : ReleaseCause) : (s.dropRequest c cause).InOrder w v := by
  rw [State.dropRequest_eq]
  split
  · exact (h.setNego c _).scanAll
  · exact h.setNego c _

theorem standby (h : s.InOrder w v) (c : Chan) : (s.standby c).InOrder w v := h.setEngine

/-- RESET_CHANNEL (R174). -/
theorem resetChannel (h : s.InOrder w v) (c : Chan) : (s.resetChannel c).InOrder w v := by
  unfold State.resetChannel
  simp only
  have hmarked := h.setMark c 0
  have hmark : ((s.setEngine c { s.engine c with resetMark := true, pointer := 0 }).engine c).resetMark = true := by
    rw [State.engine_setEngine_self]
  generalize s.setEngine c { s.engine c with resetMark := true, pointer := 0 } = u at hmarked hmark
  have hempty : (u.emptyQueue c).Emptied c := by
    unfold State.emptyQueue
    simp only
    have hsame := State.SameWork.abortTasks (u.removeTasks c (fun t => !t.executing)) (((u.queue c).tasks.filter (fun t => !t.executing)).filter Task.hostOwned)
    refine ⟨by rw [hsame.engine]; exact hmark, fun x hx => ?_⟩
    rw [hsame.queue, State.removeTasks, State.queue_setQueue_self] at hx
    simpa using (List.mem_filter.mp hx).2
  have hemptied := hmarked.emptyQueue hmark
  have hranks : (u.emptyQueue c).ranks = u.ranks := by
    unfold State.emptyQueue
    exact (State.SameWork.abortTasks _ _).1
  generalize u.emptyQueue c = t at hempty hemptied hranks
  have htaken := InOrder.dropRequest (foldl_resetGroup (v := v) allGroups (k := u.ranks) hranks hempty (hemptied.retoken (fun _ => id) (fun _ => id)
    fun hw q d g _ hg ht => .inl (ht.imp_right fun hch => ⟨hch, g, mem_allGroups g, by rw [State.rank, hranks] at hg; exact hg⟩))) c .reset
  split
  · exact htaken
  · next hflight =>
    exact (htaken.standby c).endReset (by
      rw [State.standby, State.engine_setEngine_self]
      simpa using hflight)

end State.InOrder

/-! ### Starts -/

/-- A task marked as executing. -/
def Task.started (x u : Task) : Task := if u = x then { u with executing := true } else u

theorem Task.started_self (x : Task) : x.started x = { x with executing := true } := if_pos rfl

theorem Task.started_keeps (x u : Task) : (x.started u).rank = u.rank ∧ (x.started u).kind = u.kind ∧ (x.started u).cls = u.cls ∧
    (x.started u).origin = u.origin ∧ (x.started u).tag = u.tag := by
  unfold Task.started
  split <;> exact ⟨rfl, rfl, rfl, rfl, rfl⟩

theorem Task.started_executing {x u : Task} (hu : u.executing = false) : (x.started u).executing = true ↔ u = x := by
  unfold Task.started
  split
  · next h => simp [h]
  · next h => simp [h, hu]

/-- A task of a docket without a task in flight starts (R84, R159). -/
theorem Docket.Sound.start {w : Waiver} {d : Docket} (h : d.Sound w) (hidle : d.flight = none) {x : Task} (hx : x ∈ d.tasks)
    (halone : x.kind = .deepEnter → ∀ y ∈ d.tasks, y.kind = .deepEnter) {b : Bool}
    (hb : b = if x.kind.place = .calibration then true else d.running) :
    ({ d with tasks := d.tasks.map x.started, flight := some (.task x.kind), running := b } : Docket).Sound w := by
  have hwaits : ∀ y ∈ d.tasks, y.executing = false := fun y hy => by
    by_contra hrun
    have hflight := h.runs y hy (by simpa using hrun)
    rw [hidle] at hflight
    cases hflight
  have hkind : ∀ y, (x.started y).kind = y.kind := fun y => (x.started_keeps y).2.1
  refine ⟨?_, List.forall_mem_map.mpr fun y hy => ?_, List.forall_mem_map.mpr fun y hy => ?_,
    List.forall_mem_map.mpr fun y hy hk => List.forall_mem_map.mpr fun z hz hne => ?_, List.forall_mem_map.mpr fun y hy => ?_,
    List.forall_mem_map.mpr fun y hy hrun => ?_, fun k hk => ?_, List.forall_mem_map.mpr fun y hy => ?_,
    fun e he => List.forall_mem_map.mpr fun y hy hplace => ?_, h.single, h.entries, fun hw => List.forall_mem_map.mpr fun y hy => ?_,
    fun hw hw' hdeep hband hmark => ?_, fun hw e he => ?_⟩
  · refine List.pairwise_map.mpr (h.places.imp fun {y z} hne => ?_)
    rw [hkind, hkind]
    exact hne
  · rw [hkind, (x.started_keeps y).2.2.2.1, (x.started_keeps y).2.2.1]
    exact h.leaving y hy
  · rw [hkind, (x.started_keeps y).2.2.2.1, (x.started_keeps y).2.2.1]
    exact h.entering y hy
  · rw [hkind] at hk hne ⊢
    refine ⟨(h.beside y hy hk z hz hne).1, ?_⟩
    rw [← Bool.not_eq_true, Task.started_executing (hwaits y hy)]
    rintro rfl
    exact hne (halone hk z hz)
  · rw [hkind]
    exact h.fits y hy
  · rw [Task.started_executing (hwaits y hy)] at hrun
    rw [hkind, hrun]
  · exact .inr ⟨x.started x, List.mem_map_of_mem hx, (Task.started_executing (hwaits x hx)).mpr rfl, by rw [hkind]; exact (Option.some.inj hk).symm⟩
  · rw [hkind]
    exact h.calibrates y hy
  · rw [hkind] at hplace ⊢
    obtain ⟨hk, hcls, htag, hrun⟩ := h.agrees e he y hy hplace
    refine ⟨hk, (x.started_keeps y).2.2.1.trans hcls, (x.started_keeps y).2.2.2.2.trans htag, ?_⟩
    rw [Task.started_executing (hwaits y hy)]
    show y = x ↔ b = true
    rw [hb]
    split
    · next hcal => exact ⟨fun _ => rfl, fun _ => h.eq_of_place hy hx (hplace.trans hcal.symm)⟩
    · next hcal =>
      rw [← hrun, hwaits y hy]
      refine ⟨fun hyx => absurd (by rw [← hyx]; exact hplace) hcal, fun hf => nomatch hf⟩
  · rw [hkind]
    intro hk hrun
    refine h.cool hw y hy hk (hwaits y hy)
  · obtain ⟨y, hy, hk, hout⟩ := h.exits hw hw' hdeep hband hmark
    refine ⟨x.started y, List.mem_map_of_mem hy, (hkind y).trans hk, .inl ?_⟩
    rw [(x.started_keeps y).2.2.1]
    exact hout.resolve_right (by rw [hwaits y hy]; decide)
  · by_cases hcal : x.kind.place = .calibration
    · exact ⟨x.started x, List.mem_map_of_mem hx, by rw [hkind]; exact hcal⟩
    · rw [if_neg hcal] at hb
      obtain ⟨y, hy, hplace⟩ := h.holds (fun ht => hb.symm.trans (hw ht)) e he
      exact ⟨x.started y, List.mem_map_of_mem hy, by rw [hkind]; exact hplace⟩

/-- A group as the start of a task of its holder leaves it (R84). -/
def CalGroup.startedFor (k : CalGroup) (kind : TaskKind) : CalGroup :=
  if kind.place = .calibration then { k with state := .calibrating, tokenTimer := none } else k

theorem CalGroup.startedFor_keeps (k : CalGroup) (kind : TaskKind) : (k.startedFor kind).heldEntry = k.heldEntry ∧
    (k.startedFor kind).waiting = k.waiting ∧ (k.startedFor kind).holder = k.holder := by
  unfold CalGroup.startedFor
  split <;> exact ⟨rfl, rfl, rfl⟩

theorem CalGroup.startedFor_heldOf (k : CalGroup) (kind : TaskKind) (r : Slot) : (k.startedFor kind).heldOf r = k.heldOf r := by
  rw [CalGroup.heldOf, (k.startedFor_keeps kind).1]
  rfl

theorem CalGroup.startedFor_runningFor {k : CalGroup} {kind : TaskKind} {r : Slot} (h : kind.place = .calibration → (k.heldOf r).isSome = true) :
    (k.startedFor kind).runningFor r = if kind.place = .calibration then true else k.runningFor r := by
  rw [CalGroup.runningFor, k.startedFor_heldOf kind]
  unfold CalGroup.startedFor
  split
  · next hcal => simp [h hcal]
  · rfl

theorem CalGroup.startedFor_others {k : CalGroup} {kind : TaskKind} {r q : Slot} (h : kind.place = .calibration → (k.heldOf r).isSome = true)
    (hq : q ≠ r) : (k.startedFor kind).heldOf q = k.heldOf q ∧ (k.startedFor kind).runningFor q = k.runningFor q ∧
      (k.startedFor kind).waitingOf q = k.waitingOf q := by
  refine ⟨k.startedFor_heldOf kind q, ?_, by rw [CalGroup.waitingOf, (k.startedFor_keeps kind).2.1]; rfl⟩
  by_cases hplace : kind.place = .calibration
  · obtain ⟨e, he⟩ := Option.isSome_iff_exists.mp (h hplace)
    obtain ⟨hentry, her⟩ := CalGroup.heldOf_eq_some.mp he
    have hne : q ≠ e.rank := fun hqe => hq (hqe.trans her)
    rw [(CalGroup.Regular.heldOf_of_ne hentry hne).2, (CalGroup.Regular.heldOf_of_ne ((k.startedFor_keeps kind).1.trans hentry) hne).2]
  · rw [CalGroup.startedFor, if_neg hplace]

/-- A queue with a task marked, and an engine replaced (R159 step 1). -/
def State.startedAs (s : State) (c : Chan) (x : Task) (e : Engine) : State := (s.mapTasks c x.started).setEngine c e

namespace State.InOrder

variable {w : Prop} {v v' : Slot → Waiver} {s t : State}

/-- A task started on an engine that executes nothing, with its group's part (R84, R159). -/
theorem startedAs (h : s.InOrder w v) {c : Chan} {x : Task} {e : Engine} {f : Flight} {g : GroupId} (hx : x ∈ (s.queue c).tasks)
    (hg : (s.rank x.rank).group = some g) (hidle : w → (s.engine c).flight = none) (hflight : e.flight = some f) (hf : f.rank = x.rank)
    (hkind : f.kind = .task x.kind) (hmark : e.resetMark = (s.engine c).resetMark) (hlaw : (s.rank x.rank).FlightLaw (.task x.kind))
    (halone : w → x.kind = .deepEnter → ∀ y ∈ (s.queue c).tasks, y.rank = x.rank → y.kind = .deepEnter) :
    ((s.startedAs c x e).setGroup g ((s.group g).startedFor x.kind)).InOrder w v := by
  have hch := ((h.1.place c).1 x hx).1
  have hrankOf : ∀ y, (x.started y).rank = y.rank := fun y => (x.started_keeps y).1
  have hmine : w → (s.docket c g x.rank).Sound (v x.rank) := fun hw => h.sound hw hch hg
  have hheld : w → x.kind.place = .calibration → ((s.group g).heldOf x.rank).isSome = true := fun hw hplace =>
    (hmine hw).calibrates x (mem_tasksOf.mpr ⟨hx, rfl⟩) hplace
  have hmarked : (s.mapTasks c x.started).RankLaw := h.1.setQueue fun y hy => by
    obtain ⟨z, hz, rfl⟩ := List.mem_map.mp hy
    exact .inl ⟨z, hz, (hrankOf z).symm⟩
  have hstarted : (s.startedAs c x e).RankLaw := hmarked.setEngine fun f' hf' => by
    rw [Option.mem_def, hflight] at hf'
    rw [← Option.some.inj hf', hf, hkind]
    exact ⟨hch, hlaw⟩
  have hgroup : ∀ g', ((s.startedAs c x e).setGroup g ((s.group g).startedFor x.kind)).group g' =
      if g' = g then (s.group g).startedFor x.kind else s.group g' := fun g' => State.group_setGroup ..
  refine h.step x.rank (hstarted.congr (fun _ => rfl) (fun _ => rfl) fun _ => rfl) (fun _ _ => rfl) rfl rfl (fun hw g' => ?_) (fun hw g' e' he' => .inl ?_)
    (fun hw q hq d g' hd hg' hs => ?_) fun hw d g' hd hg' hs => ?_
  · rw [hgroup]
    split
    · obtain ⟨hfree, htimer, hdiscard, hheldEntry⟩ := (h.2 hw).groups g
      unfold CalGroup.startedFor
      split
      · next hplace =>
        obtain ⟨e', he'⟩ := Option.isSome_iff_exists.mp (hheld hw hplace)
        obtain ⟨hentry, -⟩ := CalGroup.heldOf_eq_some.mp he'
        exact ⟨(fun hs => nomatch hs), by simp, fun _ => rfl, fun _ => ⟨e', hentry, (((h.2 hw).groups g).holder_of_entry hentry).2⟩⟩
      · exact ⟨hfree, htimer, hdiscard, hheldEntry⟩
    · exact (h.2 hw).groups g'
  · rw [hgroup] at he'
    split at he'
    · next hgg =>
      rw [CalGroup.entries, ((s.group g).startedFor_keeps x.kind).1, ((s.group g).startedFor_keeps x.kind).2.1] at he'
      rw [hgg]
      exact ⟨e', he', rfl⟩
    · exact ⟨e', he', rfl⟩
  · have hsame : ((s.startedAs c x e).setGroup g ((s.group g).startedFor x.kind)).docket d g' q = s.docket d g' q := by
      have hothers : ((s.startedAs c x e).setGroup g ((s.group g).startedFor x.kind) |>.group g').heldOf q = (s.group g').heldOf q ∧
          ((s.startedAs c x e).setGroup g ((s.group g).startedFor x.kind) |>.group g').runningFor q = (s.group g').runningFor q ∧
          ((s.startedAs c x e).setGroup g ((s.group g).startedFor x.kind) |>.group g').waitingOf q = (s.group g').waitingOf q := by
        rw [hgroup]
        split
        · next hgg =>
          rw [hgg]
          exact CalGroup.startedFor_others (hheld hw) hq
        · exact ⟨rfl, rfl, rfl⟩
      refine State.docket_congr (t := (s.startedAs c x e).setGroup g _) rfl ?_ ?_ ?_ ?_ ?_ ?_
      · show tasksOf ((s.mapTasks c x.started).queue d).tasks q = _
        rw [State.mapTasks, State.queue_setQueue]
        split
        · next hdc =>
          rw [hdc]
          refine tasksOf_map_of_others (fun y _ => hrankOf y) fun y _ hy => if_neg fun hyx => hq ?_
          rw [← hy, hyx]
        · rfl
      · show ((s.mapTasks c x.started).setEngine c e |>.engine d).flightOf q = _
        rw [State.engine_setEngine]
        split
        · next hdc =>
          have hother : (s.engine d).flightOf q = none := Engine.flightOf_eq_none fun f' hf' => by
            rw [hdc, hidle hw] at hf'
            cases hf'
          rw [hother]
          exact Engine.flightOf_eq_none fun f' hf' => by
            rw [Option.mem_def, hflight] at hf'
            rw [← Option.some.inj hf', hf]
            exact Ne.symm hq
        · rfl
      · show ((s.mapTasks c x.started).setEngine c e |>.engine d).resetMark = _
        rw [State.engine_setEngine]
        split
        · next hdc => rw [hdc, hmark]
        · rfl
      · exact hothers.1
      · exact hothers.2.1
      · exact hothers.2.2
    rw [hsame]
    exact hs
  · obtain rfl := Option.some.inj (hch.symm.trans hd)
    obtain rfl := Option.some.inj (hg.symm.trans hg')
    have hnone : (s.docket c g x.rank).flight = none := Engine.flightOf_eq_none fun f' hf' => by
      rw [hidle hw] at hf'
      cases hf'
    have hnow : e.flightOf x.rank = some (.task x.kind) := Engine.flightOf_eq_some.mpr ⟨f, hflight, hf, hkind⟩
    have hstart := hs.start hnone (mem_tasksOf.mpr ⟨hx, rfl⟩) (fun hk y hy => halone hw hk y (mem_tasksOf.mp hy).1 (mem_tasksOf.mp hy).2)
      (CalGroup.startedFor_runningFor (hheld hw))
    rw [State.docket_setGroup, if_pos rfl, State.startedAs, State.docket_setEngine, if_pos rfl, State.mapTasks, State.docket_setQueue, if_pos rfl,
      hnow, hmark, CalGroup.startedFor_heldOf, tasksOf_map fun y _ => hrankOf y, CalGroup.waitingOf, ((s.group g).startedFor_keeps x.kind).2.1]
    exact hstart

end State.InOrder

/-! ### Selections -/

theorem FlightKind.fits_of_serves {s : State} {x : Task} (h : s.serves x) : (FlightKind.task x.kind).fits (s.rank x.rank).state = true := by
  unfold State.serves at h
  generalize (s.rank x.rank).state = st at h ⊢
  cases hk : x.kind <;> simp only [hk, reduceCtorEq, if_true, if_false] at h
  case deepExit => rw [h]; rfl
  case deepEnter => rcases h with rfl | rfl <;> rfl
  all_goals rcases h with rfl | rfl | rfl <;> rfl

/-- The account of a DEEP_ENTER's rank may be closed before its start (R41, R159). -/
theorem State.startedAs_closed {s : State} {c : Chan} {x : Task} (hch : (s.rank x.rank).channel = some c) (hkind : x.kind = .deepEnter) (e : Engine)
    (n : Nat) : (s.startedAs c x e).ownersStart x.rank .deepEnter n = (s.ownersStart x.rank .deepEnter n).startedAs c x e := by
  have hclose : ∀ u : State, (u.rank x.rank).channel = some c → u.ownersStart x.rank .deepEnter n =
      (u.removeTasks c (fun t => t.rank == x.rank && t.kind == .refresh && !t.executing)).setRank x.rank
        { u.rank x.rank with balance := 0, urgent := false, interval := none, periodic := none } := fun u hu => by
    have hset : ((u.setRank x.rank { u.rank x.rank with balance := 0, urgent := false, interval := none }).rank x.rank).channel = some c := by
      rw [State.rank_setRank_self]
      exact hu
    have hclosed : u.closeAccount x.rank = (u.setRank x.rank { u.rank x.rank with balance := 0, urgent := false, interval := none }).removeTasks c
        (fun t => t.rank == x.rank && t.kind == .refresh && !t.executing) := by
      rw [State.closeAccount, State.withdrawRefresh, hset]
    show (u.closeAccount x.rank).setRank x.rank { (u.closeAccount x.rank).rank x.rank with periodic := none } = _
    rw [hclosed, State.removeTasks, State.rank_of_setQueue, State.rank_setRank_self]
    generalize u.rank x.rank = k
    simp only [State.removeTasks, State.setQueue, State.setRank, Vector.set_set]
    rfl
  rw [hclose s hch, hclose (s.startedAs c x e) hch]
  have hfilter : ((s.queue c).tasks.map x.started).filter (fun t => !(t.rank == x.rank && t.kind == .refresh && !t.executing)) =
      ((s.queue c).tasks.filter (fun t => !(t.rank == x.rank && t.kind == .refresh && !t.executing))).map x.started := by
    rw [List.filter_map]
    congr 1
    refine List.filter_congr fun u _ => ?_
    by_cases hu : u = x
    · simp [hu, Task.started_self, hkind]
    · rw [Function.comp_apply, Task.started, if_neg hu]
  simp only [State.startedAs, State.removeTasks, State.mapTasks, State.queue_of_setEngine, State.queue_setQueue_self, State.queue_of_setRank, hfilter]
  simp only [State.setQueue, State.setEngine, State.setRank, PerChan.set_set]
  rfl

namespace State.InOrder

variable {w : Prop} {v v' : Slot → Waiver} {s t : State}

theorem startedAs_plain (h : s.InOrder w v) {c : Chan} {x : Task} {e : Engine} {f : Flight} (hx : x ∈ (s.queue c).tasks)
    (hplain : x.kind.place ≠ .calibration) (hidle : w → (s.engine c).flight = none) (hflight : e.flight = some f) (hf : f.rank = x.rank)
    (hkind : f.kind = .task x.kind) (hmark : e.resetMark = (s.engine c).resetMark) (hlaw : (s.rank x.rank).FlightLaw (.task x.kind))
    (halone : w → x.kind = .deepEnter → ∀ y ∈ (s.queue c).tasks, y.rank = x.rank → y.kind = .deepEnter) : (s.startedAs c x e).InOrder w v := by
  obtain ⟨g, hg⟩ := h.1.group_of_channel ((h.1.place c).1 x hx).1
  have hstarted := h.startedAs hx hg hidle hflight hf hkind hmark hlaw halone
  rw [CalGroup.startedFor, if_neg hplain] at hstarted
  rw [← State.setGroup_group_same (s.startedAs c x e) g]
  exact hstarted

/-- The account of a rank closed (R41, R102). -/
theorem closed (h : s.InOrder w v) (r : Slot) (n : Nat) : (s.ownersStart r .deepEnter n).InOrder w v := by
  obtain ⟨-, hsettle, hperiodic, hchannel, hgroup⟩ := h.1.1 r
  exact ((h.setRank_quiet (k := { s.rank r with balance := 0, urgent := false, interval := none })
    ⟨(fun hi => nomatch hi), hsettle, hperiodic, hchannel, hgroup⟩
    (hflight := fun _ _ _ _ hlaw => ⟨hlaw.1, fun hk => ⟨rfl, (hlaw.2 hk).2⟩⟩)).withdrawRefresh r).stoppedPeriodic r

/-- A queued task started (R159). -/
theorem startTask (h : s.InOrder w v) {c : Chan} {x : Task} {p : Plan} (hx : x ∈ (s.queue c).tasks) (hplan : s.planTask c x = some p)
    (hidle : w → (s.engine c).flight = none) : (s.startTask c x p).InOrder w v := by
  have hch := ((h.1.place c).1 x hx).1
  obtain ⟨hwaits, hserves, -⟩ := State.planTask_of_some hplan
  have hfits := FlightKind.fits_of_serves hserves
  obtain ⟨e, he, f, hflight, hf, hkind, hmark⟩ : ∃ e, s.marked c x p = s.startedAs c x e ∧ ∃ f, e.flight = some f ∧ f.rank = x.rank ∧
      f.kind = .task x.kind ∧ e.resetMark = (s.engine c).resetMark := ⟨_, rfl, _, rfl, rfl, rfl, rfl⟩
  rw [State.startTask_eq, he]
  by_cases hdeep : x.kind = .deepEnter
  · rw [hdeep, State.startedAs_closed hch hdeep]
    have hclosed := h.closed x.rank p.n
    have hxc : x ∈ ((s.ownersStart x.rank .deepEnter p.n).queue c).tasks := by
      have hset : ((s.setRank x.rank { s.rank x.rank with balance := 0, urgent := false, interval := none }).rank x.rank).channel = some c := by
        rw [State.rank_setRank_self]
        exact hch
      show x ∈ (((s.setRank x.rank _).withdrawRefresh x.rank).queue c).tasks
      rw [State.withdrawRefresh, hset]
      simp only [State.removeTasks, State.queue_setQueue_self]
      exact List.mem_filter.mpr ⟨hx, by simp [hdeep]⟩
    have hengine : (s.ownersStart x.rank .deepEnter p.n).engine c = s.engine c := by
      show ((s.setRank x.rank _).withdrawRefresh x.rank).engine c = _
      unfold State.withdrawRefresh
      split <;> rfl
    have hrank : (s.ownersStart x.rank .deepEnter p.n).rank x.rank =
        { s.rank x.rank with balance := 0, urgent := false, interval := none, periodic := none } := State.closed_rank s x.rank
    refine hclosed.startedAs_plain hxc (by rw [hdeep]; decide) (by rw [hengine]; exact hidle) hflight hf hkind (by rw [hengine]; exact hmark)
      (by rw [hrank]; exact ⟨hfits, fun _ => ⟨rfl, rfl⟩⟩) fun hw _ y hy hyr => by_contra fun hne => ?_
    obtain ⟨g, hg⟩ := hclosed.1.group_of_channel ((hclosed.1.place c).1 x hxc).1
    have hs := hclosed.sound hw ((hclosed.1.place c).1 x hxc).1 hg
    have hrefresh := (hs.beside x (mem_tasksOf.mpr ⟨hxc, rfl⟩) hdeep y (mem_tasksOf.mpr ⟨hy, hyr⟩) hne).1
    have hrun := State.closed_none hch y hy hyr hrefresh
    obtain ⟨f', hf', -⟩ := Engine.flightOf_eq_some.mp (hs.runs y (mem_tasksOf.mpr ⟨hy, hyr⟩) hrun)
    rw [hengine, hidle hw] at hf'
    cases hf'
  · have hlaw : (s.rank x.rank).FlightLaw (.task x.kind) := ⟨hfits, fun hk => absurd (FlightKind.task.inj hk) hdeep⟩
    by_cases hcal : x.kind.place = .calibration
    · obtain ⟨g, hg⟩ := h.1.group_of_channel hch
      have hstarted := h.startedAs hx hg hidle hflight hf hkind hmark hlaw fun _ hk => absurd hk hdeep
      rw [CalGroup.startedFor, if_pos hcal] at hstarted
      have howners : (s.startedAs c x e).ownersStart x.rank x.kind p.n = (s.startedAs c x e).startCalibrating x.rank := by
        cases hk : x.kind with
        | calShort | calLong => rfl
        | refresh | refreshNow | napEnter | napExit | deepEnter | deepExit =>
          rw [hk] at hcal
          cases hcal
      rw [howners, State.startCalibrating, show ((s.startedAs c x e).rank x.rank).group = some g from hg]
      exact hstarted
    · have hstarted := h.startedAs_plain hx hcal hidle hflight hf hkind hmark hlaw fun _ hk => absurd hk hdeep
      cases hk : x.kind with
      | refresh => exact hstarted.writeBalance x.rank _
      | refreshNow => exact hstarted.creditAhead x.rank p.n
      | calShort | calLong => exact absurd (by rw [hk]; rfl) hcal
      | deepEnter => exact absurd hk hdeep
      | napEnter | napExit | deepExit => exact hstarted

/-- A fill task started (R40). -/
theorem startFill (h : s.InOrder w v) {c : Chan} {r : Slot} (hq : s.fillQualifies c r = true) (hidle : w → (s.engine c).flight = none) :
    (s.startFill c r).InOrder w v := by
  obtain ⟨hch, hstate, -⟩ := State.fillQualifies_iff.mp hq
  have hserved : (s.rank r).state.served = true := by rcases hstate with hs | hs <;> rw [hs] <;> rfl
  rw [State.startFill_eq]
  refine InOrder.creditAhead ⟨h.1.setEngine fun f hf => ?_, fun hw => ⟨(h.2 hw).groups, (h.2 hw).home, fun q d g hd hg => ?_⟩⟩ r _
  · obtain rfl := Option.some.inj hf
    exact ⟨hch, hserved, fun hk => nomatch hk⟩
  · have hs := h.sound hw hd hg
    rw [State.docket_setEngine]
    split
    · next hdc =>
      have hnone : (s.docket d g q).flight = none := Engine.flightOf_eq_none fun f hf => by
        rw [hdc, hidle hw] at hf
        cases hf
      have hfill : ∀ k, (s.engine c |>.begun s.now (s.fillFlight c r) none (r + 1)).flightOf q = some k → k = .fill := fun k hk => by
        obtain ⟨f, hf, -, rfl⟩ := Engine.flightOf_eq_some.mp hk
        rw [← Option.some.inj hf]
        rfl
      subst hdc
      exact { hs with
        runs := fun x hx hrun => by
          have hflight := hs.runs x hx hrun
          rw [hnone] at hflight
          cases hflight
        flies := fun k hk => .inl (hfill k hk)
        cool := fun hb => hs.cool hb
        exits := fun hb => hs.exits hb
        holds := fun ht => hs.holds ht }
    · exact hs

theorem enterReleasing (h : s.InOrder w v) (c : Chan) (cause : ReleaseCause) : (s.enterReleasing c cause).InOrder w v := h.setNego c _

theorem reportDone (h : s.InOrder w v) (c : Chan) : (s.reportDone c).InOrder w v := (h.enterReleasing c .done).standby c

/-- A task of zero duration completed at its selection (R38, R110, R155). -/
theorem finishInstant (h : s.InOrder w v) {c : Chan} {x : Task} {p : Plan} (hplan : s.planTask c x = some p) (hinstant : p.instant = true) :
    (s.finishInstant c x).InOrder w v := by
  obtain ⟨hwaits, -, hlost, -⟩ := State.planTask_of_some hplan
  rw [State.finishInstant_eq]
  refine InOrder.completeTag (h.removeTasks_plain c _ (fun y _ hy => by rw [of_decide_eq_true hy]; exact hwaits) fun y _ hy => ?_) _ _ _
  have hkind := hlost.mp hinstant
  rw [of_decide_eq_true hy]
  unfold State.losesPurpose at hkind
  cases hk : x.kind <;> simp [hk, TaskKind.place] at hkind ⊢

theorem select (h : s.InOrder w v) {c : Chan} (hidle : w → (s.engine c).flight = none) (fuel : Nat) : (State.select c fuel s).InOrder w v := by
  induction fuel generalizing s with
  | zero => exact h.reportDone c
  | succ fuel ih =>
    unfold State.select
    split
    · next x p hfind =>
      obtain ⟨hx, hplan⟩ := State.findPlan_some hfind
      split
      · next hinstant =>
        refine ih (h.finishInstant hplan hinstant) ?_
        rw [State.finishInstant_eq, (State.SameWork.completeTag _ _ _ _).engine]
        exact hidle
      · exact h.startTask hx hplan hidle
    · split
      · next r hfill =>
        unfold State.fillChoice at hfill
        split at hfill
        · exact h.startFill (List.find?_some hfill) hidle
        · cases hfill
      · exact h.reportDone c

theorem runSelection (h : s.InOrder w v) {c : Chan} (hidle : w → (s.engine c).flight = none) : (s.runSelection c).InOrder w v := by
  have hactive : (s.setEngine c { s.engine c with state := .active }).InOrder w v := h.setEngine
  refine hactive.select ?_ _
  rw [State.engine_setEngine_self]
  exact hidle

theorem recalled (h : s.InOrder w v) (c : Chan) : (s.recall c).InOrder w v := by
  unfold State.recall
  simp only
  split
  · exact h.setNego c _
  · exact (h.setNego c _).enterReleasing c .recall

theorem openEngine (h : s.InOrder w v) {c : Chan} (hidle : w → (s.engine c).flight = none) : (s.openEngine c).InOrder w v := by
  have hloaded : (s.setEngine c { s.engine c with budget := s.timing.windowBudget, sampled := none, state := .active }).InOrder w v := h.setEngine
  unfold State.openEngine
  simp only
  split
  · exact (hloaded.recalled c).standby c
  · refine hloaded.runSelection ?_
    rw [State.engine_setEngine_self]
    exact hidle

theorem grantRise (h : s.InOrder w v) {c : Chan} (hidle : w → (s.nego c).state = .requesting ∨ (s.nego c).state = .stalled → (s.engine c).flight = none) :
    (s.grantRise c).InOrder w v := by
  unfold State.grantRise
  simp only
  split
  · exact (h.setNego c _).notice _
  · next hstate => exact ((h.setNego c _).setNego c _).openEngine fun hw => hidle hw (.inl hstate)
  · next hstate =>
    refine (((h.setNego c _).notice _).setNego c _).scanAll.openEngine fun hw => ?_
    rw [State.scanAll_frame]
    show ((State.notice _ _).engine c).flight = none
    rw [(State.SameWork.notice _ _).engine]
    exact hidle hw (.inr hstate)
  · split
    · exact (h.setNego c _).notice _
    · exact h.setNego c _
  all_goals exact h.setNego c _

end State.InOrder

/-! ### The end of a task in flight -/

namespace Docket.Sound

variable {w w' : Waiver} {d : Docket}

/-- The task in flight, if it is the rank's, is gone, and it was no calibration (R123, R161). -/
theorem drop (h : d.Sound w) (hplain : ∀ k, d.flight = some (.task k) → k.place ≠ .calibration) (hband : w.band → w'.band)
    (hexit : w.exit ∨ d.flight = some (.task .deepExit) → w'.exit) (htoken : w.token → w'.token) :
    ({ d with tasks := d.tasks.filter (fun x => !x.executing), flight := none } : Docket).Sound w' where
  places := h.places.filter _
  leaving x hx := h.leaving x (List.mem_of_mem_filter hx)
  entering x hx := h.entering x (List.mem_of_mem_filter hx)
  beside x hx hkind y hy := h.beside x (List.mem_of_mem_filter hx) hkind y (List.mem_of_mem_filter hy)
  fits x hx := h.fits x (List.mem_of_mem_filter hx)
  runs x hx hrun := by
    have hwaits := (List.mem_filter.mp hx).2
    rw [hrun] at hwaits
    cases hwaits
  flies _ hk := nomatch hk
  calibrates x hx := h.calibrates x (List.mem_of_mem_filter hx)
  agrees e he x hx := h.agrees e he x (List.mem_of_mem_filter hx)
  single := h.single
  entries := h.entries
  cool hw x hx := h.cool (fun hb => hw (hband hb)) x (List.mem_of_mem_filter hx)
  exits hw hw' hdeep hband' hmark := by
    obtain ⟨x, hx, hkind, hout⟩ := h.exits (fun hb => hw (hband hb)) (fun he => hw' (hexit (.inl he))) hdeep hband' hmark
    refine ⟨x, List.mem_filter.mpr ⟨hx, ?_⟩, hkind, hout⟩
    by_contra hrun
    have hflight := h.runs x hx (by simpa using hrun)
    rw [hkind] at hflight
    exact hw' (hexit (.inr hflight))
  holds hw e he := by
    obtain ⟨x, hx, hplace⟩ := h.holds (fun ht => hw (htoken ht)) e he
    refine ⟨x, List.mem_filter.mpr ⟨hx, ?_⟩, hplace⟩
    by_contra hrun
    exact hplain _ (h.runs x hx (by simpa using hrun)) hplace

/-- The internal refresh task in flight stays queued, with another class (R30, R33). -/
theorem keep (h : d.Sound w) {f : Task → Task} (hplain : ∀ k, d.flight = some (.task k) → k = .refresh)
    (hf : ∀ x ∈ d.tasks, (f x).kind = x.kind ∧ (f x).executing = false ∧ (f x).origin = x.origin ∧ (f x).tag = x.tag ∧
      ((f x).cls = x.cls ∨ x.kind = .refresh)) : ({ d with tasks := d.tasks.map f, flight := none } : Docket).Sound w := by
  have hwaits : ∀ x ∈ d.tasks, x.kind ≠ .refresh → x.executing = false := fun x hx hkind => by
    by_contra hrun
    exact hkind (hplain _ (h.runs x hx (by simpa using hrun)))
  have hsame : ∀ x ∈ d.tasks, x.kind ≠ .refresh → (f x).cls = x.cls := fun x hx hkind => (hf x hx).2.2.2.2.resolve_right hkind
  refine ⟨List.pairwise_map.mpr (h.places.imp_of_mem fun {x y} hx hy hne => ?_), List.forall_mem_map.mpr fun x hx hkind => ?_,
    List.forall_mem_map.mpr fun x hx hkind => ?_, List.forall_mem_map.mpr fun x hx hkind => List.forall_mem_map.mpr fun y hy hne => ?_,
    List.forall_mem_map.mpr fun x hx => ?_, List.forall_mem_map.mpr fun x hx hrun => ?_, (fun _ hk => nomatch hk), List.forall_mem_map.mpr fun x hx => ?_,
    fun e he => List.forall_mem_map.mpr fun x hx hplace => ?_, h.single, h.entries, fun hw => List.forall_mem_map.mpr fun x hx hkind _ => ?_,
    fun hw hw' hdeep hband hmark => ?_, fun hw e he => ?_⟩
  · rw [(hf x hx).1, (hf y hy).1]
    exact hne
  · rw [(hf x hx).1] at hkind
    rw [(hf x hx).2.2.1, hsame x hx (by rw [hkind]; decide)]
    exact h.leaving x hx hkind
  · rw [(hf x hx).1] at hkind
    rw [(hf x hx).2.2.1, hsame x hx (by rw [hkind]; decide)]
    exact h.entering x hx hkind
  · rw [(hf x hx).1] at hkind
    rw [(hf y hy).1] at hne ⊢
    exact ⟨(h.beside x hx hkind y hy hne).1, (hf x hx).2.1⟩
  · rw [(hf x hx).1]
    exact h.fits x hx
  · rw [(hf x hx).2.1] at hrun
    cases hrun
  · rw [(hf x hx).1]
    exact h.calibrates x hx
  · rw [(hf x hx).1] at hplace ⊢
    have hkind : x.kind ≠ .refresh := fun hk => by rw [hk] at hplace; cases hplace
    obtain ⟨hk, hcls, htag, hrun⟩ := h.agrees e he x hx hplace
    refine ⟨hk, (hsame x hx hkind).trans hcls, (hf x hx).2.2.2.1.trans htag, ?_⟩
    rw [(hf x hx).2.1, ← hwaits x hx hkind]
    exact hrun
  · rw [(hf x hx).1] at hkind
    exact h.cool hw x hx hkind (hwaits x hx (by rw [hkind]; decide))
  · obtain ⟨x, hx, hkind, hout⟩ := h.exits hw hw' hdeep hband hmark
    have hplain' : x.kind ≠ .refresh := by rw [hkind]; decide
    refine ⟨f x, List.mem_map_of_mem hx, (hf x hx).1.trans hkind, .inl ?_⟩
    rw [hsame x hx hplain']
    exact hout.resolve_right (by rw [hwaits x hx hplain']; decide)
  · obtain ⟨x, hx, hplace⟩ := h.holds hw e he
    exact ⟨f x, List.mem_map_of_mem hx, by rw [(hf x hx).1]; exact hplace⟩

/-- The calibration in flight is gone and its token given back (R71, R123). -/
theorem uncalibrate (h : d.Sound w) {k : TaskKind} (hflight : d.flight = some (.task k)) (hk : k.place = .calibration) :
    ({ d with tasks := d.tasks.filter (fun x => !(x.kind.place == .calibration)), flight := none, held := none, running := false } : Docket).Sound w := by
  have hmem : ∀ {x}, x ∈ d.tasks.filter (fun x => !(x.kind.place == .calibration)) → x ∈ d.tasks ∧ x.kind.place ≠ .calibration := fun hx =>
    ⟨List.mem_of_mem_filter hx, by simpa using (List.mem_filter.mp hx).2⟩
  refine ⟨h.places.filter _, fun x hx => h.leaving x (hmem hx).1, fun x hx hkind => ?_, fun x hx hkind y hy => h.beside x (hmem hx).1 hkind y (hmem hy).1,
    fun x hx => h.fits x (hmem hx).1, fun x hx hrun => ?_, (fun _ hk => nomatch hk), fun x hx hplace => absurd hplace (hmem hx).2, (fun _ he => nomatch he), ?_,
    fun e he => h.entries e (List.mem_append_right _ he), fun hw x hx => h.cool hw x (hmem hx).1, fun hw hw' hdeep hband hmark => ?_, (fun _ _ he => nomatch he)⟩
  · obtain ⟨horigin, hcls, hstate, -⟩ := h.entering x (hmem hx).1 hkind
    exact ⟨horigin, hcls, hstate, rfl⟩
  · have hx' := h.runs x (hmem hx).1 hrun
    rw [hflight] at hx'
    rw [FlightKind.task.inj (Option.some.inj hx')] at hk
    exact absurd hk (hmem hx).2
  · have hsingle := h.single
    rw [List.length_append] at hsingle
    exact Nat.le_trans (Nat.le_add_left ..) hsingle
  · obtain ⟨x, hx, hkind, hout⟩ := h.exits hw hw' hdeep hband hmark
    exact ⟨x, List.mem_filter.mpr ⟨hx, by simp [hkind, TaskKind.place]⟩, hkind, hout⟩

end Docket.Sound

theorem Engine.flightOf_of_flight {e : Engine} {f : Flight} (hf : e.flight = some f) (r : Slot) :
    e.flightOf r = if f.rank = r then some f.kind else none := by
  by_cases hr : f.rank = r <;> simp [Engine.flightOf, hf, Option.filter_some, hr]

namespace State.InOrder

variable {w : Prop} {v v' : Slot → Waiver} {s t : State}

/-- The task in flight on a channel ends, and the channel's queue changes. -/
theorem endFlight (h : s.InOrder w v) {c : Chan} {l : Queue} {e : Engine} (hl : ∀ x ∈ l.tasks, ∃ y ∈ (s.queue c).tasks, y.rank = x.rank)
    (he : e.flight = none) (hmark : e.resetMark = (s.engine c).resetMark) (hv : ∀ q, (s.rank q).channel ≠ some c → (v q).Le (v' q))
    (hd : w → ∀ r g, (s.rank r).channel = some c → (s.rank r).group = some g → (s.docket c g r).Sound (v r) →
      ({ s.docket c g r with tasks := tasksOf l.tasks r, flight := none } : Docket).Sound (v' r)) : ((s.setQueue c l).setEngine c e).InOrder w v' := by
  refine ⟨(h.1.setQueue fun x hx => .inl (hl x hx)).setEngine fun f hf => ?_, fun hw => ⟨(h.2 hw).groups, (h.2 hw).home, fun r d g hch hg => ?_⟩⟩
  · rw [he] at hf
    cases hf
  · have hs := h.sound hw hch hg
    by_cases hdc : d = c
    · subst hdc
      have hnone : e.flightOf r = none := Engine.flightOf_eq_none fun f hf => by rw [he] at hf; cases hf
      rw [State.docket_setEngine, if_pos rfl, State.docket_setQueue, if_pos rfl, hnone, hmark]
      exact hd hw r g hch hg hs
    · rw [State.docket_setEngine, if_neg hdc, State.docket_setQueue, if_neg hdc]
      exact hs.weaken (hv r fun hc => hdc (Option.some.inj (hch.symm.trans hc)))

/-- The task in flight on a channel, no calibration, ends and leaves the queue (R123). -/
theorem dropFlight (h : s.InOrder w v) {c : Chan} {f : Flight} (hf : (s.engine c).flight = some f)
    (hplain : ∀ k, f.kind = .task k → k.place ≠ .calibration) : ((s.setQueue c { s.queue c with
      tasks := (s.queue c).tasks.filter (fun x => !x.executing) }).setEngine c (s.engine c).ended).InOrder w
        (waiveExit v (fun q => q = f.rank ∧ f.kind = .task .deepExit)) := by
  have hmine : ∀ {r k}, (s.engine c).flightOf r = some k → r = f.rank ∧ f.kind = k := fun hr => by
    rw [Engine.flightOf_of_flight hf] at hr
    split at hr
    · next hfr => exact ⟨hfr.symm, Option.some.inj hr⟩
    · cases hr
  refine h.endFlight (fun x hx => ⟨x, List.mem_of_mem_filter hx, rfl⟩) rfl rfl (fun q _ => le_waiveExit v _ q) fun hw r g hch hg hs => ?_
  rw [tasksOf_filter]
  exact hs.drop (fun k hk => hplain k (hmine hk).2) id (fun he => he.imp_right fun hk => hmine hk) id

theorem keepFlight (h : s.InOrder w v) {c : Chan} {f : Flight} (hf : (s.engine c).flight = some f) (hkind : f.kind = .task .refresh) (cls : TaskClass) :
    ((s.setQueue c { s.queue c with tasks := (s.queue c).tasks.map (Task.keptBy f.rank cls) }).setEngine c (s.engine c).ended).InOrder w v := by
  have hkept : ∀ x : Task, (Task.keptBy f.rank cls x).rank = x.rank ∧ (Task.keptBy f.rank cls x).kind = x.kind ∧
      (Task.keptBy f.rank cls x).executing = false ∧ (Task.keptBy f.rank cls x).origin = x.origin ∧ (Task.keptBy f.rank cls x).tag = x.tag ∧
        ((Task.keptBy f.rank cls x).cls = x.cls ∨ x.kind = .refresh) := fun x => by
    unfold Task.keptBy
    split
    · next hx => exact ⟨rfl, rfl, rfl, rfl, rfl, .inr hx.2⟩
    · exact ⟨rfl, rfl, rfl, rfl, rfl, .inl rfl⟩
  refine h.endFlight (fun x hx => ?_) rfl rfl (fun q _ => ⟨id, id, id⟩) fun hw r g hch hg hs => ?_
  · obtain ⟨y, hy, rfl⟩ := List.mem_map.mp hx
    exact ⟨y, hy, (hkept y).1.symm⟩
  · rw [tasksOf_map fun x _ => (hkept x).1]
    refine hs.keep (fun k hk => ?_) fun x _ => (hkept x).2
    have hk : (s.engine c).flightOf r = some (.task k) := hk
    rw [Engine.flightOf_of_flight hf] at hk
    split at hk
    · rw [hkind] at hk
      exact (FlightKind.task.inj (Option.some.inj hk)).symm
    · cases hk

theorem fillEnded (h : s.InOrder w v) {c : Chan} {f : Flight} (hf : (s.engine c).flight = some f) (hkind : f.kind = .fill) :
    ((s.setQueue c (s.queue c)).setEngine c (s.engine c).ended).InOrder w v := by
  refine h.endFlight (fun x hx => ⟨x, hx, rfl⟩) rfl rfl (fun q _ => ⟨id, id, id⟩) fun hw r g hch hg hs => ?_
  have hnone : ∀ k, (s.docket c g r).flight ≠ some (.task k) := fun k hk => by
    have hk : (s.engine c).flightOf r = some (.task k) := hk
    rw [Engine.flightOf_of_flight hf, hkind] at hk
    split at hk <;> cases hk
  exact { hs with
    runs := fun x hx hrun => absurd (hs.runs x hx hrun) (hnone _)
    flies := (fun _ hk => nomatch hk)
    cool := fun hb => hs.cool hb
    exits := fun hb => hs.exits hb
    holds := fun ht => hs.holds ht }

/-- The completion of refresh work (R33, R38, R161). -/
theorem refreshWorkEnded (h : s.InOrder w v) {c : Chan} {f : Flight} (hf : (s.engine c).flight = some f)
    (hkind : f.kind = .task .refresh ∨ f.kind = .task .refreshNow ∨ f.kind = .fill) (line : CalResult) : (s.flightEnded c f line).InOrder w v := by
  rw [flightEnded_of_refreshWork hkind ((h.1.place c).2 f hf).1]
  have hdropped : ∀ {u : State}, u.InOrder w v → (u.engine c).flight = some f → (∀ k, f.kind = .task k → k.place = .refresh ∨ k.place = .pool) →
      ((u.setQueue c { u.queue c with tasks := (u.queue c).tasks.filter (fun x => !x.executing) }).setEngine c (u.engine c).ended).InOrder w v :=
    fun hu hfu hplace => (hu.dropFlight hfu fun k hk hcal => by
      rcases hplace k hk with hk | hk <;> rw [hk] at hcal <;> cases hcal).weaken fun q => waiveExit_of_not v fun hq => by
        rcases hplace _ hq.2 with hk | hk <;> cases hk
  obtain hk | hk | hk := hkind
  · simp only [hk, FlightKind.task.injEq, reduceCtorEq, if_false, true_and]
    split
    · exact h.keepFlight hf hk _
    · exact hdropped h hf fun k hk' => .inl (by rw [← FlightKind.task.inj (hk.symm.trans hk')]; rfl)
  · simp only [hk, FlightKind.task.injEq, reduceCtorEq, if_false, false_and, if_true]
    have hsame := State.SameWork.completeTag s (s.executingTag c) .done (.count f.n)
    have htold := hdropped (h.same hsame) (by rw [hsame.engine]; exact hf) fun k hk' => .inr (by rw [← FlightKind.task.inj (hk.symm.trans hk')]; rfl)
    rw [hsame.queue, hsame.engine] at htold
    exact htold
  · simp only [hk, reduceCtorEq, if_false, if_true]
    exact h.fillEnded hf hk

end State.InOrder

/-! ### Power tasks that end -/

/-- The kinds of power tasks, with the state each leaves its rank in (R97, R99, R103, R104). -/
inductive PowerEnd : TaskKind → RankState → Prop
  | napEnter : PowerEnd .napEnter .nap
  | napExit : PowerEnd .napExit .online
  | deepEnter : PowerEnd .deepEnter .deep
  | deepExit : PowerEnd .deepExit .settling

theorem powerEnd_of_place {k : TaskKind} (h : k.place = .power) : ∃ st, PowerEnd k st := by
  cases k with
  | napEnter => exact ⟨_, .napEnter⟩
  | napExit => exact ⟨_, .napExit⟩
  | deepEnter => exact ⟨_, .deepEnter⟩
  | deepExit => exact ⟨_, .deepExit⟩
  | refresh | refreshNow | calShort | calLong => cases h

theorem PowerEnd.place {k : TaskKind} {st : RankState} (h : PowerEnd k st) : k.place = .power := by
  cases h <;> rfl

theorem PowerEnd.state {k : TaskKind} {st : RankState} (h : PowerEnd k st) : st ≠ .absent ∧ st ≠ .offline := by
  cases h <;> decide

theorem State.bringOut_setEngine (s : State) {c : Chan} {e : Engine} (he : e.resetMark = (s.engine c).resetMark) (r : Slot) (cause : ExitCause) :
    (s.setEngine c e).bringOut r cause = (s.bringOut r cause).setEngine c e := by
  have hresetting : ∀ d, (s.setEngine c e).resetting d = s.resetting d := fun d => by
    rw [State.resetting, State.engine_setEngine]
    split
    · next hd => rw [hd]; exact he
    · rfl
  unfold State.bringOut
  rw [State.rank_of_setEngine, show (s.setEngine c e).taskAt r .power = s.taskAt r .power from rfl]
  split
  · rfl
  · next d _ =>
    rw [hresetting]
    split
    · rfl
    · split
      · exact State.notice_setEngine (s.insertTask d (exitOf r)) c e _
      · split
        · exact State.notice_setEngine (s.mapTasks d _) c e _
        · rfl

theorem State.powerEnded_setEngine (s : State) (c : Chan) (e : Engine) (r : Slot) (k : TaskKind) (st : RankState) (tag : Option Tag) :
    (s.setEngine c e).powerEnded c r k st tag = (s.powerEnded c r k st tag).setEngine c e :=
  State.completeTag_setEngine ((s.setRank r { s.rank r with
    state := st, settle := if k = .deepExit then some (s.now + s.timing.deepSettle) else (s.rank r).settle }).setQueue c
      { s.queue c with tasks := (s.queue c).tasks.filter (fun y => !y.executing) }) c e tag _ _

/-- A power task's completion before its scan (R97, R99, R103, R104, R107). -/
def State.powerTaken (s : State) (c : Chan) (r : Slot) (k : TaskKind) (st : RankState) (tag : Option Tag) : State :=
  if k = .deepEnter ∧ (s.rank r).band = 3 then (s.powerEnded c r k st tag).bringOut r .entry else s.powerEnded c r k st tag

theorem State.completePower_eq_taken (s : State) (c : Chan) (r : Slot) {k : TaskKind} {st : RankState} (tag : Option Tag) (hk : PowerEnd k st) :
    s.completePower c r k tag = (s.powerTaken c r k st tag).scanRank r := by
  unfold State.powerTaken
  cases hk with
  | napEnter | napExit | deepExit =>
    rw [if_neg fun h => TaskKind.noConfusion h.1]
    rfl
  | deepEnter =>
    simp only [true_and]
    rfl

theorem State.scanRank_setEngine (s : State) {c : Chan} {e : Engine} (he : e.resetMark = (s.engine c).resetMark) (r : Slot) :
    (s.setEngine c e).scanRank r = (s.scanRank r).setEngine c e := by
  unfold State.scanRank
  rw [State.rank_of_setEngine]
  split
  · rfl
  · exact s.scanGroup_setEngine he _

/-- The completion of a power task, with the engine's part first (R161). -/
theorem flightEnded_eq_powerTaken {s : State} {c : Chan} {f : Flight} (line : CalResult) {k : TaskKind} {st : RankState} (hkind : f.kind = .task k)
    (hk : PowerEnd k st) : s.flightEnded c f line =
      ((s.setEngine c (s.engine c).ended).powerTaken c f.rank k st (s.executingTag c)).scanRank f.rank := by
  have hengine : ∀ u : State, (u.powerEnded c f.rank k st (s.executingTag c)).engine c = u.engine c := fun u => State.completeTag_engine _ _ _ _ _
  have hengine' : ∀ u : State, (u.powerTaken c f.rank k st (s.executingTag c)).engine c = u.engine c := fun u => by
    unfold State.powerTaken
    split
    · rw [State.bringOut_frame]
      exact hengine u
    · exact hengine u
  have htaken : ∀ e : Engine, e.resetMark = (s.engine c).resetMark → (s.setEngine c e).powerTaken c f.rank k st (s.executingTag c) =
      (s.powerTaken c f.rank k st (s.executingTag c)).setEngine c e := fun e he => by
    unfold State.powerTaken
    rw [State.powerEnded_setEngine, State.rank_of_setEngine]
    split
    · exact State.bringOut_setEngine _ (by rw [hengine]; exact he) _ _
    · rfl
  have hscanned : ∀ e : Engine, e.resetMark = (s.engine c).resetMark →
      ((s.setEngine c e).powerTaken c f.rank k st (s.executingTag c)).scanRank f.rank =
        ((s.powerTaken c f.rank k st (s.executingTag c)).scanRank f.rank).setEngine c e := fun e he => by
    rw [htaken e he]
    exact State.scanRank_setEngine _ (by rw [hengine']; exact he) _
  rw [hscanned (s.engine c).ended rfl]
  refine State.flightEnded_of fun e hmark _ => ?_
  rw [State.completeFlight_power _ c hkind hk.place, State.completePower_eq_taken _ c f.rank _ hk]
  exact hscanned e hmark

namespace Docket.Sound

variable {w w' : Waiver} {d : Docket}

/-- Beside the DEEP_ENTER or DEEP_EXIT in flight the rank has no task (R101). -/
theorem alone (h : d.Sound w) {k : TaskKind} (hflight : d.flight = some (.task k)) (hk : k = .deepEnter ∨ k = .deepExit) :
    d.tasks.filter (fun x => !x.executing) = [] := by
  obtain hfill | ⟨y, hy, hrun, hkind⟩ := h.flies _ hflight
  · cases hfill
  · have hkind : y.kind = k := (FlightKind.task.inj hkind).symm
    refine List.filter_eq_nil_iff.mpr fun x hx => ?_
    have hsame : x = y := by
      obtain rfl | rfl := hk
      · by_contra hne
        have hx' : x.kind ≠ .deepEnter := fun hx' => hne (h.eq_of_place hx hy (by rw [hx', hkind]))
        have hwaits := (h.beside y hy hkind x hx hx').2
        rw [hrun] at hwaits
        cases hwaits
      · have hx' := (h.fits x hx).2 (h.leaving y hy hkind).1
        exact h.eq_of_place hx hy (by rw [hx', hkind])
    rw [hsame, hrun]
    decide

/-- A rank without tasks whose state changes (R103, R104). -/
theorem moved (h : d.Sound w) (hidle : d.tasks = []) {st : RankState} (hstate : st ≠ .offline)
    (hexit : st = .deep → d.band = 3 → w'.exit) (htoken : w.token → w'.token) : ({ d with state := st } : Docket).Sound w' := by
  have hnone : ∀ {x} {p : Prop}, x ∈ d.tasks → p := fun hx => by
    rw [hidle] at hx
    cases hx
  exact { h with
    leaving := fun x hx => hnone hx
    entering := fun x hx => hnone hx
    fits := fun x hx => hnone hx
    agrees := fun _ _ x hx => hnone hx
    entries := fun e he => ⟨hstate, (h.entries e he).2⟩
    cool := fun _ x hx => hnone hx
    exits := fun _ he hdeep h3 => absurd (hexit hdeep h3) he
    holds := fun ht => h.holds fun ht' => ht (htoken ht') }

/-- A served rank whose state changes to another of those (R16, R18, R97, R99). -/
theorem stays (h : d.Sound w) (hserved : d.state.served = true) {st : RankState} (hst : st.served = true)
    (hdeep : ∀ x ∈ d.tasks, x.kind = .deepEnter → st = .online ∨ st = .nap) : ({ d with state := st } : Docket).Sound w := by
  have hne := RankState.ne_of_served hst
  exact { h with
    leaving := fun x hx hkind => absurd (h.leaving x hx hkind).1 (RankState.ne_of_served hserved).2.2.1
    entering := fun x hx hkind => by
      obtain ⟨horigin, hcls, -, hheld⟩ := h.entering x hx hkind
      exact ⟨horigin, hcls, hdeep x hx hkind, hheld⟩
    fits := fun x hx => ⟨hne.2.2.2, fun hd => absurd hd hne.2.2.1⟩
    entries := fun e he => ⟨hne.2.1, (h.entries e he).2⟩
    cool := fun hb => h.cool hb
    exits := fun _ _ hd => absurd hd hne.2.2.1
    holds := fun ht => h.holds ht }

end Docket.Sound

/-- What the flight of a power task says of its rank (R95, R102, R153). -/
theorem PowerEnd.timerLaw {k : TaskKind} {st : RankState} (hk : PowerEnd k st) {x : Rank} (hx : x.TimerLaw) (hlaw : x.FlightLaw (.task k)) (due : Nat) :
    ({ x with state := st, settle := if k = .deepExit then some due else x.settle } : Rank).TimerLaw := by
  obtain ⟨hinterval, hsettle, hperiodic, hchannel, hgroup⟩ := hx
  obtain ⟨hfits, hstopped⟩ := hlaw
  have hnot : x.state ≠ .absent ∧ (k ≠ .deepExit → x.state ≠ .settling) := by
    obtain hserved | hdeep := FlightKind.fits_served_or_deep hfits
    · have hne := RankState.ne_of_served hserved
      exact ⟨hne.1, fun _ => hne.2.2.2⟩
    · rw [hdeep]
      exact ⟨by decide, fun _ => by decide⟩
  have hout : (x.channel = none ↔ st = .absent) ∧ (x.group = none ↔ st = .absent) :=
    ⟨⟨fun hn => absurd (hchannel.mp hn) hnot.1, fun ha => absurd ha hk.state.1⟩, ⟨fun hn => absurd (hgroup.mp hn) hnot.1, fun ha => absurd ha hk.state.1⟩⟩
  have hsettled : k ≠ .deepExit → x.settle = none := fun hk' => by
    rw [← Option.not_isSome_iff_eq_none, hsettle]
    exact hnot.2 hk'
  cases hk with
  | napEnter => exact ⟨fun _ => rfl, by simp [hsettled], fun hp => ⟨(hperiodic hp).1, .inr rfl⟩, hout⟩
  | napExit => exact ⟨fun _ => rfl, by simp [hsettled], fun hp => ⟨(hperiodic hp).1, .inl rfl⟩, hout⟩
  | deepEnter =>
    obtain ⟨hi, hp⟩ := hstopped rfl
    exact ⟨by simp [hi], by simp [hsettled], by simp [hp], hout⟩
  | deepExit =>
    have hdeep : x.state = .deep := by simpa [FlightKind.fits] using hfits
    refine ⟨fun hi => ?_, by simp, fun hp => ?_, hout⟩
    · have hserved := hinterval hi
      rw [hdeep] at hserved
      cases hserved
    · have hstate := (hperiodic hp).2
      rw [hdeep] at hstate
      exact absurd hstate (by decide)

namespace State.InOrder

variable {w : Prop} {v v' : Slot → Waiver} {s t : State}

/-- No task in flight is of a rank whose channel executes nothing. -/
theorem no_flight_of_none (h : s.InOrder w v) {c : Chan} {r : Slot} (hch : (s.rank r).channel = some c) (hidle : (s.engine c).flight = none) :
    ∀ d, ∀ f ∈ (s.engine d).flight, f.rank ≠ r := fun d f hf hr => by
  have hd := ((h.1.place d).2 f hf).1
  rw [hr, hch] at hd
  rw [← Option.some.inj hd, hidle] at hf
  cases hf

/-- A power task ended and its rank in its new state, but for an exit that comes next (R97, R99, R103, R104). -/
theorem powerEnded (h : s.InOrder w v) {c : Chan} {f : Flight} {k : TaskKind} {st : RankState} (hf : (s.engine c).flight = some f)
    (hkind : f.kind = .task k) (hk : PowerEnd k st) (tag : Option Tag) : ((s.setEngine c (s.engine c).ended).powerEnded c f.rank k st tag).InOrder w
      (waiveExit v (fun q => q = f.rank ∧ k = .deepEnter ∧ (s.rank f.rank).band = 3)) := by
  obtain ⟨hch, hlaw⟩ := (h.1.place c).2 f hf
  rw [hkind] at hlaw
  have hdropped := h.dropFlight hf fun k' hk' hcal => by
    rw [← FlightKind.task.inj (hkind.symm.trans hk')] at hcal
    rw [hk.place] at hcal
    cases hcal
  have hflights := hdropped.no_flight_of_none (c := c) (r := f.rank) hch (by rw [State.engine_setEngine_self]; rfl)
  have htimer : ∀ due : Nat, ({ s.rank f.rank with state := st, settle := if k = .deepExit then some due else (s.rank f.rank).settle } : Rank).TimerLaw :=
    fun due => hk.timerLaw (h.1.1 f.rank) hlaw due
  have hset := hdropped.setRank (v' := waiveExit v (fun q => q = f.rank ∧ k = .deepEnter ∧ (s.rank f.rank).band = 3))
    (htimer (s.now + s.timing.deepSettle)) rfl rfl (fun _ _ => hk.state) (fun d f' hf' hr => absurd hr (hflights d f' hf')) (fun q hq => ?_)
    fun hw d g hd hg hs => ?_
  · exact hset.completeTag tag .done (.rankState st)
  · exact waiveExit_le v fun hp => absurd hp.1 hq
  · obtain rfl := Option.some.inj (hch.symm.trans hd)
    have hold := h.sound hw hch hg
    have hflight : (s.docket c g f.rank).flight = some (.task k) := Engine.flightOf_eq_some.mpr ⟨f, hf, rfl, hkind⟩
    rw [State.docket_setEngine, if_pos rfl, State.docket_setQueue, if_pos rfl] at hs ⊢
    have htasks : k = .deepEnter ∨ k = .deepExit →
        tasksOf ((s.queue c).tasks.filter (fun x => !x.executing)) f.rank = [] := fun hk' => by
      rw [tasksOf_filter]
      exact hold.alone hflight hk'
    have hserved : k = .napEnter ∨ k = .napExit → (s.rank f.rank).state.served = true := fun hk' => by
      rcases hk' with rfl | rfl <;> exact hlaw.1
    have hother : k ≠ .deepExit → ((waiveExit v (fun q => q = f.rank ∧ f.kind = .task .deepExit)) f.rank).Le
        ((waiveExit v (fun q => q = f.rank ∧ k = .deepEnter ∧ (s.rank f.rank).band = 3)) f.rank) := fun hk' =>
      waiveExit_le v fun hp => absurd (FlightKind.task.inj (hkind.symm.trans hp.2)) hk'
    cases hk with
    | napEnter => exact (hs.stays (hserved (.inl rfl)) rfl fun _ _ _ => .inr rfl).weaken (hother (by decide))
    | napExit => exact (hs.stays (hserved (.inr rfl)) rfl fun _ _ _ => .inl rfl).weaken (hother (by decide))
    | deepEnter => exact hs.moved (htasks (.inl rfl)) PowerEnd.deepEnter.state.2 (fun _ h3 => .inr ⟨rfl, rfl, h3⟩) id
    | deepExit => exact hs.moved (htasks (.inr rfl)) PowerEnd.deepExit.state.2 (fun hd => nomatch hd) id

/-- The completion of a power task (R97, R99, R103, R104, R107, R161). -/
theorem powerFlightEnded (h : s.InOrder w v) {c : Chan} {f : Flight} {k : TaskKind} (hf : (s.engine c).flight = some f) (hkind : f.kind = .task k)
    (hplace : k.place = .power) (line : CalResult) : (s.flightEnded c f line).InOrder w v := by
  obtain ⟨st, hk⟩ := powerEnd_of_place hplace
  rw [flightEnded_eq_powerTaken line hkind hk]
  have hended := h.powerEnded hf hkind hk (s.executingTag c)
  have hrank : ((s.setEngine c (s.engine c).ended).powerEnded c f.rank k st (s.executingTag c)).rank f.rank = { s.rank f.rank with
      state := st, settle := if k = .deepExit then some (s.now + s.timing.deepSettle) else (s.rank f.rank).settle } := by
    rw [State.powerEnded, State.completeTag_rank, State.rank_of_setQueue, State.rank_setRank_self]
    rfl
  refine InOrder.scanRank ?_ f.rank
  unfold State.powerTaken
  split
  · next hout =>
    refine hended.bringOut ?_ (fun q hq => waiveExit_of_not v fun hp => hq hp.1) id .entry
    rw [hrank]
    obtain ⟨rfl, -⟩ := hout
    cases hk
    rfl
  · next hout => exact hended.weaken fun q => waiveExit_of_not v fun hp => hout hp.2

end State.InOrder

/-! ### Calibrations that end -/

/-- The completion of a calibration, with the engine's part first (R161). -/
theorem flightEnded_eq_calDone {s : State} {c : Chan} {f : Flight} (line : CalResult) {kind : CalKind} {g : GroupId}
    (hkind : f.kind = .task (calTaskKind kind)) (hg : (s.rank f.rank).group = some g) :
    ∃ result, s.flightEnded c f line = ((s.calDone g f.rank kind result).setEngine c (s.engine c).ended).scanGroup g := by
  obtain ⟨e, hsampled, hended, hmark, -⟩ := s.sampleAtCompletion_eq c f line
  refine ⟨e.result line, ?_⟩
  have hcal : (s.setEngine c e).completeFlight c f (e.result line) = (s.setEngine c e).finishCalibration g f.rank kind (e.result line) := by
    have hg' : ((s.setEngine c e).rank f.rank).group = some g := hg
    unfold State.completeFlight State.completeCal
    cases kind <;> simp only [hkind, calTaskKind, hg']
  have hengine : (s.calDone g f.rank kind (e.result line)).engine c = s.engine c := by
    rw [State.calDone_frame]
    rfl
  have hdone : (s.setEngine c e).completeFlight c f (e.result line) = ((s.calDone g f.rank kind (e.result line)).scanGroup g).setEngine c e := by
    rw [hcal, State.finishCalibration_eq, State.calDone_setEngine]
    exact State.scanGroup_setEngine _ (hmark.trans (congrArg Engine.resetMark hengine.symm)) g
  have hscan : ((s.calDone g f.rank kind (e.result line)).setEngine c (s.engine c).ended).scanGroup g =
      ((s.calDone g f.rank kind (e.result line)).scanGroup g).setEngine c (s.engine c).ended :=
    State.scanGroup_setEngine _ (by rw [hengine]; rfl) g
  rw [hscan, State.flightEnded, hsampled, State.engine_setEngine_self, hdone,
    State.clearFlight, State.engine_setEngine_self, State.setEngine_setEngine, ← hended]
  rfl

theorem State.SameWork.calTold (s : State) (g : GroupId) (r : Slot) (kind : CalKind) (result : CalResult) : s.SameWork (s.calTold g r kind result) := by
  rw [State.calTold_frame]
  exact ⟨rfl, rfl, rfl, rfl⟩

/-- A group whose token is given back, with the entries that wait. -/
def CalGroup.freed (l : List Entry) : CalGroup :=
  { state := .free, holder := none, heldEntry := none, waiting := l, tokenTimer := none, discard := false }

theorem CalGroup.freed_regular (l : List Entry) : (CalGroup.freed l).Regular :=
  ⟨fun _ => ⟨rfl, rfl⟩, by simp [CalGroup.freed], (fun hd => nomatch hd), fun hf => absurd rfl hf⟩

namespace State.InOrder

variable {w : Prop} {v v' : Slot → Waiver} {s t : State}

/-- The calibration in flight gone and its token given back (R71, R123). -/
theorem uncalibrate (h : s.InOrder w v) {c : Chan} {f : Flight} {k : TaskKind} {g : GroupId} (hf : (s.engine c).flight = some f) (hkind : f.kind = .task k)
    (hk : k.place = .calibration) (hg : (s.rank f.rank).group = some g) :
    (((s.setEngine c (s.engine c).ended).removeCalTask f.rank).setGroup g (.freed (s.group g).waiting)).InOrder w v := by
  have hch := ((h.1.place c).2 f hf).1
  have hstate : (s.setEngine c (s.engine c).ended).removeCalTask f.rank = (s.setQueue c { s.queue c with
      tasks := (s.queue c).tasks.filter (fun x => !(x.rank == f.rank && x.kind.place == .calibration)) }).setEngine c (s.engine c).ended := by
    rw [State.removeCalTask, State.rank_of_setEngine, hch]
    rfl
  rw [hstate]
  have hlaw : ((s.setQueue c { s.queue c with
      tasks := (s.queue c).tasks.filter (fun x => !(x.rank == f.rank && x.kind.place == .calibration)) }).setEngine c (s.engine c).ended).RankLaw :=
    (h.1.setQueue fun x hx => .inl ⟨x, List.mem_of_mem_filter hx, rfl⟩).setEngine fun f' hf' => nomatch hf'
  have hheld : w → ∃ e, (s.group g).heldEntry = some e ∧ e.rank = f.rank := fun hw => by
    have hs := h.sound hw hch hg
    obtain hfill | ⟨x, hx, -, hxk⟩ := hs.flies (.task k) (Engine.flightOf_eq_some.mpr ⟨f, hf, rfl, hkind⟩)
    · cases hfill
    · obtain ⟨e, he⟩ := Option.isSome_iff_exists.mp (hs.calibrates x hx (by rw [← FlightKind.task.inj hxk]; exact hk))
      exact ⟨e, CalGroup.heldOf_eq_some.mp he⟩
  refine h.step f.rank (hlaw.congr (fun _ => rfl) (fun _ => rfl) fun _ => rfl) (fun _ _ => rfl) rfl rfl (fun hw g' => ?_) (fun hw g' e he => .inl ?_)
    (fun hw q hq d g' hd hg' hs => ?_) fun hw d g' hd hg' hs => ?_
  · rw [State.group_setGroup]
    split
    · exact CalGroup.freed_regular _
    · exact (h.2 hw).groups g'
  · rw [State.group_setGroup] at he
    split at he
    · next hgg =>
      rw [hgg]
      exact ⟨e, List.mem_append_right _ ((List.mem_append.mp he).elim (fun he => nomatch he) id), rfl⟩
    · exact ⟨e, he, rfl⟩
  · have hsame : (((s.setQueue c { s.queue c with
        tasks := (s.queue c).tasks.filter (fun x => !(x.rank == f.rank && x.kind.place == .calibration)) }).setEngine c (s.engine c).ended).setGroup g
          (.freed (s.group g).waiting)).docket d g' q = s.docket d g' q := by
      obtain ⟨e, he, her⟩ := hheld hw
      obtain ⟨hnone, hrunning⟩ := CalGroup.Regular.heldOf_of_ne he (q := q) (by rw [her]; exact hq)
      refine State.docket_congr rfl ?_ ?_ ?_ ?_ ?_ ?_
      · rw [State.queue_of_setGroup, State.queue_of_setEngine, State.queue_setQueue]
        split
        · next hdc =>
          rw [hdc]
          exact tasksOf_filter_of_others fun x _ hxq => by simp [hxq, hq]
        · rfl
      · rw [State.engine_of_setGroup, State.engine_setEngine]
        split
        · next hdc =>
          rw [hdc, Engine.flightOf_of_flight hf, if_neg (Ne.symm hq)]
          rfl
        · rfl
      · rw [State.engine_of_setGroup, State.engine_setEngine]
        split
        · next hdc => rw [hdc]; rfl
        · rfl
      all_goals rw [State.group_setGroup]
      all_goals split
      · next hgg => rw [hgg, hnone]; rfl
      · rfl
      · next hgg => rw [hgg, hrunning]; rfl
      · rfl
      · next hgg => rw [hgg]; rfl
      · rfl
    rw [hsame]
    exact hs
  · obtain rfl := Option.some.inj (hch.symm.trans hd)
    obtain rfl := Option.some.inj (hg.symm.trans hg')
    have hended := hs.uncalibrate (k := k) (Engine.flightOf_eq_some.mpr ⟨f, hf, rfl, hkind⟩) hk
    have htasks : tasksOf ((s.queue c).tasks.filter (fun x => !(x.rank == f.rank && x.kind.place == .calibration))) f.rank =
        (tasksOf (s.queue c).tasks f.rank).filter (fun x => !(x.kind.place == .calibration)) := by
      rw [tasksOf_filter]
      exact List.filter_congr fun x hx => by simp [(mem_tasksOf.mp hx).2]
    rw [State.docket_setGroup, if_pos rfl, State.docket_setEngine, if_pos rfl, State.docket_setQueue, if_pos rfl, htasks]
    exact hended

end State.InOrder

/-- A docket without entries takes another calibration status. -/
theorem Docket.Sound.recal {w : Waiver} {d : Docket} (h : d.Sound w) (hheld : d.held = none) (hwaiting : d.waiting = []) (cs : CalStatus) :
    ({ d with calStatus := cs } : Docket).Sound w :=
  { h with
    entries := fun e he => by
      rw [show (({ d with calStatus := cs } : Docket).held = none) from hheld,
        show (({ d with calStatus := cs } : Docket).waiting = []) from hwaiting] at he
      cases he
    cool := fun hb => h.cool hb
    exits := fun hb => h.exits hb
    holds := fun ht => h.holds ht }

theorem State.calRank_served {s : State} {g : GroupId} {r : Slot} {result : CalResult} (h : (s.rank r).state.served = true) :
    (s.calRank g r result).state.served = true := by
  unfold State.calRank
  split
  · exact h
  · split
    · show (if (s.rank r).state = .faulted then RankState.online else (s.rank r).state).served = true
      split
      · rfl
      · exact h
    · split
      · exact h
      · split
        · exact h
        · rfl

theorem State.calRank_timerLaw {s : State} {g : GroupId} {r : Slot} {result : CalResult} (hk : (s.rank r).TimerLaw)
    (h : (s.rank r).state.served = true) : (s.calRank g r result).TimerLaw := by
  have hserved := State.calRank_served (g := g) (result := result) h
  have hne := RankState.ne_of_served h
  have hne' := RankState.ne_of_served hserved
  obtain ⟨-, hsettle, hperiodic, hchannel, hgroup⟩ := hk
  have hframe := s.calRank_eq g r result
  refine ⟨fun _ => hserved, ?_, fun hp => ?_, ?_, ?_⟩
  · rw [hframe]
    exact ⟨fun hs => absurd (hsettle.mp hs) hne.2.2.2, fun hs => absurd hs hne'.2.2.2⟩
  · unfold State.calRank at hp ⊢
    split at hp
    · cases hp
    · next hdiscard =>
      rw [if_neg hdiscard]
      split at hp
      · next hok =>
        rw [if_pos hok]
        refine ⟨rfl, ?_⟩
        show (if (s.rank r).state = .faulted then RankState.online else (s.rank r).state) = .online ∨ _
        split
        · exact .inl rfl
        · next hfaulted => exact (RankState.served_iff.mp h).imp_right fun hs => hs.resolve_right hfaulted
      · next hok =>
        rw [if_neg hok]
        split at hp
        · next hfaulted =>
          rw [if_pos hfaulted]
          exact hperiodic hp
        · next hfaulted =>
          rw [if_neg hfaulted]
          split at hp
          · next hfirst =>
            rw [if_pos hfirst]
            exact hperiodic hp
          · cases hp
  · rw [hframe]
    exact ⟨fun hn => absurd (hchannel.mp hn) hne.1, fun hs => absurd hs hne'.1⟩
  · rw [hframe]
    exact ⟨fun hn => absurd (hgroup.mp hn) hne.1, fun hs => absurd hs hne'.1⟩

/-- What waits for a rank's group after a calibration's end is what waited, or that and one entry of the rank (R88, R93). -/
theorem State.calWaits_cases (s : State) (g : GroupId) (r : Slot) (kind : CalKind) (result : CalResult) :
    s.calWaits g r kind result = (s.group g).waiting ∨
      ∃ e : Entry, e.rank = r ∧ e.revocations = 0 ∧ ((s.calRank g r result).calStatus = .never → e.kind = .long) ∧
        (s.calWaits g r kind result = (s.group g).waiting ++ [e] ∨ s.calWaits g r kind result = e :: (s.group g).waiting) := by
  unfold State.calWaits State.calRank
  split
  · exact .inr ⟨s.calAgain g r kind, rfl, rfl, (fun hn => nomatch hn), .inl rfl⟩
  · split
    · exact .inl rfl
    · split
      · exact .inl rfl
      · split
        · exact .inr ⟨s.calRetry g r, rfl, rfl, fun _ => rfl, .inr rfl⟩
        · exact .inl rfl

/-- A calibration's end, its parts in another order: the task and the token, the rank, the list. -/
theorem State.calDone_parts {s : State} {c : Chan} {g : GroupId} {r : Slot} (kind : CalKind) (result : CalResult) (e : Engine)
    (hch : (s.rank r).channel = some c) : (s.calDone g r kind result).setEngine c e =
      ((((((s.calTold g r kind result).setEngine c e).removeCalTask r).setGroup g (.freed (s.group g).waiting)).setRank r (s.calRank g r result)).setGroup g
        (.freed (s.calWaits g r kind result))) := by
  have hremoved : ∀ t : State, (t.rank r).channel = some c → t.removeCalTask r = t.setQueue c { t.queue c with
      tasks := (t.queue c).tasks.filter (fun x => !(x.rank == r && x.kind.place == .calibration)) } := fun t ht => by
    unfold State.removeCalTask
    rw [ht]
    rfl
  have htold : ((s.calTold g r kind result).rank r).channel = some c := by
    rw [(State.SameWork.calTold s g r kind result).rank]
    exact hch
  rw [State.calDone, hremoved _ (by rw [State.rank_setRank_self, State.calRank_eq]; exact hch),
    hremoved ((s.calTold g r kind result).setEngine c e) htold]
  generalize s.calTold g r kind result = u
  exact congrArg (fun t : State => t.setRank r (s.calRank g r result)) (State.setGroup_setGroup ((u.setEngine c e).setQueue c { u.queue c with
    tasks := (u.queue c).tasks.filter (fun x => !(x.rank == r && x.kind.place == .calibration)) }) g (.freed (s.group g).waiting)
      (.freed (s.calWaits g r kind result))).symm

namespace State.InOrder

variable {w : Prop} {v v' : Slot → Waiver} {s t : State}

/-- The completion of a calibration (R87, R88, R93, R161). -/
theorem calFlightEnded (h : s.InOrder w v) {c : Chan} {f : Flight} {kind : CalKind} (hf : (s.engine c).flight = some f)
    (hkind : f.kind = .task (calTaskKind kind)) (line : CalResult) : (s.flightEnded c f line).InOrder w v := by
  obtain ⟨hch, hlaw⟩ := (h.1.place c).2 f hf
  obtain ⟨g, hg⟩ := h.1.group_of_channel hch
  have hserved : (s.rank f.rank).state.served = true := by
    rw [hkind] at hlaw
    cases kind <;> exact hlaw.1
  obtain ⟨result, hended⟩ := flightEnded_eq_calDone line hkind hg
  rw [hended, State.calDone_parts kind result _ hch]
  have hsame := State.SameWork.calTold s g f.rank kind result
  have hfu : ((s.calTold g f.rank kind result).engine c).flight = some f := by rw [hsame.engine]; exact hf
  have hgu : ((s.calTold g f.rank kind result).rank f.rank).group = some g := by rw [hsame.rank]; exact hg
  have hfreed := (h.same hsame).uncalibrate hfu hkind (calTaskKind_place kind) hgu
  rw [hsame.engine, hsame.group] at hfreed
  have hrankOf : ∀ q, ((((s.calTold g f.rank kind result).setEngine c (s.engine c).ended).removeCalTask f.rank).setGroup g
      (.freed (s.group g).waiting)).rank q = s.rank q := fun q => by
    rw [State.rank_of_setGroup, State.removeCalTask, State.rank_of_setEngine, hsame.rank, hch]
    exact hsame.rank q
  have hqueueOf : ∀ x ∈ (((((s.calTold g f.rank kind result).setEngine c (s.engine c).ended).removeCalTask f.rank).setGroup g
      (.freed (s.group g).waiting)).queue c).tasks, x ∈ (s.queue c).tasks := fun x hx => by
    rw [State.queue_of_setGroup, State.removeCalTask, State.rank_of_setEngine, hsame.rank, hch] at hx
    simp only [State.removeTasks, State.queue_setQueue_self, State.queue_of_setEngine, hsame.queue] at hx
    exact List.mem_of_mem_filter hx
  have hengineOf : ((((s.calTold g f.rank kind result).setEngine c (s.engine c).ended).removeCalTask f.rank).setGroup g
      (.freed (s.group g).waiting)).engine c = (s.engine c).ended := by
    rw [State.engine_of_setGroup, State.removeCalTask, State.rank_of_setEngine, hsame.rank, hch]
    exact State.engine_setEngine_self ..
  have hgroupOf : ((((s.calTold g f.rank kind result).setEngine c (s.engine c).ended).removeCalTask f.rank).setGroup g
      (.freed (s.group g).waiting)).group g = .freed (s.group g).waiting := State.group_setGroup_self ..
  generalize (((s.calTold g f.rank kind result).setEngine c (s.engine c).ended).removeCalTask f.rank).setGroup g
    (.freed (s.group g).waiting) = u at hfreed hrankOf hqueueOf hengineOf hgroupOf
  have hheld : w → ∃ e, (s.group g).heldOf f.rank = some e := fun hw => by
    have hs := h.sound hw hch hg
    obtain hfill | ⟨x, hx, -, hxk⟩ := hs.flies (.task (calTaskKind kind)) (Engine.flightOf_eq_some.mpr ⟨f, hf, rfl, hkind⟩)
    · cases hfill
    · exact Option.isSome_iff_exists.mp (hs.calibrates x hx (by rw [← FlightKind.task.inj hxk]; exact calTaskKind_place kind))
  have hwaits : w → (s.group g).waitingOf f.rank = [] := fun hw => by
    obtain ⟨e, he⟩ := hheld hw
    obtain ⟨hentry, her⟩ := CalGroup.heldOf_eq_some.mp he
    have hentry := (h.holder_entry hw hentry).2.1
    rwa [her] at hentry
  have hflights := hfreed.no_flight_of_none (c := c) (r := f.rank) (by rw [hrankOf]; exact hch) (by rw [hengineOf]; rfl)
  have hframe := s.calRank_eq g f.rank result
  have hset : (u.setRank f.rank (s.calRank g f.rank result)).InOrder w v := by
    refine hfreed.setRank (State.calRank_timerLaw (h.1.1 f.rank) hserved) (by rw [hframe, hrankOf]) (by rw [hframe, hrankOf])
      (fun _ _ => ?_) (fun d f' hf' hr => absurd hr (hflights d f' hf')) (fun _ _ => ⟨id, id, id⟩) fun hw d g' hd hg' hs => ?_
    · have hne := RankState.ne_of_served (State.calRank_served (g := g) (result := result) hserved)
      exact ⟨hne.1, hne.2.1⟩
    · rw [hrankOf] at hd hg'
      obtain rfl := Option.some.inj (hch.symm.trans hd)
      obtain rfl := Option.some.inj (hg.symm.trans hg')
      have hold := h.sound hw hch hg
      obtain ⟨e, he⟩ := hheld hw
      have hstays := hs.stays (show (u.rank f.rank).state.served = true by rw [hrankOf]; exact hserved)
        (State.calRank_served (g := g) (result := result) hserved) fun x hx hk => by
          have hmem : x ∈ (s.docket c g f.rank).tasks := mem_tasksOf.mpr ⟨hqueueOf x (mem_tasksOf.mp hx).1, (mem_tasksOf.mp hx).2⟩
          have hnone := (hold.entering x hmem hk).2.2.2
          rw [show (s.docket c g f.rank).held = some e from he] at hnone
          cases hnone
      have hband : (s.calRank g f.rank result).band = (u.rank f.rank).band := by rw [hframe, hrankOf]
      rw [hband]
      refine hstays.recal ?_ ?_ _
      · show (u.group g).heldOf f.rank = none
        rw [hgroupOf]
        rfl
      · show (u.group g).waitingOf f.rank = []
        rw [hgroupOf]
        exact hwaits hw
  refine InOrder.scanGroup ?_ g
  have hgroupNow : (u.setRank f.rank (s.calRank g f.rank result)).group g = .freed (s.group g).waiting := hgroupOf
  obtain hsame | ⟨e, her, hrev, hlong, hl⟩ := s.calWaits_cases g f.rank kind result
  · rw [hsame, ← hgroupNow, State.setGroup_group_same]
    exact hset
  · have hjoin := hset.join (g := g) (e := e) (l := s.calWaits g f.rank kind result) (by rw [hgroupNow]; exact hl) fun hw => by
      rw [her, State.rank_setRank_self, hgroupNow]
      refine ⟨by rw [hframe]; exact hg, rfl, hwaits hw, ?_, by rw [hrev]; decide, hlong⟩
      exact (RankState.ne_of_served (State.calRank_served (g := g) (result := result) hserved)).2.1
    rw [hgroupNow] at hjoin
    exact hjoin

end State.InOrder

/-! ### Completions -/

/-- The values of a reset are in order (R3, R69). -/
theorem State.inOrder_reset {s : State} (h : State.reset.SameWork s) (w : Prop) (v : Slot → Waiver) : s.InOrder w v := by
  obtain ⟨-, -, -, -, hrank, hwork, -⟩ := lawsHoldAtReset
  have hreset : State.reset.InOrder w unwaived := ⟨hrank, fun _ => State.works_of_workLaw hwork⟩
  exact (hreset.same h).weaken fun q => ⟨False.elim, False.elim, False.elim⟩

namespace State.InOrder

variable {w : Prop} {v v' : Slot → Waiver} {s t : State}

theorem flightEnded (h : s.InOrder w v) {c : Chan} {f : Flight} (hf : (s.engine c).flight = some f) (line : CalResult) :
    (s.flightEnded c f line).InOrder w v := by
  cases hkind : f.kind with
  | fill => exact h.refreshWorkEnded hf (.inr (.inr hkind)) line
  | task k =>
    cases k with
    | refresh => exact h.refreshWorkEnded hf (.inl hkind) line
    | refreshNow => exact h.refreshWorkEnded hf (.inr (.inl hkind)) line
    | calShort => exact h.calFlightEnded (kind := .short) hf hkind line
    | calLong => exact h.calFlightEnded (kind := .long) hf hkind line
    | napEnter | napExit | deepEnter | deepExit => exact h.powerFlightEnded hf hkind rfl line

theorem taskEnded (h : s.InOrder w v) {c : Chan} {f : Flight} (hf : (s.engine c).flight = some f) (line : CalResult) :
    (s.taskEnded c f line).InOrder w v := by
  unfold State.taskEnded
  split
  · refine (h.flightEnded hf line).endReset ?_
    rw [State.engine_of_set (s.flightEnded_lines c f line).2.1, if_pos rfl]
    rfl
  · exact h.flightEnded hf line

/-- A completion (R161, R162). -/
theorem completion (h : s.InOrder w v) {c : Chan} {f : Flight} (hf : (s.engine c).flight = some f) (line : CalResult) :
    (s.completion c f line).InOrder w v := by
  have hended := h.taskEnded hf line
  have hidle : ((s.taskEnded c f line).engine c).flight = none := by
    rw [State.engine_of_set (s.taskEnded_lines c f line).2.1, if_pos rfl]
    rfl
  rw [State.completion_eq_taskEnded]
  unfold State.afterCompletion
  split
  · exact hended.runSelection fun _ => hidle
  · split
    · exact hended.setNego c _
    · exact hended.enterReleasing c .recall
  all_goals exact hended

theorem checkDrain (h : s.InOrder w v) (sda : Bool) : (s.checkDrain sda).InOrder w v := by
  unfold State.checkDrain
  split
  · exact State.inOrder_reset (s := s.endDrain sda) ⟨rfl, rfl, rfl, rfl⟩ w v
  · exact h

theorem takeCompletion (h : s.InOrder w v) (c : Chan) (lines : CompletionLines) : (s.takeCompletion c lines).InOrder w v := by
  unfold State.takeCompletion
  split
  · exact h
  · next hf => exact (h.completion hf lines.result).checkDrain lines.sda

/-- The task in flight changes in what no docket shows. -/
theorem reflight (h : s.InOrder w v) {c : Chan} {e : Engine} {f f' : Flight} (hf : (s.engine c).flight = some f) (he : e.flight = some f')
    (hrank : f'.rank = f.rank) (hkind : f'.kind = f.kind) (hmark : e.resetMark = (s.engine c).resetMark) : (s.setEngine c e).InOrder w v := by
  refine ⟨h.1.setEngine fun f'' hf'' => ?_, fun hw => ⟨(h.2 hw).groups, (h.2 hw).home, fun r d g hch hg => ?_⟩⟩
  · rw [Option.mem_def, he] at hf''
    rw [← Option.some.inj hf'', hrank, hkind]
    exact (h.1.place c).2 f hf
  · have hs := h.sound hw hch hg
    by_cases hdc : d = c
    · subst hdc
      have hsame : e.flightOf r = (s.engine d).flightOf r := by
        rw [Engine.flightOf_of_flight he, Engine.flightOf_of_flight hf, hrank, hkind]
      rw [State.docket_setEngine, if_pos rfl, hsame, hmark]
      exact hs
    · rw [State.docket_setEngine, if_neg hdc]
      exact hs

theorem takeSample (h : s.InOrder w v) (c : Chan) (line : CalResult) : (s.takeSample c line).InOrder w v := by
  unfold State.takeSample State.sampleResult
  split
  · exact h
  · next hf =>
    refine h.reflight hf rfl ?_ ?_ rfl
    all_goals split <;> rfl

/-! ### The sensors -/

theorem goodSample (h : s.InOrder w v) (r : Slot) (t : Temp) : (s.goodSample r t).InOrder w v := by
  have htold : ∀ b, (s.sampleTold r t b).InOrder w v := fun b => by
    have hset := h.setRank_quiet (k := { s.rank r with sensorStatus := .good, lastTemp := some t, sensorFailures := 0, bandSource := .sensor })
      (by exact h.1.1 r)
    rw [State.sampleTold_frame]
    exact hset.same ⟨rfl, rfl, rfl, rfl⟩
  rw [State.goodSample_eq]
  exact ((htold _).changeBand r _).driftCheck r t

theorem onFallback (h : s.InOrder w v) (r : Slot) (b : Band) :
    (s.setRank r ((s.rank r).onFallback b)).InOrder w (waiveBand v r ((s.rank r).band ≠ b ∧ b = 3)) :=
  h.setRank_band (k := (s.rank r).onFallback b) (by exact h.1.1 r)

theorem failedRead (h : s.InOrder w v) (r : Slot) (o : ReadOutcome) : (s.failedRead r o).InOrder w v := by
  unfold State.failedRead
  simp only
  split
  · exact h
  · exact h.setRank_quiet (by exact h.1.1 r)
  all_goals
    split
    · exact h.setRank_quiet (by exact h.1.1 r)
    · exact ((h.onFallback r _).notice _).handBand

theorem takeOutcome (h : s.InOrder w v) (o : ReadOutcome) : (s.takeOutcome o).InOrder w v := by
  have hended : s.endRead.InOrder w v := h.setMonitor _
  unfold State.takeOutcome
  simp only
  split
  · exact hended
  · split
    · exact hended
    · split
      · exact hended.goodSample _ _
      all_goals exact hended.failedRead _ _

theorem fallbackSlot (h : s.InOrder w v) (r : Slot) : (s.fallbackSlot r).InOrder w v := by
  unfold State.fallbackSlot
  simp only
  split
  · exact (h.onFallback r _).handBand
  · exact h

theorem recoveryFails (h : s.InOrder w v) : s.recoveryFails.InOrder w v := by
  unfold State.recoveryFails
  exact (foldl allSlots ((h.setMonitor _).setMonitor _) fun u r hu => hu.fallbackSlot r).notice _

theorem startRecovery (h : s.InOrder w v) (sda : Bool) : (s.startRecovery sda).InOrder w v := by
  unfold State.startRecovery
  simp only
  split
  · exact (h.setMonitor _).setMonitor _
  · exact h.setMonitor _

theorem endPulse (h : s.InOrder w v) (sda : Bool) : (s.endPulse sda).InOrder w v := by
  unfold State.endPulse
  simp only
  split
  · exact (h.setMonitor _).setMonitor _
  · split
    · exact h.setMonitor _
    · exact (h.setMonitor _).recoveryFails

theorem endAttempt (h : s.InOrder w v) (e : AttemptEnding) : (s.endAttempt e).InOrder w v := by
  unfold State.endAttempt
  split
  · exact h.startRecovery e.sda
  · exact h.takeOutcome _
  all_goals
    split
    · exact h.setMonitor _
    · exact h.takeOutcome _

theorem attemptEnds (h : s.InOrder w v) (e : AttemptEnding) : (s.attemptEnds e).InOrder w v := by
  unfold State.attemptEnds
  split
  · exact (h.reach _).endAttempt e
  · exact (h.reach _).endAttempt e
  · exact h
  · exact h

theorem clockTimeout (h : s.InOrder w v) (released : Nat) (sda : Bool) : (s.clockTimeout released sda).InOrder w v := by
  unfold State.clockTimeout
  simp only
  split
  · exact (h.reach _).startRecovery sda
  · exact (h.reach _).startRecovery sda
  · exact (h.reach _).recoveryFails
  · exact h

theorem pulseEnds (h : s.InOrder w v) (stretch : Nat) (sda : Bool) : (s.pulseEnds stretch sda).InOrder w v := by
  unfold State.pulseEnds
  simp only
  split
  · split
    · exact (h.reach _).takeOutcome .busFault
    · exact (h.reach _).endPulse sda
  all_goals exact h

theorem poll (h : s.InOrder w v) (scl sda : Bool) : (s.poll scl sda).InOrder w v := by
  unfold State.poll
  simp only
  split
  · split
    · exact h.setMonitor _
    · unfold State.startRead
      simp only
      split
      · exact ((h.setMonitor _).setMonitor _).startRecovery false
      all_goals exact (h.setMonitor _).setMonitor _
  · exact h.setMonitor _

/-! ### The other timers and the window -/

theorem grantExpiry (h : s.InOrder w v) (c : Chan) : (s.grantExpiry c).InOrder w v := by
  unfold State.grantExpiry State.stall
  simp only
  split
  · exact (h.setNego c _).notice _
  · split
    · exact (h.setNego c _).notice _
    · exact h.setNego c _

theorem releaseExpiry (h : s.InOrder w v) (c : Chan) : (s.releaseExpiry c).InOrder w v := by
  unfold State.releaseExpiry
  simp only
  split
  · exact h.setNego c _
  · exact (h.setNego c _).notice _

theorem loseGrant (h : s.InOrder w v) (c : Chan) : (s.loseGrant c).InOrder w v := by
  unfold State.loseGrant
  simp only
  split
  · exact (h.notice _).setNego c _
  · exact (h.notice _).setNego c _

theorem grantFall (h : s.InOrder w v) (c : Chan) : (s.grantFall c).InOrder w v := by
  unfold State.grantFall
  simp only
  split
  · exact (h.setNego c _).loseGrant c
  · split
    · exact h.setNego c _
    · exact (h.setNego c _).loseGrant c
  · exact (h.setNego c _).setNego c _
  all_goals exact h.setNego c _

theorem recallRise (h : s.InOrder w v) (c : Chan) : (s.recallRise c).InOrder w v := by
  unfold State.recallRise
  simp only
  split
  · exact (h.setNego c _).recalled c
  · exact h.setNego c _

theorem writeControl (h : s.InOrder w v) (soft : Bool) (fields : ControlFields) (sda : Bool) : (s.writeControl soft fields sda).InOrder w v := by
  have hset : ∀ n : Nat, ({ s with intEnable := fields.enable, intThreshold := n } : State).InOrder w v := fun _ => h.same ⟨rfl, rfl, rfl, rfl⟩
  have hdrain : ∀ {u : State}, u.InOrder w v → ({ u with drain := true } : State).InOrder w v := fun hu => hu.same ⟨rfl, rfl, rfl, rfl⟩
  unfold State.writeControl
  simp only
  split
  · exact (((hdrain (hset _)).dropRequest .a .drain).dropRequest .b .drain).checkDrain sda
  · exact hset _

theorem popHead (h : s.InOrder w v) : s.popHead.InOrder w v := by
  have hlost : ∀ {u : State}, u.InOrder w v → u.reportLost.InOrder w v := fun hu => by
    unfold State.reportLost
    split
    · exact hu
    · exact (hu.notice _).same ⟨rfl, rfl, rfl, rfl⟩
  unfold State.popHead
  simp only
  split
  · exact h.same ⟨rfl, rfl, rfl, rfl⟩
  · exact hlost (h.same ⟨rfl, rfl, rfl, rfl⟩)

theorem capture (h : s.InOrder w v) (x : SnapshotId) : (s.capture x).InOrder w v := by
  unfold State.capture
  split <;> exact h.same ⟨rfl, rfl, rfl, rfl⟩

theorem expire (h : s.InOrder w v) (timer : Option Nat) {f : State → State}
    (hf : ∀ due, timer = some due → (s.reach due).InOrder w v → (f (s.reach due)).InOrder w v) : (s.expire timer f).InOrder w v := by
  cases timer with
  | none => exact h
  | some due => exact hf due rfl (h.reach due)

end State.InOrder

/-! ### Host commands -/

namespace State.InOrder

variable {w : Prop} {v v' : Slot → Waiver} {s t : State}

theorem badParameter (h : s.InOrder w v) (tag : Tag) (pos : Nat) : (s.badParameter tag pos).InOrder w v := h.complete tag _ _

theorem rankCommand (h : s.InOrder w v) {tag : Tag} {kind : CommandKind} {checks : List (Nat × Bool)} {slot : BitVec 8} {body : Slot → State → State}
    (hbody : firstBad checks = none → ∀ r, stateCheck kind (s.rank r).state = none → (body r s).InOrder w v) :
    (s.rankCommand tag kind checks slot body).InOrder w v := by
  unfold State.rankCommand
  split
  · exact h.badParameter tag _
  · next hchecks =>
    split
    · exact h.badParameter tag _
    · split
      · exact h.complete tag _ _
      · next hstate => exact hbody hchecks _ hstate

theorem insertRefreshNow (h : s.InOrder w v) {r : Slot} (hserved : (s.rank r).state.served = true) (hdeep : s.deepEnterQueued r = false)
    (hnone : (s.taskAt r .pool).isSome = false) (count : Nat) (tag : Tag) : (s.insertRefreshNow r count tag).InOrder w v := by
  have hne := RankState.ne_of_served hserved
  unfold State.insertRefreshNow
  split
  · exact h
  · next c hch =>
    refine h.insertTask hch hne.1 hne.2.1 (fun _ _ => rfl) fun hw g hg n hs => ?_
    have hother := (h.2 hw).noDeepEnter hch hg hdeep
    refine hs.insert rfl (fun y hy hplace => ?_) (fun hk => nomatch hk) (fun hk => nomatch hk) (fun _ => hother) (fun y hy hk => absurd hk (hother y hy))
      ⟨hne.2.2.2, fun hd => absurd hd hne.2.2.1⟩ fun hplace => nomatch hplace
    obtain ⟨hy, hyr⟩ := mem_tasksOf.mp hy
    exact Bool.noConfusion (hnone.symm.trans ((State.taskAt_isSome_iff hch).mpr ⟨y, hy, hyr, hplace⟩))

/-- A power command's task joins the queue (R95, R97, R99, R100, R104). -/
theorem insertPower (h : s.InOrder w v) {r : Slot} {kind : TaskKind} (hplace : kind.place = .power)
    (hstate : (s.rank r).state = .online ∨ (s.rank r).state = .nap ∨ ((s.rank r).state = .deep ∧ kind = .deepExit))
    (hexit : kind = .deepExit → (s.rank r).state = .deep) (hnone : s.hasPowerTask r = false)
    (hdeep : kind = .deepEnter → (s.rank r).band ≠ 3 ∧ s.deepBusy r = false) (tag : Tag) : (s.insertPower r kind tag).InOrder w v := by
  unfold State.insertPower
  split
  · exact h
  · next c hch =>
    refine h.insertTask hch (fun hs => ?_) (fun hs => ?_) (fun _ _ => rfl) fun hw g hg n hs => ?_
    · rw [hs] at hstate
      simp at hstate
    · rw [hs] at hstate
      simp at hstate
    · have hfree : ∀ y ∈ tasksOf (s.queue c).tasks r, y.kind.place ≠ .power := fun y hy hy' => by
        obtain ⟨hy, hyr⟩ := mem_tasksOf.mp hy
        exact Bool.noConfusion (hnone.symm.trans ((State.taskAt_isSome_iff hch).mpr ⟨y, hy, hyr, hy'⟩))
      have hother : ∀ y ∈ tasksOf (s.queue c).tasks r, y.kind ≠ .deepEnter := fun y hy hk => hfree y hy (by rw [hk]; rfl)
      refine hs.insert rfl (fun y hy hy' => hfree y hy (hy'.trans hplace)) (fun hk => ⟨hexit hk, .inl ⟨rfl, .inl rfl⟩⟩) (fun hk => ?_)
        (fun _ => hother) (fun y hy hk => absurd hk (hother y hy)) ⟨fun hd => ?_, fun hd => ?_⟩ fun hcal => ?_
      · have hk : kind = .deepEnter := hk
        obtain ⟨hband, hbusy⟩ := hdeep hk
        have hbusy : ¬ s.deepBusy r = true := by rw [hbusy]; decide
        rw [State.deepBusy_iff hch, not_or] at hbusy
        have hheld : (s.docket c g r).held = none := Option.eq_none_iff_forall_ne_some.mpr fun e he => by
          obtain ⟨he, her⟩ := CalGroup.heldOf_eq_some.mp he
          exact hbusy.2 ⟨g, hg, .inl (by rw [(((h.2 hw).groups g).holder_of_entry he).2, her])⟩
        refine ⟨rfl, rfl, ?_, hheld, hband, fun y hy => ?_⟩
        · exact hstate.imp_right fun hs => hs.resolve_right fun hd => by rw [hk] at hd; exact TaskKind.noConfusion hd.2
        · obtain ⟨hyq, hyr⟩ := mem_tasksOf.mp hy
          cases hky : y.kind with
          | refresh => rfl
          | refreshNow => exact absurd ⟨y, hyq, hyr, hky⟩ hbusy.1
          | calShort | calLong =>
            have hsome := hs.calibrates y hy (by rw [hky]; rfl)
            rw [hheld] at hsome
            cases hsome
          | napEnter | napExit | deepEnter | deepExit => exact absurd (by rw [hky]; rfl) (hfree y hy)
      · have hd : (s.rank r).state = .settling := hd
        rw [hd] at hstate
        simp at hstate
      · have hd : (s.rank r).state = .deep := hd
        rw [hd] at hstate
        simpa using hstate
      · exact TaskSlot.noConfusion (hplace.symm.trans hcal)

/-- An accepted command taken (R172). -/
theorem takeCommand (h : s.InOrder w v) (tag : Tag) (c : HostCommand) : (Machine.takeCommand tag c s).InOrder w v := by
  have hserved : ∀ {k : CommandKind} {st : RankState}, k = .refreshNow ∨ k = .calibrate → stateCheck k st = none → st.served = true := by
    rintro k st (rfl | rfl) hst <;> cases st <;> simp [stateCheck, RankState.served] at hst ⊢
  cases c with
  | configureRank slot channel group address present =>
    refine h.rankCommand fun hchecks r hstate => ?_
    have hout : (s.rank r).state = .absent ∨ (s.rank r).state = .offline := by
      cases hs : (s.rank r).state <;> rw [hs] at hstate <;> simp [stateCheck] at hstate ⊢
    have hall := firstBad_eq_none hchecks
    simp only
    split
    · exact h.badParameter tag _
    · refine (h.configure hout (hall (channelPosition, (chanOf channel).isSome) ?_) (hall (position 1 0, (groupOf group).isSome) ?_) _).complete tag _ _
      · simp [configureChecks]
      · simp [configureChecks]
  | removeRank slot =>
    refine h.rankCommand fun _ r hstate => ?_
    have hout : (s.rank r).state = .offline := by
      cases hs : (s.rank r).state <;> rw [hs] at hstate <;> simp [stateCheck] at hstate ⊢
    exact (h.removeRank hout).complete tag _ _
  | bringOnline slot =>
    refine h.rankCommand fun _ r hstate => ?_
    have hout : (s.rank r).state = .offline := by
      cases hs : (s.rank r).state <;> rw [hs] at hstate <;> simp [stateCheck] at hstate ⊢
    exact (h.bringOnline hout).complete tag _ _
  | takeOffline slot =>
    refine h.rankCommand fun _ r hstate => ?_
    have hin : (s.rank r).state ≠ .settling ∧ (s.rank r).state ≠ .absent := by
      cases hs : (s.rank r).state <;> rw [hs] at hstate <;> simp [stateCheck] at hstate ⊢
    obtain ⟨ch, hch⟩ := Option.ne_none_iff_exists'.mp fun hn => hin.2 ((h.1.1 r).2.2.2.1.mp hn)
    split
    · exact h.complete tag _ _
    · next hidle => exact (h.takeOffline hch hin.1 (by simpa using hidle)).complete tag _ _
  | queryRank slot => exact h.rankCommand fun _ r _ => h.complete tag _ _
  | setBand slot band =>
    refine h.rankCommand fun _ r _ => ?_
    split
    · exact h.complete tag _ _
    · exact (h.changeBand r _).complete tag _ _
  | setTiming f =>
    show (runSetTiming tag f s).InOrder w v
    unfold runSetTiming
    simp only
    split
    · exact h.badParameter tag _
    · split_ifs
      · exact h.complete tag _ _
      · exact h.badParameter tag _
      · exact InOrder.complete (s := { s with timing := timingOf f }) (h.same ⟨rfl, rfl, rfl, rfl⟩) tag _ _
  | setRefreshPolicy f =>
    show (runSetRefreshPolicy tag f s).InOrder w v
    unfold runSetRefreshPolicy
    simp only
    split
    · exact h.badParameter tag _
    · split
      · exact h.badParameter tag _
      · split
        · exact h.badParameter tag _
        · split
          · exact h.complete tag _ _
          · have hset : ({ s with policy := policyOf f } : State).InOrder w v := h.same ⟨rfl, rfl, rfl, rfl⟩
            exact (foldl allSlots hset fun u r hu => hu.reevaluate r).complete tag _ _
  | setThermal f =>
    show (runSetThermal tag f s).InOrder w v
    unfold runSetThermal
    split
    · exact h.badParameter tag _
    · have hset : ({ s with thermal := thermalOf f } : State).InOrder w v := h.same ⟨rfl, rfl, rfl, rfl⟩
      have htaken : (allSlots.foldl State.takeFallback { s with thermal := thermalOf f }).InOrder w v := foldl allSlots hset fun u r hu => by
        unfold State.takeFallback
        simp only
        split
        · exact hu.changeBand r _
        · exact hu
      refine InOrder.complete ?_ tag _ _
      unfold State.resumePolling
      split
      · exact htaken
      · exact htaken.setMonitor _
  | flushHost channel =>
    show (runFlushHost tag channel s).InOrder w v
    unfold runFlushHost
    split
    · exact h.badParameter tag _
    · exact (h.flush _).complete tag _ _
  | resetChannel channel =>
    show (runResetChannel tag channel s).InOrder w v
    unfold runResetChannel
    split
    · exact h.badParameter tag _
    · exact InOrder.resetChannel (s := s.noteRemoved tag _) (h.same ⟨rfl, rfl, rfl, rfl⟩) _
  | refreshNow slot count =>
    refine h.rankCommand fun _ r hstate => ?_
    split_ifs with hdeep hpool hfull
    · exact h.complete tag _ _
    · exact h.complete tag _ _
    · exact h.complete tag _ _
    · exact h.insertRefreshNow (hserved (.inl rfl) hstate) (by simpa using hdeep) (by simpa using hpool) _ tag
  | calibrate slot kind =>
    refine h.rankCommand fun _ r hstate => ?_
    split_ifs
    · exact h.complete tag _ _
    · exact h.complete tag _ _
    · exact h.complete tag _ _
    · exact h.request (hserved (.inr rfl) hstate) _ _ _
  | napEnter slot =>
    refine h.rankCommand fun _ r hstate => ?_
    have honline : (s.rank r).state = .online := by
      cases hs : (s.rank r).state <;> rw [hs] at hstate <;> simp [stateCheck] at hstate ⊢
    split
    · exact h.complete tag _ _
    · next hpower => exact h.insertPower (kind := .napEnter) rfl (.inl honline) (fun hk => nomatch hk) (by simpa using hpower) (fun hk => nomatch hk) tag
  | napExit slot =>
    refine h.rankCommand fun _ r hstate => ?_
    have hnap : (s.rank r).state = .nap := by
      cases hs : (s.rank r).state <;> rw [hs] at hstate <;> simp [stateCheck] at hstate ⊢
    split
    · exact h.complete tag _ _
    · next hpower => exact h.insertPower (kind := .napExit) rfl (.inr (.inl hnap)) (fun hk => nomatch hk) (by simpa using hpower) (fun hk => nomatch hk) tag
  | deepEnter slot =>
    refine h.rankCommand fun _ r hstate => ?_
    have hawake : (s.rank r).state = .online ∨ (s.rank r).state = .nap := by
      cases hs : (s.rank r).state <;> rw [hs] at hstate <;> simp [stateCheck] at hstate ⊢
    split_ifs with hpower hband hbusy
    · exact h.complete tag _ _
    · exact h.complete tag _ _
    · exact h.complete tag _ _
    · exact h.insertPower (kind := .deepEnter) rfl (hawake.imp_right .inl) (fun hk => nomatch hk) (by simpa using hpower) (fun _ => ⟨hband, by simpa using hbusy⟩) tag
  | deepExit slot =>
    refine h.rankCommand fun _ r hstate => ?_
    have hdeep : (s.rank r).state = .deep := by
      cases hs : (s.rank r).state <;> rw [hs] at hstate <;> simp [stateCheck] at hstate ⊢
    split
    · exact h.complete tag _ _
    · next hpower => exact h.insertPower rfl (.inr (.inr ⟨hdeep, rfl⟩)) (fun _ => hdeep) (by simpa using hpower) (fun hk => nomatch hk) tag

theorem submit (h : s.InOrder w v) (tag : Tag) (c : Option HostCommand) : (s.submit tag c).InOrder w v := by
  obtain ⟨status, -, -, hs⟩ | ⟨x, -, -, hs⟩ := s.submit_cases tag c
  · rw [hs]
    exact h.same ⟨rfl, rfl, rfl, rfl⟩
  · rw [hs]
    exact InOrder.takeCommand (s := s.accept tag x) (h.same ⟨rfl, rfl, rfl, rfl⟩) tag x

theorem writeRegister (h : s.InOrder w v) (offset : Nat) (x : WindowWrite) : (s.writeRegister offset x).InOrder w v := by
  unfold State.writeRegister
  simp only
  split_ifs
  · exact h
  · exact h.writeControl _ _ _
  · exact h.submit _ _
  · exact h.same ⟨rfl, rfl, rfl, rfl⟩
  · exact h

end State.InOrder

/-! ### Every step -/

theorem State.HandshakeLaw.idle_of_waiting {s : State} (h : s.HandshakeLaw) {c : Chan}
    (hstate : (s.nego c).state = .requesting ∨ (s.nego c).state = .stalled) : (s.engine c).flight = none := by
  obtain ⟨-, -, -, -, -, -, ⟨-, hrequesting, hstalled, -⟩, -⟩ := h.channel c
  obtain hstate | hstate := hstate
  · exact (hrequesting hstate).2.2.1
  · exact (hstalled hstate).2.2.2.1

theorem effectOf_inOrder (i : Instr) {s : State} {w : Prop} (h : s.InOrder w unwaived) (hw : w → s.HandshakeLaw) :
    (effectOf i s).InOrder w unwaived := by
  have hhost : ∀ tag c, (hostEffect tag c s).InOrder w unwaived := fun tag c =>
    State.InOrder.submit (s := { s with staging := stageRecord tag c s.staging }) (h.same ⟨rfl, rfl, rfl, rfl⟩) tag _
  cases i with
  | configureRank | removeRank | bringOnline | takeOffline | queryRank | setBand | setTiming | setRefreshPolicy | setThermal | flushHost | resetChannel
  | refreshNow | calibrate | napEnter | napExit | deepEnter | deepExit => exact hhost _ _
  | unknownCommand word0 => exact State.InOrder.submit (s := { s with staging := s.staging.set 0 word0 }) (h.same ⟨rfl, rfl, rfl, rfl⟩) _ _
  | softReset | interruptEnable | intThreshold => exact h.writeControl _ _ _
  | pop => exact h.popHead
  | snapshotCapture x => exact h.capture x
  | registerWrite offset write => exact h.writeRegister _ _
  | powerOnReset | resetNRise => exact h
  | qgntRise c =>
    simp only [effectOf]
    split
    · exact h
    · exact h.grantRise fun hw' => (hw hw').idle_of_waiting
  | qgntFall c =>
    simp only [effectOf]
    split
    · exact h.grantFall c
    · exact h
  | qrclRise c =>
    simp only [effectOf]
    split
    · exact h
    · exact h.recallRise c
  | qrclFall c => exact h.setNego c _
  | intervalExpiry r =>
    refine h.expire _ fun due hdue hu => hu.takeInterval ?_
    obtain ⟨it, hit, -⟩ := Option.map_eq_some_iff.mp hdue
    exact Option.isSome_iff_exists.mpr ⟨it, hit⟩
  | settleExpiry r => exact h.expire _ fun due hdue hu => hu.endSettle (Option.isSome_iff_exists.mpr ⟨due, hdue⟩)
  | tokenHoldExpiry g => exact h.expire _ fun due hdue hu => hu.revoke (Option.isSome_iff_exists.mpr ⟨due, hdue⟩)
  | periodicExpiry r => exact h.expire _ fun _ _ hu => (hu.stoppedPeriodic r).internalRequest r .short .periodic
  | grantTimerExpiry c => exact h.expire _ fun _ _ hu => hu.grantExpiry c
  | releaseTimerExpiry c => exact h.expire _ fun _ _ hu => hu.releaseExpiry c
  | taskCompletion c lines => exact h.expire _ fun _ _ hu => hu.takeCompletion c lines
  | calResultSample c line => exact h.expire _ fun _ _ hu => hu.takeSample c line
  | pollTimerExpiry scl sda => exact h.expire _ fun _ _ hu => hu.poll scl sda
  | attemptEnd e => exact h.attemptEnds e
  | clockStretchTimeout released sda => exact h.clockTimeout released sda
  | recoveryPulse stretch sda => exact h.pulseEnds stretch sda
  | timestampTick => exact h.same ⟨rfl, rfl, rfl, rfl⟩

/-- Settles O58: the work is in order rank by rank, and every operation of an event keeps it so but for what it has still to do. -/
theorem rankLawKept : Obligations.RankLawKept := by
  intro s t hstep hrank
  have hlaws : ∀ {u : State}, u.InOrder (s.HandshakeLaw ∧ s.WorkLaw) unwaived → u.RankLaw ∧ (s.HandshakeLaw → s.WorkLaw → u.WorkLaw) := fun hu =>
    ⟨hu.1, fun hh hw => (hu.2 ⟨hh, hw⟩).workLaw hu.1⟩
  have hs : s.InOrder (s.HandshakeLaw ∧ s.WorkLaw) unwaived := ⟨hrank, fun hw => State.works_of_workLaw hw.2⟩
  have hreset : ∀ {u : State}, State.reset.SameWork u → u.RankLaw ∧ (s.HandshakeLaw → s.WorkLaw → u.WorkLaw) := fun hu =>
    hlaws (State.inOrder_reset hu _ _)
  obtain rfl | ⟨i, rest, -, hi⟩ := step_cases s t hstep
  · exact hlaws (hs.same ⟨rfl, rfl, rfl, rfl⟩)
  · have hrest : ({ s with pending := rest } : State).InOrder (s.HandshakeLaw ∧ s.WorkLaw) unwaived := hs.same ⟨rfl, rfl, rfl, rfl⟩
    obtain rfl | rfl | ⟨la, lb, rfl⟩ | ⟨-, rfl⟩ := exec_cases i _ t hi
    · exact hlaws hrest
    · exact hreset ⟨rfl, rfl, rfl, rfl⟩
    · exact hreset ⟨rfl, rfl, rfl, rfl⟩
    · exact hlaws ((effectOf_inOrder i hrest fun hw => hw.1).same (.settle _))

end Sys2Proof.Machine
end
